-- ==== Sys2Proof/Word.lean ====
section
/-! DEFINITION. The 48-bit word of the AZL-6416 (R1), and the narrower vectors its fields use. -/

namespace Sys2Proof

/-- "Word" always means a 48-bit word (section 0.4); bit 47 is the most significant bit (R1). -/
abbrev Word := BitVec 48

/-- A chain address, 6 bits: 0 host, 1-32 device, 62 broadcast, 63 unassigned (R107). -/
abbrev Addr := BitVec 6

/-- A handle ID: GEN in [15:14], INDEX in [13:0] (R118). -/
abbrev HandleId := BitVec 16

/-- One of the four boost banks A-D (R27). -/
abbrev Bank := Fin 4

/-- A local valve VLV00-VLV63 (R27). -/
abbrev Valve := Fin 64

/-- A load switch LSW00-LSW15 (section 9.1). -/
abbrev Sw := Fin 16

/-- A Pointer channel 0-15 (section 11.5). -/
abbrev PChan := Fin 16

end Sys2Proof
end

