-- ==== Sys2Proof/Syntax.lean ====
section
/-! DEFINITION. The commands of the block: one constructor per row of spec/opcode_table.json. Every command carries
`dt`, the core ticks (10 ns) that have passed since the command before it (log entry 1). A request row carries the
request packet that core 0 evaluates; the row fixes its opcode. An event row carries what the happening names and
what the part measures in it. -/

namespace Sys2Proof

/-- The two Lingaris ports of a device (section 3.1). -/
inductive Side where
  | up
  | down
deriving DecidableEq, Repr

/-- The two access paths of the registers (R155). -/
inductive Path where
  | svc
  | link
deriving DecidableEq, Repr

/-- A request that the device has consumed: the port it arrived on, the header fields of R107 other than OPC, LEN
and REPLY, and the payload words. LEN is the number of words. -/
structure Request where
  port    : Side := .up
  dst     : Addr := 1
  src     : Addr := 0
  tag     : BitVec 14 := 0
  noreply : Bool := false
  urgent  : Bool := false
  words   : List Word := []
deriving DecidableEq, Repr

/-- A Coell packet: the header word of R107 and its payload. -/
structure Packet where
  header : Word
  words  : List Word
deriving DecidableEq, Repr

/-- What a read of a protected memory finds (R14, R16, R17). -/
inductive Ecc where
  /-- no bit in error -/
  | clean
  /-- one bit in error: corrected, written back and counted (R14) -/
  | corrected
  /-- two bits in error in the shared SRAM (R16) -/
  | uncorrectable
  /-- two bits in error in the engine's scratchpad (R17, R419) -/
  | scratchpad
deriving DecidableEq, Repr

/-- The content of an ARM frame (section 1.5, section 8.3): channel, open and close instants, shape set and row,
whether DERATE_I stands in place of HAIRLINE_I (R280), and the handle ID. Instants are full times in ticks. -/
structure ArmFrame where
  valve  : Valve
  cOn    : Int
  cOff   : Int
  set    : Bool
  row    : Fin 8
  derate : Bool
  handle : HandleId
deriving DecidableEq, Repr

/-- Outcome that an OFF report carries (R267, R268, R282). -/
inductive PulseOutcome where
  | fired
  | cut
  | valveFault
deriving DecidableEq, Repr

/-- REPORT of kind SWELL_END (R267): time-to-peak in microseconds, signature after C_on in 0.1 microsecond, energy
drawn in the Swell, and the diagnostic so far (R274). -/
structure SwellReport where
  valve  : Valve
  handle : HandleId
  ttp    : Option Nat
  sig    : Option Nat
  drawn  : Nat
  diag   : BitVec 3
deriving DecidableEq, Repr

/-- REPORT of kind OFF (R267): energy returned during the pulse, diagnostic code and outcome; the samples and the
voltage at C_on serve a VALVE_TEST (R290). -/
structure OffReport where
  valve     : Valve
  handle    : HandleId
  recovered : Nat
  diag      : BitVec 3
  outcome   : PulseOutcome
  samples   : List (BitVec 12)
deriving DecidableEq, Repr

/-- What an ALERT reports (section 1.5): a driver protection event or the boost status of the Quill's banks. -/
inductive AlertMsg where
  | short (v : Valve)
  | openCoil (v : Valve)
  | overTemp
  | cooled
  | boostStatus (ready : BitVec 2)
deriving DecidableEq, Repr

/-- The frames of the Scribe-Quill and Scribe-Ferrule links (section 1.5). `off` of a CUT is the channel mask of
the Quill's 32 channels. -/
inductive D2dMsg where
  | arm (f : ArmFrame)
  | cut (mask : BitVec 32)
  | shape (set : Bool) (row : Fin 8) (value : Word)
  | adjust (delete : Bool) (atTick : Int)
  | step (amount : Int) (atTick : Int)
  | heartbeat (instant : BitVec 48)
  | swellEnd (r : SwellReport)
  | off (r : OffReport)
  | alert (a : AlertMsg)
deriving DecidableEq, Repr

/-- A CAN frame as R337 lays it out. `data` holds the bytes received or sent. -/
structure CanFrame where
  ide  : Bool
  rtr  : Bool
  dlc  : BitVec 4
  id   : BitVec 29
  data : List (BitVec 8)
deriving DecidableEq, Repr

/-- The levels of RF_S and RF_M at one rising edge of RF_CLK (R356). -/
structure RfPair where
  s : Bool
  m : Bool
deriving DecidableEq, Repr

/-- What happens at the sample-block FIFO: a sample arrives, or the Retriever takes the oldest entry (R59). -/
inductive BlockStep where
  | sample (p : RfPair)
  | read
deriving DecidableEq, Repr

/-- What the Ferrule measures in the tick of a SWITCH_STATUS (R308): per channel the current in 10 mA and the
junction temperature, which channels conduct at their limit, and the die temperature. -/
structure SwitchMeas where
  current  : Vector (BitVec 12) 16
  temp     : Vector (BitVec 8) 16
  limiting : BitVec 16
  ferruleT : BitVec 8
deriving DecidableEq, Repr

/-- The port a completion leaves on, or none when its DST is the device itself (R124). -/
inductive Route where
  | port (s : Side)
  | own
deriving DecidableEq, Repr

/-- The commands, in the order of spec/opcode_table.json. -/
inductive Instr where
  | supplyValid (dt : Nat)
  | resetNLow (dt : Nat) (joined : Bool)
  | resetNRise (dt : Nat)
  | vbatLoss (dt : Nat)
  | vioLoss (dt : Nat)
  | vbatLow (dt : Nat)
  | vbatRecover (dt : Nat) (above165 : Bool) (stay : Nat)
  | vbatUv (dt : Nat)
  | vbatHigh (dt : Nat)
  | railsValid (dt : Nat)
  | referenceSelect (dt : Nat) (refin : Bool)
  | pllLock (dt : Nat)
  | firmwareCheck (dt : Nat) (activeOk otherOk : Bool)
  | sramClear (dt : Nat) (psramOk : Bool)
  | d2dTraining (dt : Nat)
  | startOpenLoadCheck (dt : Nat) (highFirst highSecond : BitVec 16)
  | boostBankBegin (dt : Nat) (b : Bank)
  | boostPrechargeDone (dt : Nat) (b : Bank)
  | boostRegulation (dt : Nat) (b : Bank)
  | boostStartFail (dt : Nat) (b : Bank)
  | startSwitchOn (dt : Nat)
  | startingComplete (dt : Nat)
  | referenceLoss (dt : Nat)
  | referenceReturn (dt : Nat)
  | holdoverLimitExpiry (dt : Nat)
  | rfClkLoss (dt : Nat) (absent : Bool)
  | rfClkRecover (dt : Nat)
  | bridgeEpoch (dt : Nat) (edges : BitVec 48) (delta : Fin 13)
  | arm (dt : Nat) (q : Fin 2) (f : ArmFrame)
  | cut (dt : Nat) (q : Fin 2) (mask : BitVec 32)
  | shape (dt : Nat) (q : Fin 2) (set : Bool) (row : Fin 8) (value : Word)
  | adjust (dt : Nat) (q : Fin 2) (delete : Bool) (atTick : Int)
  | d2dStep (dt : Nat) (q : Fin 2) (amount : Int) (atTick : Int)
  | mirrorAdjust (dt : Nat)
  | d2dCrcFail (dt : Nat) (link : Fin 3) (m : D2dMsg)
  | d2dAckTimeout (dt : Nat) (link : Fin 3) (m : D2dMsg)
  | heartbeatSend (dt : Nat)
  | heartbeat (dt : Nat) (link : Fin 3) (instant : BitVec 48)
  | heartbeatTimeout (dt : Nat) (link : Fin 3)
  | scribeSupplyFault (dt : Nat)
  | forwardedClockStop (dt : Nat) (q : Fin 2) (coreClock : Bool)
  | scribeResume (dt : Nat)
  | scrub (dt : Nat) (found : Ecc) (rewritten : Bool)
  | packetReceived (dt : Nat) (side : Side) (urgentSof : Bool) (slots : Nat) (eofBad : Bool) (p : Packet) (crcWord : Word) (ecc : Ecc)
  | packetForward (dt : Nat) (side : Side) (urgent : Bool) (ecc : Ecc)
  | replyReceived (dt : Nat) (side : Side) (p : Packet) (sub : Nat)
  | orderedSetDiscard (dt : Nat) (side : Side)
  | train (dt : Nat) (side : Side) (stepNo : Fin 3)
  | trainingDone (dt : Nat) (side : Side) (tHop : Nat)
  | ack (dt : Nat) (side : Side) (urgent : Bool) (seq : BitVec 12)
  | nak (dt : Nat) (side : Side) (urgent : Bool) (seq : BitVec 12) (ecc : Ecc)
  | credit (dt : Nat) (side : Side) (urgent : Bool) (freed : BitVec 12)
  | creditSend (dt : Nat) (side : Side) (urgent : Bool)
  | ackSend (dt : Nat) (side : Side) (urgent : Bool)
  | replayTimeout (dt : Nat) (side : Side) (urgent : Bool) (ecc : Ecc)
  | portTrainTimeout (dt : Nat) (side : Side)
  | portDown (dt : Nat) (side : Side)
  | portHoldExpiry (dt : Nat) (side : Side)
  | breakSet (dt : Nat) (side : Side) (addr : Addr) (downLost : Bool)
  | timemarkSend (dt : Nat) (sub : Nat)
  | timemark (dt : Nat) (departure : BitVec 22) (fraction : BitVec 10) (sub : Nat)
  | echoMeasure (dt : Nat) (k : Addr) (sub : Nat)
  | enumerateAssign (dt : Nat) (r : Request)
  | enumerateChain (dt : Nat) (r : Request) (sorts : Bool)
  | enumerateClear (dt : Nat) (r : Request)
  | assignRetry (dt : Nat)
  | enumTimeout (dt : Nat)
  | chainPingTimeout (dt : Nat)
  | ping (dt : Nat) (r : Request)
  | identify (dt : Nat) (r : Request)
  | echo (dt : Nat) (r : Request) (ago sub : Nat)
  | readReg (dt : Nat) (r : Request)
  | writeReg (dt : Nat) (r : Request)
  | serviceReadFrame (dt : Nat) (addr : BitVec 4) (values : Nat)
  | registerWrite (dt : Nat) (path : Path) (addr : BitVec 4) (value : Option Word)
  | forceFault (dt : Nat) (path : Path)
  | resetReq (dt : Nat) (path : Path)
  | forceFaultAndReset (dt : Nat) (path : Path)
  | instantRead (dt : Nat) (path : Path)
  | mailboxWrite (dt : Nat) (path : Path) (value : Word)
  | mailboxRead (dt : Nat)
  | watchConfigure (dt : Nat) (path : Path) (enable clearExpired : Bool) (period : BitVec 10) (seed token : BitVec 8)
  | watchFeed (dt : Nat) (path : Path) (clearExpired : Bool) (token : BitVec 8)
  | watchClear (dt : Nat) (path : Path)
  | watchdogExpiry (dt : Nat)
  | kennelSwitchOn (dt : Nat)
  | paramGet (dt : Nat) (r : Request)
  | paramSet (dt : Nat) (r : Request)
  | paramStoreWriteDone (dt : Nat) (ok : Bool)
  | storeErase (dt : Nat) (r : Request)
  | chainMark (dt : Nat) (r : Request)
  | chainMarkBroadcast (dt : Nat)
  | cancel (dt : Nat) (r : Request)
  | completionSent (dt : Nat) (route : Route)
  | summaryInterval (dt : Nat)
  | detect (dt : Nat) (r : Request)
  | nibRecordSolve (dt : Nat) (b : Bank) (ecc : Ecc)
  | eventArming (dt : Nat) (b : Bank) (ecc : Ecc)
  | ejectDirect (dt : Nat) (r : Request)
  | bankEnable (dt : Nat) (r : Request)
  | bankDisable (dt : Nat) (r : Request)
  | sortStart (dt : Nat) (r : Request)
  | sortStartHoldEnd (dt : Nat)
  | sortStop (dt : Nat) (r : Request)
  | eventQuery (dt : Nat) (r : Request)
  | bstcReport (dt : Nat) (b : Bank) (v : Nat)
  | coilOn (dt : Nat) (v : Valve)
  | swellPeak (dt : Nat) (v : Valve) (current : List Nat) (drawn : Nat)
  | swellTimeout (dt : Nat) (v : Valve) (current : List Nat) (drawn : Nat)
  | transitionEnd (dt : Nat) (v : Valve)
  | hairlineChop (dt : Nat) (v : Valve) (upperEdge : Bool)
  | coilOff (dt : Nat) (v : Valve) (current : List Nat) (drawn : Nat)
  | turnOffEnd (dt : Nat) (v : Valve) (recovered : Nat) (peak : Nat) (samples : List (BitVec 12))
  | swellEnd (dt : Nat) (q : Fin 2) (r : SwellReport)
  | offReport (dt : Nat) (q : Fin 2) (r : OffReport)
  | alert (dt : Nat) (q : Fin 2) (a : AlertMsg)
  | valveShort (dt : Nat) (v : Valve) (current : List Nat) (drawn : Nat)
  | valveOpen (dt : Nat) (v : Valve) (current : List Nat) (drawn : Nat)
  | quillOvertemp (dt : Nat) (q : Fin 2)
  | quillCooldown (dt : Nat) (q : Fin 2)
  | blotterUpdate (dt : Nat)
  | inhibitRamp (dt : Nat) (b : Bank)
  | bankUnregulated (dt : Nat) (b : Bank)
  | bankRegulated (dt : Nat) (b : Bank)
  | boostRampStep (dt : Nat) (b : Bank)
  | boostSetTimeout (dt : Nat) (b : Bank)
  | valveCounterSave (dt : Nat) (ok : Bool)
  | valveShape (dt : Nat) (r : Request)
  | valveTest (dt : Nat) (r : Request)
  | valveStatus (dt : Nat) (r : Request)
  | boostSet (dt : Nat) (r : Request)
  | switchSet (dt : Nat) (r : Request)
  | switchGapStep (dt : Nat)
  | switchStatus (dt : Nat) (r : Request) (m : SwitchMeas)
  | kennelStore (dt : Nat) (r : Request)
  | kennelStoreDone (dt : Nat) (ok : Bool)
  | dimMap (dt : Nat) (r : Request)
  | kennelRelease (dt : Nat) (r : Request)
  | inrushEnd (dt : Nat) (n : Sw)
  | tripOverload (dt : Nat) (n : Sw) (limited : Nat)
  | tripShort (dt : Nat) (n : Sw) (low : Nat)
  | thermalTurnOff (dt : Nat) (n : Sw)
  | thermalRestart (dt : Nat) (n : Sw)
  | shedTotal (dt : Nat) (sum : Nat)
  | clampEventEnd (dt : Nat) (n : Sw) (energy : Nat)
  | openLoadProbe (dt : Nat) (n : Sw)
  | openLoadVerdict (dt : Nat) (n : Sw) (stillHigh : Bool)
  | dimEdge (dt : Nat) (pin : Fin 4) (level : Bool)
  | canFrameReceived (dt : Nat) (f : CanFrame) (sofAgo : Nat) (half : Bool) (ecc : Ecc)
  | protocolException (dt : Nat)
  | canIntegrated (dt : Nat)
  | canError (dt : Nat) (transmit : Bool) (amount : Nat)
  | busOffRecovery (dt : Nat)
  | canFrameSent (dt : Nat) (sofAgo : Nat) (half : Bool)
  | canStoppingDone (dt : Nat)
  | ringDrain (dt : Nat) (ecc : Ecc)
  | referenceSlotStart (dt : Nat)
  | followUpWithdraw (dt : Nat)
  | slotStart (dt : Nat)
  | slotGuardExpiry (dt : Nat)
  | busConfig (dt : Nat) (r : Request)
  | busSend (dt : Nat) (r : Request)
  | busRead (dt : Nat) (r : Request)
  | busFilter (dt : Nat) (r : Request)
  | busTime (dt : Nat) (r : Request)
  | gnssPower (dt : Nat) (r : Request)
  | basebandReady (dt : Nat)
  | acquire (dt : Nat) (r : Request)
  | captureStart (dt : Nat)
  | captureComplete (dt : Nat) (l : List BlockStep)
  | acquireDone (dt : Nat) (ecc : Ecc) (block : Nat)
  | aiding (dt : Nat) (r : Request)
  | trackAssign (dt : Nat) (r : Request)
  | trackRelease (dt : Nat) (r : Request)
  | dumpClose (dt : Nat) (c : PChan) (rf : List RfPair) (ecc : Ecc)
  | loopUpdate (dt : Nat) (c : PChan) (late : Bool)
  | bitSyncCountClear (dt : Nat) (c : PChan)
  | cn0Estimate (dt : Nat) (c : PChan)
  | reacqSearchRequest (dt : Nat) (c : PChan)
  | reacqSearchDone (dt : Nat) (c : PChan) (first : BitVec 48) (l : List BlockStep) (ecc : Ecc) (block : Nat)
  | measurementEpoch (dt : Nat)
  | navRead (dt : Nat) (r : Request)
  | measRead (dt : Nat) (r : Request)
  | timeGet (dt : Nat) (r : Request)
  | timeSource (dt : Nat) (r : Request)
  | calendarSet (dt : Nat) (r : Request)
  | calendarGet (dt : Nat) (r : Request)
  | discipline (dt : Nat) (r : Request)
  | stepApply (dt : Nat)
  | sourceHoldover (dt : Nat)
  | leapSecond (dt : Nat)
  | calendarEnd (dt : Nat)
  | timeRecordSecond (dt : Nat)
  | ppsOutEdge (dt : Nat)
  | ppsOutTrailing (dt : Nat)
  | ppsInEdge (dt : Nat) (falling : Bool) (half : Bool)
  | ppsConfig (dt : Nat) (r : Request)
  | logBurstStart (dt : Nat) (bad : List Nat) (ecc : Ecc)
  | logBurstDone (dt : Nat)
  | logConfig (dt : Nat) (r : Request)
  | logMark (dt : Nat) (r : Request)
  | logRead (dt : Nat) (r : Request)
  | logReadDone (dt : Nat)
  | leashExpiry (dt : Nat) (e : Fin 9)
  | processorLeashExpiry (dt : Nat)
  | syncTimeout (dt : Nat) (waiter : Fin 9) (holder : Option (Fin 10)) (object : BitVec 13) (waited : Nat)
  | abortRelay (dt : Nat) (side : Side) (p : Packet)
  | recallCollectDone (dt : Nat) (quick full : List Word) (objects : BitVec 8)
  | recallResume (dt : Nat) (job : Fin 5)
  | autoRestart (dt : Nat)
  | faultnRecallEnd (dt : Nat)
  | recallConfig (dt : Nat) (r : Request)
  | recallRead (dt : Nat) (r : Request) (unreadable : List Nat)
  | engineReset (dt : Nat) (r : Request)
  | abortJob (dt : Nat) (r : Request)
  | fwBegin (dt : Nat) (r : Request)
  | fwEraseDone (dt : Nat)
  | fwBlock (dt : Nat) (r : Request)
  | fwEnd (dt : Nat) (r : Request)
  | fwSwitch (dt : Nat) (r : Request)
  | stagePrepare (dt : Nat) (r : Request)
  | stagePrepareDone (dt : Nat)
  | stageCommitAt (dt : Nat) (r : Request)
  | stageArm (dt : Nat) (r : Request)
  | stageReadinessPoll (dt : Nat)
  | stageDecision (dt : Nat)
  | commit (dt : Nat)
  | stageConfirmRead (dt : Nat)
  | stageCommitTimeout (dt : Nat)
  | stagePersistDone (dt : Nat) (ok : Bool)
  | settlingEnd (dt : Nat)
  | stageAbandon (dt : Nat) (r : Request)
  | d2dAck (dt : Nat) (link : Fin 3) (m : D2dMsg)
  | timeChangeAnnounce (dt : Nat)
  | mixedDecaySwitch (dt : Nat) (v : Valve)
  | openLoadRecheck (dt : Nat) (n : Sw) (high : Bool)
  | mirjanConfigApply (dt : Nat)
  | supervisorRailLoss (dt : Nat)
  | supervisorRailReturn (dt : Nat)
  | vbatHighEnd (dt : Nat)
deriving DecidableEq, Repr

end Sys2Proof
end

