-- ==== Sys2Proof/Decode.lean ====
section
/-! DEFINITION. The command that a word of spec/opcode_table.json spells. No row of the table gives bits, so no word
spells a command (log entry 5). -/

namespace Sys2Proof

/-- The command that the table's bits spell: no row of the table has a bit, so there is none. -/
def decodeTableWord (_nbits _w : Nat) : Option Instr := none

end Sys2Proof
end

