-- ==== Sys2Proof/Config.lean ====
section
/-! DEFINITION. What one part fixes for itself, and the free values: constants with no body, of which nothing can
be proved. Each is named in the assumption log. -/

namespace Sys2Proof.Config

/-- Serial number that IDENTIFY returns in word 3 (R134); the spec gives no value. Log entry 10. -/
opaque serial : Word

/-- Version (major, minor) that the header inside a firmware image carries; the spec gives no layout of that
header (R134, R142). Log entry 11. -/
opaque imageVersion : List (BitVec 8) → BitVec 16

/-- Whether the header inside a loaded image passes its check (R142, DETAIL 3). Log entry 11. -/
opaque imageHeaderOk : List (BitVec 8) → Bool

/-- Which of its two neighbouring integers a value that falls between them is taken to, where the spec names a
unit and no rounding. The first argument counts the uses (State.freeCtr). Log entry 12. -/
opaque roundsUp : Nat → Rat → Bool

/-- Power of one cell of an acquisition search (section 11.3): the spec does not give the mixing and resampling exactly,
so the power is a free function of the captured samples (absent ones were lost, R59), IF_FREQ, IF_INVERT, NC, NNC, the PRN
less one, the bin's Doppler [Hz] and the cell's code phase in 1/4096 of the code. Log entry 69. -/
opaque cellPower : List (Option Int) → Nat × Bool × Nat × Nat → Fin 32 → Rat → Fin 4096 → Nat

/-- The current samples a VALVE_TEST captures are measured; a sample the Quill has not sent reads as this. Log
entry 14. -/
opaque freeWord : Nat → Word

/-- A rational that the spec gives no value for: a loop discriminator without signal (R382). The argument counts the
uses. Log entry 14. -/
opaque openRat : Nat → Rat

/-- The receive error counter after a received frame, where it stood above 127: ISO 11898-1 names a range. The argument
counts the uses. Log entry 23. -/
opaque recReturn : Nat → Fin 9

/-- Which of the code epochs within 3 ms of its reply a TRACK_ASSIGN starts at, less one (R379). The argument counts the
uses. Log entry 26. -/
opaque startEpochs : Nat → Fin 3

/-- Ticks from a detection to the freeze of the job's engines, which the spec bounds by 50 ns (R421). Log entry 24. -/
opaque freezeTicks : Nat → Fin 6

end Sys2Proof.Config
end

