-- ==== Sys2Proof/Machine/Bits.lean ====
section
/-! DEFINITION. Fields of words (R1, R2), sorted maps from numbers to words, and small list helpers. -/

namespace Sys2Proof.Machine

/-- The word of value `n` modulo 2^48. -/
def word (n : Nat) : Word := BitVec.ofNat 48 n

/-- Field [hi:lo] of a word as an unsigned number (R1, R2). -/
def fld (w : Word) (hi lo : Nat) : Nat := (w.toNat >>> lo) % 2 ^ (hi + 1 - lo)

/-- The two's complement value of the low `bits` bits of `n` (R2). -/
def signed (bits n : Nat) : Int :=
  let m := n % 2 ^ bits
  if m < 2 ^ (bits - 1) then (m : Int) else (m : Int) - (2 ^ bits : Nat)

/-- Signed field [hi:lo] of a word (R2). -/
def sfld (w : Word) (hi lo : Nat) : Int := signed (hi + 1 - lo) (fld w hi lo)

/-- Bit `i` of a word. -/
def bit (w : Word) (i : Nat) : Bool := w.getLsbD i

/-- The two's complement pattern of `x` in `bits` bits (R2). -/
def unsign (bits : Nat) (x : Int) : Nat := (x % (2 ^ bits : Nat)).toNat

/-- The word that holds each value in its field [hi:lo] (R1); bits outside the fields are zero (R3). -/
def fields : List (Nat × Nat × Nat) → Word
  | [] => 0
  | (hi, lo, v) :: r => word ((v % 2 ^ (hi + 1 - lo)) <<< lo) ||| fields r

/-- A word with field [hi:lo] replaced by `v`. -/
def putFld (w : Word) (hi lo v : Nat) : Word :=
  word (w.toNat - (fld w hi lo <<< lo) + ((v % 2 ^ (hi + 1 - lo)) <<< lo))

/-- `b` as a one-bit value. -/
def b2n (b : Bool) : Nat := if b then 1 else 0

/-- `n` held to the all-ones value of `bits` bits. -/
def sat (bits n : Nat) : Nat := min n (2 ^ bits - 1)

/-- The mask whose bit i is `f i`, for i below `n`. -/
def maskOf (n : Nat) (f : Nat → Bool) : Nat :=
  (List.range n).foldl (fun m i => if f i then m + 2 ^ i else m) 0

/-- The indices below `n` whose bit of the mask is set, ascending. -/
def bitsOf (n m : Nat) : List Nat := (List.range n).filter fun i => m.testBit i

/-- `a / b` rounded up. -/
def ceilDiv (a b : Nat) : Nat := (a + b - 1) / b

/-- `x / y` to the nearest integer, a half rounded up, for positive `y`. -/
def roundHalfUp (x : Int) (y : Nat) : Int := (2 * x + y) / (2 * y : Nat)

/-- `x / y` to the nearest integer, a half rounded away from zero, for positive `y` (R223). -/
def roundHalfAway (x : Int) (y : Nat) : Int :=
  if x < 0 then -roundHalfUp (-x) y else roundHalfUp x y

/-- A rational to the nearest integer, a half rounded up. -/
def roundRat (q : Rat) : Int := (q + 1 / 2).floor

/-- `x` limited to [-m, m]. -/
def clampInt (x m : Int) : Int := if x < -m then -m else if m < x then m else x

/-- `x` limited to [-m, m]. -/
def clampRat (x m : Rat) : Rat := if x < -m then -m else if m < x then m else x

/-- A table of words by number: numbers strictly rising. -/
abbrev WTable := List (Nat × Word)

/-- Entry of a table. -/
def tget : WTable → Nat → Option Word
  | [], _ => none
  | (k, v) :: r, i => if k = i then some v else tget r i

/-- A table with the entry of `i` set to `v`. -/
def tset : WTable → Nat → Word → WTable
  | [], i, v => [(i, v)]
  | (k, w) :: r, i, v =>
    if i < k then (i, v) :: (k, w) :: r else if i = k then (i, v) :: r else (k, w) :: tset r i v

/-- A table without an entry of `i`. -/
def tdel : WTable → Nat → WTable
  | [], _ => []
  | (k, w) :: r, i => if k = i then r else (k, w) :: tdel r i

/-- Numbers strictly rising: the one form in which a table is held. -/
def twf : WTable → Bool
  | [] => true
  | [_] => true
  | (k, _) :: (k', v') :: r => decide (k < k') && twf ((k', v') :: r)

/-- A list with element `i` replaced by `f` of it. -/
def modAt {α : Type} (l : List α) (i : Nat) (f : α → α) : List α :=
  match l, i with
  | [], _ => []
  | a :: r, 0 => f a :: r
  | a :: r, i + 1 => a :: modAt r i f

/-- The first element that satisfies `p`, and the list without it. -/
def takeFirst {α : Type} (p : α → Bool) : List α → Option (α × List α)
  | [] => none
  | a :: r => if p a then some (a, r) else
      match takeFirst p r with
      | none => none
      | some (b, r') => some (b, a :: r')

/-- A list with every element that satisfies `p` replaced by `f` of it. -/
def mapIf {α : Type} (p : α → Bool) (f : α → α) (l : List α) : List α :=
  l.map fun a => if p a then f a else a

/-- Insertion into a list kept rising by `le`, after equals. -/
def insertBy {α : Type} (le : α → α → Bool) (a : α) : List α → List α
  | [] => [a]
  | b :: r => if le b a then b :: insertBy le a r else a :: b :: r

/-- A list sorted by `le`, equals in their order. -/
def sortBy {α : Type} (le : α → α → Bool) (l : List α) : List α :=
  l.foldl (fun acc a => insertBy le a acc) []

/-- The elements at the even places paired with those at the odd places. -/
def pairs {α : Type} : List α → List (α × α)
  | a :: b :: r => (a, b) :: pairs r
  | _ => []

/-- The integer square root, by bits from the highest: `n` rounds, remainder and root so far. -/
def isqrtBits (x : Nat) : Nat → Nat → Nat
  | 0, r => r
  | n + 1, r => if (r + 2 ^ n) * (r + 2 ^ n) ≤ x then isqrtBits x n (r + 2 ^ n) else isqrtBits x n r

/-- floor of the square root of a number below 2^64 (R220). -/
def isqrt (x : Nat) : Nat := isqrtBits x 32 0

/-! ### CRC (R70, R71) -/

/-- One bit of the reflected CRC-32. -/
def crcBit (c : BitVec 32) : BitVec 32 := if c.getLsbD 0 then (c >>> 1) ^^^ 0xEDB88320 else c >>> 1

/-- One byte enters the CRC, least significant bit first. -/
def crcByte (c : BitVec 32) (b : BitVec 8) : BitVec 32 :=
  crcBit (crcBit (crcBit (crcBit (crcBit (crcBit (crcBit (crcBit (c ^^^ b.setWidth 32))))))))

/-- The bytes of a word from [47:40] to [7:0]. -/
def wordBytes (w : Word) : List (BitVec 8) :=
  [BitVec.ofNat 8 (fld w 47 40), BitVec.ofNat 8 (fld w 39 32), BitVec.ofNat 8 (fld w 31 24),
   BitVec.ofNat 8 (fld w 23 16), BitVec.ofNat 8 (fld w 15 8), BitVec.ofNat 8 (fld w 7 0)]

/-- The CRC of a packet whose CRC word has these bits [47:32]. -/
def packetCrc (header : Word) (words : List Word) (top : Nat) : BitVec 32 :=
  let c := ((header :: words).flatMap wordBytes).foldl crcByte 0xFFFFFFFF
  ~~~(crcByte (crcByte c (BitVec.ofNat 8 (top / 256))) (BitVec.ofNat 8 top))

/-- The CRC word that a port writes for its link sequence number. -/
def crcWord (header : Word) (words : List Word) (seq : BitVec 12) : Word :=
  fields [(43, 32, seq.toNat), (31, 0, (packetCrc header words seq.toNat).toNat)]

end Sys2Proof.Machine
end

