-- ==== Sys2Proof/Machine/ParamTable.lean ====
section
/-! DEFINITION. The parameter table: for every parameter ID its fields with place, access, reset value and permitted
values (R31, R63, R105, R144, R178, R216, R250, R292, R319, R354, R396, R412, R445, R464). -/

namespace Sys2Proof.Machine

/-- Access of a field (R138). -/
inductive Acc where
  | rw
  | ro
  | w1c
  | wo
deriving DecidableEq, Repr

/-- A field [hi:lo]: access, whether it is signed, reset value, and the ranges of its permitted values (R487); no
range means every value of its width. -/
structure Field where
  hi : Nat
  lo : Nat
  acc : Acc := .rw
  sgn : Bool := false
  reset : Nat := 0
  ranges : List (Int × Int) := []
deriving DecidableEq, Repr

/-- A family of parameters: `count` IDs from `base`, `stride` apart. -/
structure Family where
  base : Nat
  count : Nat := 1
  stride : Nat := 1
  fields : List Field
deriving DecidableEq, Repr

/-- Read/write field with one range. -/
def rw1 (hi lo reset : Nat) (a b : Int) : Field := { hi, lo, reset, ranges := [(a, b)] }
/-- Read/write field of any value. -/
def rwAny (hi lo reset : Nat) : Field := { hi, lo, reset }
/-- Signed read/write field with one range. -/
def rwS (hi lo reset : Nat) (a b : Int) : Field := { hi, lo, reset, sgn := true, ranges := [(a, b)] }
/-- Read-only field. -/
def roF (hi lo reset : Nat) : Field := { hi, lo, acc := .ro, reset }
/-- Two 24-bit counters in one word, each write-1-clears. -/
def counters : List Field := [{ hi := 23, lo := 0, acc := .w1c }, { hi := 47, lo := 24, acc := .w1c }]
/-- One 24-bit counter in the upper half. -/
def counterHi : List Field := [{ hi := 47, lo := 24, acc := .w1c }]

/-- Chapters 1 to 6. -/
def families1 : List Family := [
  { base := 0x10, fields := [rw1 15 0 100 1 250] },
  { base := 0x11, fields := [rw1 15 0 205 0 6400] },
  { base := 0x12, fields := [rw1 7 0 4 1 60] },
  { base := 0x20, fields := [rwAny 15 0 0] },
  { base := 0x21, fields := [rwAny 47 0 0xBA9876543210] },
  { base := 0x22, fields := [rwAny 15 0 0xFEDC] },
  { base := 0x23, fields := [rw1 9 0 50 5 500] },
  { base := 0x24, fields := [rwAny 3 0 0xF, rwAny 4 4 0] },
  { base := 0x25, fields := [rw1 9 0 500 10 1000] },
  { base := 0x30, fields := [{ hi := 13, lo := 0, reset := 1000, ranges := [(0, 0), (10, 10000)] }] },
  { base := 0x31, fields := [rwAny 0 0 1] },
  { base := 0x32, fields := [rw1 13 0 2000 100 10000] },
  { base := 0x33, fields := [rwAny 31 0 0] },
  { base := 0x34, fields := [rwAny 5 0 0] },
  { base := 0x35, count := 3, fields := counters },
  { base := 0x38, fields := [rw1 5 0 0 0 32] },
  { base := 0x40, fields := [rw1 1 0 1 0 2, rw1 17 8 100 1 1000] },
  { base := 0x41, fields := [roF 13 0 0, roF 27 14 0, roF 41 28 16128] },
  { base := 0x42, fields := [roF 13 0 0] },
  { base := 0x43, fields := [roF 8 0 0, roF 17 9 0, roF 26 18 0, roF 35 27 256] },
  { base := 0x44, count := 2, fields := counters },
  { base := 0x46, fields := [{ hi := 0, lo := 0, acc := .wo }] },
  { base := 0x50, fields := [rwAny 3 0 0] },
  { base := 0x51, fields := counters },
  { base := 0x100, fields := [rw1 8 0 100 1 500] },
  { base := 0x101, fields := [rw1 19 0 1000 1 1000000, rw1 27 24 2 1 8] },
  { base := 0x102, fields := [rw1 9 0 8 1 1000, rw1 25 16 10 1 1000] },
  { base := 0x103, count := 3, fields := [rwS 31 0 0 (-10000000) 10000000] },
  { base := 0x106, fields := [rwAny 3 0 0, rwAny 15 4 0, rw1 17 16 0 0 2, { hi := 31, lo := 24, sgn := true }] },
  { base := 0x107, fields := [rwAny 47 0 0] },
  { base := 0x108, fields := [rwAny 15 0 0] },
  { base := 0x109, fields := counters }]

/-- Chapters 7 to 9. -/
def families2 : List Family := [
  { base := 0x200, fields := [rw1 9 0 64 32 512] },
  { base := 0x201, fields := [rw1 15 0 10240 640 64000] },
  { base := 0x202, fields := [rw1 15 0 704 0 16000] },
  { base := 0x203, fields := [rw1 7 0 120 80 240, rw1 15 8 120 80 240, rw1 23 16 120 80 240, rw1 31 24 120 80 240] },
  { base := 0x204, count := 4, fields := counters },
  { base := 0x208, fields := counterHi },
  { base := 0x210, count := 8, fields := [roF 23 0 0, roF 47 24 0] },
  { base := 0x220, count := 16, fields := [rwAny 7 0 32, rwAny 19 8 300, rwAny 31 20 300, rwAny 47 32 19614] },
  { base := 0x230, count := 16, fields := [rwAny 0 0 1, rwAny 1 1 0, rwAny 10 8 0, rw1 21 12 500 0 1000,
      rw1 31 22 300 0 1000, rw1 41 32 100 0 500] },
  { base := 0x240, count := 64, fields := [rwAny 0 0 0, { hi := 23, lo := 8, sgn := true }, rwAny 43 24 0] },
  { base := 0x280, fields := [rwAny 19 0 0] },
  { base := 0x1000, count := 8, fields := [rw1 6 1 8 1 63, rwAny 7 7 0, rw1 9 8 0 0 2, rw1 15 10 10 1 50,
      rw1 23 16 30 10 100, rw1 31 24 19 7 125, rw1 39 32 25 7 125, rw1 47 40 63 16 250] },
  { base := 0x1010, count := 4, fields := [rwS 19 12 40 (-40) 125, rw1 26 20 5 1 100, rw1 35 27 220 100 470,
      rw1 47 36 192 120 288] },
  { base := 0x1014, count := 4, fields := [rw1 31 24 155 40 200, rw1 39 32 130 40 200, rw1 47 40 110 40 200] },
  { base := 0x1018, count := 4, fields := counters },
  { base := 0x101C, fields := [rwAny 47 40 8] },
  { base := 0x1100, count := 64, fields := [rw1 19 10 60 1 600, rw1 31 20 250 1 4095, rw1 47 32 6000 500 65535] },
  { base := 0x1140, count := 64, fields := [rwAny 0 0 0, rw1 10 7 8 1 15, rw1 20 11 200 1 1000,
      { hi := 32, lo := 21, sgn := true }, rwAny 44 33 0, rwAny 47 45 3] },
  { base := 0x1180, count := 64, fields := [rwAny 23 12 20, rwAny 35 24 4095, rwAny 47 36 0] },
  { base := 0x11C0, count := 64, fields := [roF 0 0 1, rwAny 27 8 50000, rwAny 47 28 100000] },
  { base := 0x1200, count := 64, fields := [rwAny 47 0 0] },
  { base := 0x1240, count := 128, fields := counters },
  { base := 0x2000, count := 16, fields := [rwAny 14 14 1, rwAny 15 15 1, rw1 23 16 10 1 255, rw1 31 24 20 1 100,
      rw1 39 32 8 4 12, rw1 47 40 12 2 32] },
  { base := 0x2010, fields := [rwAny 3 0 0, rw1 15 8 0 0 100] },
  { base := 0x2011, fields := [rwAny 3 0 0, rwAny 4 4 0, rwAny 5 5 0] },
  { base := 0x2012, fields := [rwAny 47 0 0] },
  { base := 0x2014, fields := [rw1 6 0 96 32 96] },
  { base := 0x2020, count := 16, fields := counters },
  { base := 0x2030, count := 16, fields := [roF 47 0 0] }]

/-- Chapters 10 and 11. BACKUP of 2101h is accepted with any RANK and ROLE (R354; DESIGN CHOICE, log entry 64). -/
def families3 : List Family := [
  { base := 0x2100, fields := [rw1 1 0 0 0 2, rwAny 2 2 1, rwAny 16 16 0, rwAny 19 17 4, rwAny 23 20 4,
      rwAny 28 24 15, rw1 37 29 8 1 256] },
  { base := 0x2101, fields := [rw1 9 0 100 10 500, rw1 23 10 2500 100 10000, rw1 29 24 8 1 32,
      rw1 39 30 100 10 1000, rwAny 41 41 0, rwAny 45 42 0, rw1 47 46 0 0 2] },
  { base := 0x2102, fields := [rwAny 10 0 0x20, rwAny 26 16 0x10, rw1 39 32 10 1 255, rwAny 40 40 0] },
  { base := 0x2103, fields := [rwAny 31 0 0] },
  { base := 0x2104, fields := [rwS 31 0 0 (-10000000) 10000000] },
  { base := 0x2108, count := 6, fields := counters },
  { base := 0x210E, fields := counterHi },
  { base := 0x2140, count := 64, stride := 2, fields := [rwAny 28 0 0, rwAny 42 38 0, rwAny 43 43 0, rwAny 44 44 0,
      rwAny 45 45 0, rwAny 46 46 0, rwAny 47 47 0] },
  { base := 0x2141, count := 64, stride := 2, fields := [rwAny 28 0 0] },
  { base := 0x2200, fields := [rw1 22 0 4092000 1000000 6000000, rwAny 24 24 0] },
  { base := 0x2201, fields := [rw1 9 0 50 1 1000, rw1 23 16 40 8 255] },
  { base := 0x2202, fields := [rw1 9 0 150 10 500, rw1 19 10 100 10 500, rw1 29 20 100 1 1000] },
  { base := 0x2203, fields := [rwAny 7 0 96, rw1 15 8 10 1 255, rw1 25 16 1000 100 1000] },
  { base := 0x2204, fields := [{ hi := 9, lo := 0, reset := 1000, ranges :=
      [(0, 0), (100, 100), (200, 200), (300, 300), (400, 400), (500, 500), (600, 600), (700, 700), (800, 800),
       (900, 900), (1000, 1000)] }] },
  { base := 0x2208, count := 3, fields := counters }]

/-- LEASH and SYNC_TO of one engine (R445). -/
def leash (e l t : Nat) : Family :=
  { base := 0x2400 + e, fields := [rw1 16 0 t 10 100000, rw1 40 24 l 10 100000] }

/-- Chapters 12 to 14. -/
def families4 : List Family := [
  { base := 0x2300, fields := [rw1 3 0 6 3 8, rw1 5 4 0 0 2, rwAny 7 6 0] },
  { base := 0x2301, fields := [rwAny 0 0 0, rwAny 2 2 1, roF 8 8 0] },
  { base := 0x2302, count := 3, fields := [roF 47 0 0] },
  { base := 0x2305, fields := counters },
  { base := 0x2306, fields := [roF 12 0 0] },
  leash 0 1000 500, leash 1 1000 500, leash 2 1000 500, leash 3 1000 500, leash 4 20000 1000, leash 5 5000 1000,
  leash 6 1000 1000, leash 7 2000 1000, leash 8 100 100,
  { base := 0x2409, fields := [rw1 40 24 10000 10 100000] },
  { base := 0x2410, fields := [rwAny 4 0 0, rwAny 8 8 0, rwAny 9 9 1, rw1 37 32 0 0 32, rw1 47 38 500 0 1000] },
  { base := 0x2411, count := 3, fields := counters },
  { base := 0x2500, fields := [roF 47 0 0] },
  { base := 0x2501, fields := [rwAny 47 0 0] },
  { base := 0x2502, fields := [rwAny 15 0 0] },
  { base := 0x2503, fields := [roF 47 0 0] },
  { base := 0x2504, count := 2, fields := counters }]

/-- Whether a family holds an ID. -/
def Family.has (f : Family) (id : Nat) : Bool :=
  f.base ≤ id && (id - f.base) % f.stride == 0 && decide ((id - f.base) / f.stride < f.count)

/-- The family of an ID in a list. -/
def findFamily : List Family → Nat → Option (List Field)
  | [], _ => none
  | f :: r, id => if f.has id then some f.fields else findFamily r id

/-- The fields of a parameter in ascending place, or none for an ID that no chapter lists (R135). -/
def paramFields (id : Nat) : Option (List Field) :=
  if id < 0x200 then findFamily families1 id
  else if id < 0x2100 then findFamily families2 id
  else if id < 0x2300 then findFamily families3 id
  else findFamily families4 id

/-- The reset value of a parameter (R139). -/
def paramReset (id : Nat) : Word :=
  match paramFields id with
  | none => 0
  | some fs => Sys2Proof.Machine.fields (fs.map fun f => (f.hi, f.lo, f.reset))

/-- Whether a field's value is permitted (R487). -/
def Field.okay (f : Field) (w : Word) : Bool :=
  f.ranges.isEmpty || f.ranges.any fun (a, b) =>
    let v := if f.sgn then sfld w f.hi f.lo else (fld w f.hi f.lo : Int)
    a ≤ v && v ≤ b

/-- The place of the least significant field whose value is not permitted; read-only and write-1-clears fields are
not judged (R109, R138). -/
def badField (fs : List Field) (w : Word) : Option Nat :=
  match fs with
  | [] => none
  | f :: r => if (f.acc == .rw || f.acc == .wo) && !f.okay w then some f.lo else badField r w

/-- The value a parameter takes on a write of `w` over `old`: read/write fields from `w`, read-only fields kept,
write-1-clears fields cleared by a non-zero value to what they counted in the tick of the write (`seen`), write-only and
reserved fields zero (R3, R105, R138). -/
def mergeSeen (fs : List Field) (old seen w : Word) : Word :=
  Sys2Proof.Machine.fields (fs.map fun f =>
    (f.hi, f.lo, match f.acc with
      | .rw => fld w f.hi f.lo
      | .ro => fld old f.hi f.lo
      | .w1c => if fld w f.hi f.lo = 0 then fld old f.hi f.lo else fld seen f.hi f.lo
      | .wo => 0))

/-- The value after a write in whose tick no counter of the parameter counted. -/
def mergeWrite (fs : List Field) (old w : Word) : Word := mergeSeen fs old 0 w

/-- The part of a written value that the store keeps: counters and read-only fields are not stored (R139). -/
def storeWord (fs : List Field) (w : Word) : Word :=
  Sys2Proof.Machine.fields (fs.map fun f => (f.hi, f.lo, if f.acc == .rw then fld w f.hi f.lo else 0))

/-- The lifetime count PULSES of a valve (R285): a counter, of which PERSIST is ignored (R139). -/
def isPulses (id : Nat) : Bool := 0x1200 ≤ id && id < 0x1240

/-- A parameter has a field that the store can keep. -/
def storable (fs : List Field) : Bool := fs.any fun f => f.acc == .rw

/-- Parameters that take effect at the next start and are always stored (R139): 0020h-0025h, 1010h-1013h, 2300h. Of
1010h-1013h only BOOST_V_START takes effect at the next start (R292); a write stores the whole word with it (DESIGN CHOICE,
log entry 74). -/
def nextStart (id : Nat) : Bool :=
  (0x20 ≤ id && id ≤ 0x25) || (0x1010 ≤ id && id ≤ 0x1013) || id == 0x2300

/-- The staged tables (R446). -/
def staged (id : Nat) : Bool :=
  id == 0x201 || id == 0x202 || (0x220 ≤ id && id ≤ 0x23F) || (0x240 ≤ id && id ≤ 0x280)
    || (0x1000 ≤ id && id ≤ 0x1007)

/-- The staged tables' IDs, ascending. -/
def stagedIds : List Nat :=
  [0x201, 0x202] ++ (List.range 32).map (0x220 + ·) ++ (List.range 65).map (0x240 + ·)
    ++ (List.range 8).map (0x1000 + ·)

end Sys2Proof.Machine
end

