-- ==== Sys2Proof/Machine/Signal.lean ====
section
/-! DEFINITION. The GNSS signal: samples, the C/A codes, the correlation of a channel, the sample-block FIFO, and the
arithmetic of the loops (R59, R356, R374, R375, R382, R386). -/

namespace Sys2Proof.Machine

/-- The value of a sample (R356). -/
def sampleValue (p : RfPair) : Int :=
  match p.s, p.m with
  | false, false => 1
  | false, true => 3
  | true, false => -1
  | true, true => -3

/-! ### The C/A codes (R374; log entry 68) -/

/-- The stages of G2 whose sum a PRN takes, PRN 1 first (IS-GPS-200). -/
def codeTaps : List (Nat × Nat) :=
  [(2, 6), (3, 7), (4, 8), (5, 9), (1, 9), (2, 10), (1, 8), (2, 9), (3, 10), (2, 3), (3, 4), (5, 6), (6, 7), (7, 8), (8, 9),
    (9, 10), (1, 4), (2, 5), (3, 6), (4, 7), (5, 8), (6, 9), (1, 3), (4, 6), (5, 7), (6, 8), (7, 9), (8, 10), (1, 6), (2, 7),
    (3, 8), (4, 9)]

/-- The sum of stages of a register whose stage 1 comes first. -/
def stages (r : List Bool) (l : List Nat) : Bool := l.foldl (fun b i => b != r.getD (i - 1) false) false

/-- Chips of a code, from the present contents of G1 and G2. -/
def codeChips : Nat → List Bool → List Bool → Nat × Nat → List Bool
  | 0, _, _, _ => []
  | n + 1, a, b, t =>
    (stages a [10] != stages b [t.1, t.2]) ::
      codeChips n (stages a [3, 10] :: a.take 9) (stages b [2, 3, 6, 8, 9, 10] :: b.take 9) t

/-- The 1,023 chips of a PRN, chip 0 first. -/
def caCode (prn : Fin 32) : List Bool :=
  codeChips 1023 (List.replicate 10 true) (List.replicate 10 true) (codeTaps.getD prn.val (2, 6))

/-- The code at a phase [chips] as a sign: chip 0 counts +1 (log entry 68). -/
def codeSign (code : List Bool) (x : Rat) : Int := if code.getD (x.floor % 1023).toNat false then -1 else 1

/-! ### Correlation (R374-R376) -/

/-- cos and sin of the octant that the carrier NCO's three most significant bits name (R375). -/
def octant (car : BitVec 32) : Int × Int :=
  [(2, 1), (1, 2), (-1, 2), (-2, 1), (-2, -1), (-1, -2), (1, -2), (2, -1)].getD (car.toNat / 2 ^ 29) (2, 1)

/-- The eight sums of an integration: prompt, early, late and noise, I and Q. -/
structure DumpSums where
  pI : Int := 0
  pQ : Int := 0
  eI : Int := 0
  eQ : Int := 0
  lI : Int := 0
  lQ : Int := 0
  nI : Int := 0
  nQ : Int := 0
deriving DecidableEq, Repr

/-- The sums with one sample added, at a prompt code phase [chips] and a carrier NCO; early lies `half` ahead of prompt, late
`half` behind it, noise 511 chips after it. -/
def DumpSums.add (a : DumpSums) (code : List Bool) (half x : Rat) (car : BitVec 32) (v : Int) : DumpSums :=
  let o := octant car
  let p := v * codeSign code x
  let e := v * codeSign code (x + half)
  let l := v * codeSign code (x - half)
  let n := v * codeSign code (x - 511)
  { pI := a.pI + p * o.1, pQ := a.pQ + p * o.2, eI := a.eI + e * o.1, eQ := a.eQ + e * o.2
    lI := a.lI + l * o.1, lQ := a.lQ + l * o.2, nI := a.nI + n * o.1, nQ := a.nQ + n * o.2 }

/-- The sums over samples in a row: the code advances `step` chips at each, the carrier NCO adds `inc` (R374). -/
def correlate (code : List Bool) (half step : Rat) (inc : BitVec 32) : List RfPair → Rat → BitVec 32 → DumpSums → DumpSums
  | [], _, _, a => a
  | r :: l, x, car, a => correlate code half step inc l (x + step) (car + inc) (a.add code half x car (sampleValue r))

/-- A sum over 4, a half rounded away from zero, in a 16-bit field of the dump record (R375, R376). -/
def quarter (x : Int) : Int := (BitVec.ofInt 16 (roundHalfAway x 4)).toInt

/-! ### The sample-block FIFO (R59) -/

/-- An entry: 32 samples, or the sample count of the first sample kept after a discard. -/
inductive Block where
  | samples (l : List Int)
  | gap (first : Nat)
deriving DecidableEq, Repr

/-- The FIFO with what its writer holds: samples of the entry in progress, oldest first; whether it discards; the number of
the next sample of the capture. -/
structure BlockFifo where
  entries : List Block := []
  part    : List Int := []
  gapOpen : Bool := false
  next    : Nat := 0
deriving DecidableEq, Repr

/-- Entries that the FIFO holds. -/
def blockDepth : Nat := 64

/-- A sample arrives: samples are discarded until an entry is free, which a gap entry then takes; 32 samples make an entry. -/
def BlockFifo.put (f : BlockFifo) (v : Int) : BlockFifo :=
  let free := decide (f.entries.length < blockDepth)
  let f := { f with next := f.next + 1 }
  if f.gapOpen then
    if free then { f with entries := f.entries ++ [.gap (f.next - 1)], gapOpen := false, part := [v] } else f
  else
    let part := f.part ++ [v]
    if part.length < 32 then { f with part }
    else if free then { f with entries := f.entries ++ [.samples part], part := [] }
    else { f with part := [], gapOpen := true }

/-- The sample buffer with an entry added: samples that a gap leaves out are absent. -/
def addBlock (buf : List (Option Int)) : Block → List (Option Int)
  | .samples l => buf ++ l.map some
  | .gap n => buf ++ List.replicate (n - buf.length) none

/-- One happening at the FIFO: a sample arrives, or the Retriever takes the oldest entry to the sample buffer. -/
def blockStep (x : BlockFifo × List (Option Int)) : BlockStep → BlockFifo × List (Option Int)
  | .sample p => (x.1.put (sampleValue p), x.2)
  | .read =>
    match x.1.entries with
    | b :: r => ({ x.1 with entries := r }, addBlock x.2 b)
    | [] => x

/-- The sample buffer when a capture ends: what the FIFO and its writer still hold goes to it; samples discarded since the
last entry are absent. -/
def lastBlocks (x : BlockFifo × List (Option Int)) : List (Option Int) :=
  let buf := x.1.entries.foldl addBlock x.2 ++ x.1.part.map some
  buf ++ List.replicate (x.1.next - buf.length) none

/-- The sample buffer with the 32 samples of a word replaced by zero (R16). -/
def zeroBlock (buf : List (Option Int)) (i : Nat) : List (Option Int) :=
  buf.mapIdx fun j x => if j / 32 = i then some 0 else x

/-! ### Arctangent and logarithm (R382, R386; log entry 13) -/

/-- The series x/k - x sq/(k + 2) + ..., `n` terms. -/
def atanTail (sq : Rat) : Nat → Nat → Rat → Rat
  | 0, _, _ => 0
  | n + 1, k, x => x / (k : Rat) - atanTail sq n (k + 2) (x * sq)

/-- atan(u) / (2 pi) for |u| up to 1/4, to within 2^-40. -/
def atanSmall (u : Rat) : Rat := atanTail (u * u) 12 1 u * (2935890503282001226 / 2 ^ 64)

/-- atan(t) / (2 pi) for t in [0, 1], by way of atan(1/2) and atan(1). -/
def atanUnit (t : Rat) : Rat :=
  if t ≤ 1 / 4 then atanSmall t
  else if t ≤ 3 / 4 then 1361218612134873190 / 2 ^ 64 + atanSmall ((2 * t - 1) / (2 + t))
  else 1 / 8 + atanSmall ((t - 1) / (1 + t))

/-- atan(y / x) in cycles, for x not 0, to within 2^-40 (R382). -/
def atanCycles (y x : Int) : Rat :=
  let t : Rat := (y.natAbs : Rat) / x.natAbs
  let a := if t ≤ 1 then atanUnit t else 1 / 4 - atanUnit (1 / t)
  if (y < 0) = (x < 0) then a else -a

/-- atan2(y, x) in cycles, not both 0, to within 2^-40 (R382). -/
def atan2Cycles (y x : Int) : Rat :=
  if x = 0 then (if y < 0 then -1 / 4 else 1 / 4)
  else if 0 < x then atanCycles y x
  else if y < 0 then atanCycles y x - 1 / 2
  else atanCycles y x + 1 / 2

/-- The greatest n from 0 to 255 with 10^n ≤ x^40, so that n quarters of a decibel are 10 log10 x rounded down; none outside
the 8-bit field (R386). -/
def quarterDb (x : Rat) : Option Nat :=
  let y := x ^ 40
  if y < 1 || decide ((10 : Rat) ^ 256 ≤ y) then none
  else some (((List.range 256).filter fun n => decide ((10 : Rat) ^ n ≤ y)).length - 1)

end Sys2Proof.Machine
end

