-- ==== Sys2Proof/Machine/State.lean ====
section
/-! DEFINITION. The state of one AZL-6416 as plain data, the fault and refusal reasons, and the state after reset.
Every time named `...At` or `...Since` is a value of `clk`, the count of core ticks (10 ns) since the model began.
Full times are whole ticks of T = E * 2^48 + N (R179), as integers. -/

namespace Sys2Proof.Machine

/-- The device states of R5; the codes are those of R158. -/
inductive Code where
  | off
  | starting
  | unaddressed
  | idle
  | sorting
  | draining
  | fault
deriving DecidableEq, Repr

/-- Final and reply statuses (R112). -/
inductive Status where
  | ok | accepted | firedLate | cancelled | aborted | shed | staggered | partialDone
  | badOpcode | badLength | badParam | badState | noHandle | badDate | locked | tooLate | busy | notMaster
  | linkFault | energy
  | ramping | notReady | abandoned | inhibited | valveFault | calendarLimit | busOff | notFound | imageBad
  | storeFail | noSuchHandle
deriving DecidableEq, Repr

/-- Why the Scribe is treated as dead (R23, R415, R491). -/
inductive Death where
  /-- a die declared it dead while it keeps running (R491) -/
  | running
  /-- its core supply left its limits -/
  | supply
  /-- its core clock stopped -/
  | clock
  /-- its command processor hangs (R415) -/
  | hung
deriving DecidableEq, Repr

/-- What one command sends out of the part, besides the packets, which wait in the ports. -/
inductive Out where
  /-- TRAIN with its step (R87) -/
  | train (p : Side) (stepNo : Nat)
  /-- ACK with class and last good link sequence (R83) -/
  | ack (p : Side) (urgent : Bool) (seq : BitVec 12)
  | nak (p : Side) (urgent : Bool) (seq : BitVec 12)
  | credit (p : Side) (urgent : Bool) (freed : BitVec 12)
  | timemark (p : Side) (departure : BitVec 22) (fraction : BitVec 10)
  | brk (p : Side) (addr : Addr) (downLost : Bool)
  /-- end of a packet that was being cut through, as EOF_BAD (R85) -/
  | eofBad (p : Side)
  /-- a packet on the wire: port, header, payload and CRC word (R69) -/
  | packet (p : Side) (header : Word) (words : List Word) (crc : Word)
  /-- a HEARTBEAT to all three dies (R22) -/
  | heartbeat (instant : BitVec 48)
  /-- status byte and register values of a service-port frame (R147, R148) -/
  | service (status : BitVec 8) (values : List Word)
  /-- a CAN frame that has gone out on the bus -/
  | can (f : CanFrame)
  /-- an edge of PPS_OUT: the level it takes, whether it falls on the second 5 ns of its tick, and for a leading edge its
  offset from the ideal moment [10 ps] (R213) -/
  | pps (level half : Bool) (q : Int)
deriving DecidableEq, Repr

/-- Device state, address, job and start (chapters 0, 2, 3, 7). -/
structure Dev where
  code      : Code := .starting
  /-- START_STEP of R158: 1 to 9 in STARTING, else 0 -/
  startStep : Nat := 1
  stepAt    : Nat := 0
  addr      : Addr := 63
  master    : Bool := false
  cutOff    : Bool := false
  /-- number of the job that runs or drains; 0 with none (R245) -/
  job       : Nat := 0
  /-- the last job number used, for the automatic restart (R434) -/
  lastJob   : Nat := 0
  /-- a CHAIN enumeration has completed OK since the last start or CLEAR (R98) -/
  chainOk   : Bool := false
  /-- SORT_STARTs held at the master (R98, R245), each with when its hold began -/
  heldStarts : List (Request × Nat) := []
  /-- start of the last round of path-delay measurements (R96) -/
  echoAt    : Nat := 0
  /-- start list of R41: channels still to switch on in step 6 -/
  startList : List Sw := []
  startLast : Nat := 0
  /-- the channel that step 6 switched on last (R41) -/
  startSw   : Option Sw := none
  /-- the Scribe is treated as dead (R23): the gravest of the causes that have arisen -/
  dead      : Option Death := none
  /-- the command processor hangs until RESET_N low or a supply cycle (R24, R415) -/
  hung      : Bool := false
  /-- a Scribe that lost its core supply runs steps 1b (2) and 1c (3) again; 0 otherwise (R24, R54) -/
  restart   : Nat := 0
  /-- step 3 of the start is complete (R6) -/
  linksUp   : Bool := false
deriving DecidableEq, Repr

/-- Supplies, RESET_N, FAULT_N and the reset cause (R32-R49). -/
structure Power where
  vbatOk        : Bool := true
  vioOk         : Bool := true
  /-- the Ferrule supervisor rail works (VBAT at 7 V or more, R32, R43) -/
  supervisor    : Bool := true
  /-- supplies lost since the entry into OFF (R37) -/
  lostVbat      : Bool := false
  lostVio       : Bool := false
  /-- RESET_N held low from outside -/
  resetExt      : Bool := false
  /-- RESET_N driven low by the Ferrule until this moment (R36) -/
  resetOwn      : Option Nat := none
  vbatLow       : Bool := false
  /-- VBAT has fallen below 15.5 V, or below 12.0 V, and has not risen above 16.5 V since (R33, R46) -/
  below165      : Bool := false
  vbatHigh      : Bool := false
  /-- start of the running undervoltage count (R47) -/
  uvSince       : Option Nat := none
  /-- copies of the cause record: PRIOR_FAULT, PRIOR_ALL_OFF, RESET_CAUSE (R37); lost with the die's supply -/
  causeScribe   : Option (Bool × Bool × Nat) := some (false, false, 1)
  causeFerrule  : Option (Bool × Bool × Nat) := some (false, false, 1)
  /-- cause field [9:0] that CAUSE shows -/
  cause         : Bool × Bool × Nat := (false, false, 1)
  /-- FAULT_N is held low in STARTING until step 4 completes (R43) -/
  faultNStart   : Bool := true
  /-- FAULT_N held low for a recall until this moment (R444) -/
  faultNRecall  : Option Nat := none
  rfEn          : Bool := false
deriving DecidableEq, Repr

/-- Reference, PLL and sample clock (R50-R62). -/
structure Clocks where
  selected   : Bool := false
  refin      : Bool := false
  locked     : Bool := false
  refout     : Bool := false
  holdSince  : Option Nat := none
  rfLoss     : Bool := false
  /-- last capture of the time bridge: epoch, sample count, delta, STEPPED (R61, R62) -/
  epoch      : BitVec 48 := 0
  sample     : BitVec 48 := 0
  delta      : Nat := 0
  stepped    : Bool := false
  /-- a step has been applied since the last capture (R62) -/
  stepSince  : Bool := false
  captures   : Nat := 0
  /-- clk of the last capture -/
  capAt      : Nat := 0
  /-- the sample counter has restarted since the last capture: its disciplined time [10 ps] and clk (R358) -/
  start      : Option (Int × Nat) := none
  /-- RF_CLK is absent: disciplined time [10 ps] and clk of the moment from which the sample counter stands (R358) -/
  still      : Option (Int × Nat) := none
deriving DecidableEq, Repr

/-- Firmware slots and the load in progress (R140-R143). -/
structure Load where
  handle  : HandleId
  len     : Nat
  crc     : BitVec 32
  erased  : Bool := false
  /-- words received; bytes of the image in order, six to a word -/
  words   : List Word := []
  bytes   : Nat := 0
  lastOff : Option Nat := none
  last    : List Word := []
  ended   : Bool := false
deriving DecidableEq, Repr

structure Firmware where
  active   : Bool := false
  valid0   : Bool := true
  valid1   : Bool := false
  version0 : BitVec 16 := 0
  version1 : BitVec 16 := 0
  load     : Option Load := none
deriving DecidableEq, Repr

/-- WATCH (R170). -/
structure Watch where
  enable  : Bool := false
  expired : Bool := false
  why     : BitVec 2 := 0
  period  : Nat := 100
  next    : BitVec 8 := 0
  /-- the last accepted feed, in core-clock ticks (R173) -/
  fedAt   : Nat := 0
deriving DecidableEq, Repr

/-- CONTROL, era latches, mailbox, service port (R161-R177). -/
structure Regs where
  svcOnly    : Bool := false
  faultNHold : Bool := false
  eraSvc     : BitVec 16 := 0
  eraLink    : BitVec 16 := 0
  mailbox    : Word := 0
  mbNew      : Bool := false
  /-- REJECTED: the previous service-port frame carried a refused write (R147) -/
  rejected   : Bool := false
  /-- the present one carries one -/
  refusing   : Bool := false
  /-- the link has written MAILBOX since the capture of the last service-port read frame (R177) -/
  mbSince    : Bool := false
  /-- era captured with INSTANT by the last service-port read frame (R148) -/
  eraCapt    : BitVec 16 := 0
  /-- the tick of the link's last register writes, their addresses and values, and WATCH as it stood before them (R154,
  R175) -/
  linkAt     : Nat := 0
  linkWrote  : List (Nat × Word) := []
  watchWas   : Watch := {}
deriving DecidableEq, Repr

/-- FAULTS (R166). -/
structure Faults where
  bits       : BitVec 8 := 0
  first      : BitVec 8 := 0xFF
  priorBits  : BitVec 8 := 0
  priorFirst : BitVec 8 := 0xFF
  /-- clk of the entry into FAULT (R167) -/
  enteredAt  : Option Nat := none
deriving DecidableEq, Repr

/-- The fields of HEALTH that do not follow a condition held elsewhere (R168). -/
structure Health where
  ce         : BitVec 8 := 0
  ue         : BitVec 4 := 0
  slotMargin : Bool := false
  linkNew    : Bool := false
deriving DecidableEq, Repr

/-- KENNEL (R176, R312-R316). -/
structure Kennel where
  active : Bool := false
  reason : BitVec 2 := 0
  stored : BitVec 32 := 0
  /-- channels still to switch on, START_INTERVAL apart, and when the last did -/
  queue  : List Sw := []
  lastAt : Nat := 0
deriving DecidableEq, Repr

/-- A step of the time base that waits for its tick (R203). -/
structure PendingStep where
  /-- full time of its boundary, in the scale before the step -/
  boundary : Int
  /-- amount in units of 2^-32 tick -/
  amount   : Int
  /-- a CALENDAR_SET or a CHAIN_MARK sets CAL_VALID with it (R189) -/
  sets     : Bool
deriving DecidableEq, Repr

/-- A received TIMEMARK: its resolved full time and when it came (R207, R210). -/
structure Mark where
  field    : BitVec 22
  fraction : BitVec 10
  resolved : Int
  /-- disciplined time of the arrival [10 ps] -/
  arrival  : Int
  at_      : Nat
deriving DecidableEq, Repr

/-- A PPS record (R214). -/
structure PpsRec where
  w0 : Word
  w1 : Word
  w2 : Word
deriving DecidableEq, Repr

/-- The time base, its filter and its sources (chapter 6). -/
structure Time where
  /-- core-clock ticks since the last reset: it stands while the core clock is stopped (R173, R181) -/
  core       : Nat := 0
  /-- full time in the tick before this one: an instant X is reached in this tick when prev < X <= T (R181) -/
  prev       : Int := 0
  n          : BitVec 48 := 0
  e          : BitVec 16 := 0
  phi        : BitVec 32 := 0
  rho        : Int := 0
  rhoFreq    : Int := 0
  rhoPhase   : Int := 0
  /-- rates computed and not yet in effect: the tick from which each holds (R182) -/
  rhoNext    : List (Nat × Int) := []
  /-- the last changes of the time base's course, newest first: from this clk on it counts from this disciplined time
  [2^-32 tick] at this rate (R180, R203) -/
  past       : List (Nat × Int × Int) := []
  /-- phase terms by the tick from which each holds, from the last stored Mirjan pair on (R347) -/
  phases     : List (Nat × Int) := []
  overs      : Nat := 0
  source     : BitVec 3 := 0
  forceStep  : Bool := false
  /-- when the last offset of the present source came; none before the first (R201) -/
  lastOffset : Option Nat := none
  /-- last offset measured [10 ps] -/
  theta      : Int := 0
  calValid   : Bool := false
  holdover   : Bool := false
  /-- last sign of life of the source (R200) -/
  heardAt    : Nat := 0
  /-- steps that wait: at most one for a boundary (R203) -/
  pending    : List PendingStep := []
  announced  : Bool := false
  /-- steps applied: when, and the amount in units of 2^-32 tick (R206) -/
  history    : List (Nat × Int) := []
  /-- the last 32 TIMEMARKs, newest first (R210) -/
  marks      : List Mark := []
  chainSet   : Bool := false
  /-- departure of the last TIMEMARK sent (R209) -/
  sentMark   : Int := 0
  /-- clk at which the last TIME record of a second was written: once in its tick (R181) -/
  secondAt   : Option Nat := none
  /-- a CHAIN_MARK broadcast is due (R209) -/
  markDue    : Bool := false
deriving DecidableEq, Repr

/-- PPS_CONFIG, reports and captures (R212-R215). -/
structure Pps where
  outEn     : Bool := false
  outPol    : Bool := false
  outGate   : Bool := false
  inEn      : Bool := false
  inEdge    : Bool := false
  width     : Nat := 100000
  level     : Bool := false
  /-- the trailing edge, in half ticks (5 ns) of `clk` (R213) -/
  trailAt   : Option Nat := none
  reports   : List PpsRec := []
  captures  : List PpsRec := []
  lastIn    : Option Nat := none
  stepOut   : Bool := false
  stepIn    : Bool := false
deriving DecidableEq, Repr

/-- A packet that waits in a port or in its replay buffer. -/
structure TxPacket where
  header  : Word
  words   : List Word
  seq     : BitVec 12 := 0
  sentAt  : Nat := 0
  resends : Nat := 0
  /-- this packet is a completion of this device (R126) -/
  isCompl : Bool := false
  /-- words that the receive buffer of the other port still holds for it (R81) -/
  holds   : Nat := 0
  /-- it must go out again under R84, and credits have not reached for it yet -/
  owed    : Bool := false
  /-- numbers of the detection records that it carries, first and end, once the Nib takes them (R219) -/
  detect  : Option (Nat × Nat) := none
deriving DecidableEq, Repr

/-- One class of one port: sequence numbers, credits and buffers (R79-R84). -/
structure Lane where
  txSeq     : BitVec 12 := 0
  rxNext    : BitVec 12 := 0
  /-- a packet of the class failed and its replay is awaited (R83) -/
  nakked    : Bool := false
  sent      : BitVec 12 := 0
  held      : Nat := 0
  freed     : BitVec 12 := 0
  reported  : BitVec 12 := 0
  /-- words in the receive buffer -/
  buffered  : Nat := 0
  ackDue    : Nat := 0
  stored    : List TxPacket := []
  replay    : List TxPacket := []
deriving DecidableEq, Repr

inductive PortState where
  /-- not enabled yet (before step 3 of the start) -/
  | disabled
  /-- down, or never trained: it sends TRAIN of this step (R87, R88) -/
  | training (stepNo : Nat)
  /-- retrains under R86, and is not down yet -/
  | retraining (stepNo : Nat)
  | up
  /-- held down for 1 s after eight losses (R88) -/
  | held
deriving DecidableEq, Repr

structure Port where
  state    : PortState := .disabled
  /-- start of the present training (R86) -/
  trainAt  : Nat := 0
  losses   : List Nat := []
  holdAt   : Nat := 0
  symErrs  : List Nat := []
  tHop     : Nat := 0
  bulk     : Lane := {}
  urgent   : Lane := {}
deriving DecidableEq, Repr

/-- A request that waits for core 0 in its class's queue (R111): its opcode, and how many detection records had arrived
before it (R114). -/
structure Waiting where
  opc  : BitVec 8
  req  : Request
  recs : Nat
  /-- an urgent STAGE_ABANDON on which the link engine has acted: whether it abandoned a stage (R459) -/
  acted : Option Bool := none
deriving DecidableEq, Repr

/-- A request of this device's own that waits for its reply (R108). -/
inductive OwnKind where
  | assign (k : Addr)
  /-- an ECHO: its departure [10 ps]; before it departs, the departure's offset in its tick [10 ps] -/
  | echo (k : Addr) (t1 : Int)
  | ping
  /-- a PARAM_SET of the master -/
  | write
  | stagePoll (k : Addr)
  | stageConfirm (k : Addr)
  /-- broadcasts of this device's own, or relay packets, with tag 0: their replies have no effect -/
  | broadcast
deriving DecidableEq, Repr

structure Own where
  kind : OwnKind
  tag  : BitVec 14
  dst  : Addr
  opc  : BitVec 8
  atClk : Nat
deriving DecidableEq, Repr

/-- Chain enumeration in progress at the master (R92, R96). -/
inductive EnumPhase where
  | assigning
  | retry
  | echo (left : Nat) (best : Option Int)
  | pinging
deriving DecidableEq, Repr

structure EnumRun where
  handle : HandleId
  dst    : Addr
  k      : Nat
  startAt : Nat
  phase  : EnumPhase
  sentAt : Nat
deriving DecidableEq, Repr

/-- A path-delay measurement in progress (R96). -/
structure EchoRun where
  k    : Addr
  left : Nat
  best : Option Int
deriving DecidableEq, Repr

/-- State of a handle that is not free (R119). -/
inductive HState where
  | accepted
  | armed
  | retiring
deriving DecidableEq, Repr

/-- Record of a handle in use (R118-R124). `opc` is the operation's opcode. -/
structure Live where
  id     : HandleId
  st     : HState
  opc    : BitVec 8
  /-- destination of its completion -/
  dst    : Addr
  final  : Option Status := none
deriving DecidableEq, Repr

/-- A pool of handles: indices never used begin at `fresh`; freed ones wait in order (R120). -/
structure Pool where
  fresh : Nat
  freed : List Nat
  live  : List Live
deriving DecidableEq, Repr

/-- A completion, summary or refusal record that waits (R124-R130). -/
structure Completion where
  dst    : Addr
  handle : Option HandleId
  tag    : BitVec 14
  words  : List Word
deriving DecidableEq, Repr

/-- Handles, completions and reporting (chapter 4). -/
structure Handles where
  ej      : Pool := { fresh := 0, freed := [], live := [] }
  rs      : Pool := { fresh := 0x3F00, freed := [], live := [] }
  /-- GEN of each index whose GEN is not 0 -/
  gens    : List (Nat × Word) := []
  queue   : List Completion := []
  /-- counts of the running summary interval, by status code -/
  counts  : List (Nat × Word) := []
  sumFrom : Nat := 0
  /-- at least one status or refusal in the interval (R127) -/
  sumAny  : Bool := false
  /-- when each source last had a BAD_STATE for DETECT (R217) -/
  detectAt : List (Nat × Word) := []
deriving DecidableEq, Repr

/-- A request that waits for the end of its flash write (R139, R314). -/
structure StoreOp where
  req     : Request
  startAt : Nat
deriving DecidableEq, Repr

/-- Parameters (R135-R139, R446-R449): every table lists only what differs. -/
structure Params where
  /-- working copy: unlisted parameters hold their reset value -/
  work   : WTable := []
  /-- parameter store: unlisted parameters are not stored -/
  store  : WTable := []
  /-- values at the start of the parameters that take effect at the next start (R63, R262, R412) -/
  boot   : WTable := []
  ops    : List StoreOp := []
  /-- counts that 24-bit counters took in the tick `seenAt`, by ID and half as the counter has them: a clear of that tick
  leaves them (R105, R144, R169, R250, R287, R319, R354, R396, R412, R445, R464) -/
  seenAt : Nat := 0
  seen   : WTable := []
  kennelOps : List (Request × BitVec 32 × Nat) := []
deriving DecidableEq, Repr

/-- A detection record in a Nib input queue (R219). -/
structure NibRec where
  w0  : Word
  w1  : Word
  w2  : Word
  src : Addr
  port : Side
  /-- number of the record among those taken: one record can wait in several queues -/
  no  : Nat := 0
  /-- the set of staged tables that solves it, fixed when the record is taken (R456) -/
  set : Bool := false
deriving DecidableEq, Repr

inductive EState where
  | pending
  | waiting
  | armed
  | passenger
  | retiring
deriving DecidableEq, Repr

/-- An Inkwell entry (section 7.6). Instants are full times. -/
structure Event where
  id      : HandleId
  valve   : Valve
  st      : EState
  cOn     : Int
  cOff    : Int
  /-- computed coil-off instant at insertion -/
  cOff0   : Int
  /-- C_ON less the computed coil-on instant (DELTA) -/
  delta   : Int
  cam     : Int
  seq     : Nat
  cls     : Nat
  energy  : Nat
  /-- shape row of EJECT_DIRECT; a record's event takes its class's row at arming (R456) -/
  shape   : Fin 8
  direct  : Bool
  fireAny : Bool
  noStag  : Bool
  /-- moved under R237 or R205 -/
  late    : Bool
  /-- moved under R232 or R240 -/
  moved   : Bool
  /-- carrier of a passenger -/
  carrier : Option HandleId
  /-- order of insertion -/
  ins     : Nat
  /-- arming point passed at this clk and waiting for energy (R240) -/
  waitAt  : Option Nat
  src     : Addr
  /-- the Swell has begun: the coil switched on -/
  begun   : Bool
  wasArmed : Bool
  final   : Option Status
deriving DecidableEq, Repr

inductive BankPhase where
  | idle
  | precharge
  | softStart
  | regulated
  | failed
deriving DecidableEq, Repr

/-- One boost bank and its energy ledger (R39, R239, R255-R262, R281). -/
structure BankSt where
  phase    : BankPhase := .idle
  beganAt  : Nat := 0
  ready    : Bool := false
  en       : Bool := false
  startFail : Bool := false
  /-- present target [0.25 V] -/
  target   : Nat := 192
  /-- target a BOOST_SET ramps to, its handle, when the ramp reached it, and whether the bank is done: true regulated,
  false left out (R260) -/
  goal     : Option Nat := none
  goalHandle : Option HandleId := none
  goalDone : Option Bool := none
  rampAt   : Nat := 0
  reachedAt : Option Nat := none
  /-- since when the reports of V lie within 2 % of the target -/
  bandAt   : Option Nat := none
  /-- since when they lie outside it (R258) -/
  outAt    : Option Nat := none
  /-- last measured voltage [1/32 V] -/
  v        : Nat := 0
  eEst     : Int := 0
  /-- inhibit limit in force [deg C] and the moment of its last ramp step (R281) -/
  inhibit  : Nat := 155
  inhAt    : Nat := 0
  /-- handles of INHIBIT changes that name this bank, each with whether its value was reached (R463) -/
  inhHandles : List (HandleId × Bool) := []
  switching : Bool := false
deriving DecidableEq, Repr

/-- Energy tokens of one pulse, from arming to the Quill's report (R239, R284): in coil once the Swell has begun. `fold`: its
measurements enter the learned values; not for a VALVE_TEST with FOLD 0, even when a FAULT has ended the test (R288). -/
structure Token where
  id     : HandleId
  bank   : Bank
  energy : Nat
  begun  : Bool
  fold   : Bool := true
deriving DecidableEq, Repr

/-- A DETECT whose records were taken: the request, the numbers of its records, first and end, and how many of them were
stale (R246, R457). -/
structure Arrived where
  req   : Request
  first : Nat
  fin   : Nat
  stale : Nat
deriving DecidableEq, Repr

/-- What is queued, ordered and allocated for ejection (chapter 7). -/
structure Nib where
  qA : List NibRec := []
  qB : List NibRec := []
  qC : List NibRec := []
  qD : List NibRec := []
  /-- records that the link engine holds for a full queue, with their words in the bulk receive buffer (R219): record and
  banks left -/
  held : List (NibRec × List Bank) := []
  events : List Event := []
  tokens : List Token := []
  ins    : Nat := 0
  /-- records taken so far -/
  recs   : Nat := 0
  /-- the DETECTs taken in the tick `takenAt`: a SORT_STOP of that tick does not count their records as taken (R246) -/
  takenAt : Nat := 0
  taken  : List Arrived := []
  /-- events that retired ABORTED in the tick `abortAt`: a cancellation of that tick still makes them CANCELLED (R429) -/
  abortAt : Nat := 0
  aborted : List Event := []
deriving DecidableEq, Repr

/-- The drive modes of R252. -/
inductive Drive where
  | boost
  | battery
  | slow
  | fast
  | off
deriving DecidableEq, Repr

/-- Phases of a pulse (R263). -/
inductive Phase where
  | swell
  | transition
  | hairline
  | turnOff
deriving DecidableEq, Repr

/-- A pulse that runs on a Quill channel. -/
structure Pulse where
  frame   : ArmFrame
  phase   : Phase
  ttp     : Option Nat
  sig     : Option Nat
  drawn   : Nat
  diag    : BitVec 3
  outcome : PulseOutcome
  /-- the SWELL_END report has been sent -/
  swellSent : Bool
  startAt : Nat
  /-- last switch-off in Hairline (R264) -/
  chopAt  : Nat := 0
  /-- last switching in Hairline, on or off (R264) -/
  swAt    : Nat := 0
  /-- last switching from FAST to SLOW of MIXED: sensing is blanked after it too (R264) -/
  mixAt   : Nat := 0
deriving DecidableEq, Repr

/-- A Quill channel (R252-R270, R282): the ARMs it holds, the running pulse and its latch. -/
structure Chan where
  drive   : Drive := .off
  held    : List ArmFrame := []
  pulse   : Option Pulse := none
  latched : Bool := false
deriving DecidableEq, Repr

/-- Learned and thermal state of a valve (R275-R280, R291). -/
structure ValveSt where
  /-- accumulator A [1/256 tick] -/
  acc       : Int := 25600000
  /-- D_LEARN in force [ticks] -/
  dLearn    : Int := 100000
  /-- nothing measured since seeding (SEEDED, never_measured) -/
  seeded    : Bool := true
  eSeeded   : Bool := true
  outlier   : Nat := 0
  eSwell    : Nat := 50000
  /-- Blotter: temperature above ambient [K] and temperature [deg C] -/
  delta     : Rat := 0
  theta     : Rat := 40
  /-- square current times time of the running millisecond [A^2 s] -/
  heat      : Rat := 0
  /-- current of the running phase [16 mA] and whether it is a Swell, and since when -/
  heatI     : Nat := 0
  heatSwell : Bool := false
  heatAt    : Nat := 0
  warn      : Bool := false
  derated   : Bool := false
  inhibited : Bool := false
  lastDiag  : BitVec 3 := 0
  ttpLast   : Nat := 0
  sigLast   : Nat := 0
  drawnLast : Nat := 0
  recovLast : Nat := 0
  pulses    : Word := 0
  /-- changed since the last save (R286) -/
  dirty     : Bool := false
deriving DecidableEq, Repr

/-- A VALVE_TEST in progress (R288-R290). -/
structure TestRun where
  handle   : HandleId
  dst      : Addr
  valve    : Valve
  cOn      : Int
  energy   : Nat
  interval : Nat
  samples  : Nat
  cleared  : Bool
  ttp      : Nat
  sig      : Nat
  drawn    : Nat
  /-- V_START and THETA, taken at C_on -/
  start    : Option (Nat × Nat)
deriving DecidableEq, Repr

/-- One Quill: instant mirror, supervision, shape sets (R19-R24, R282). -/
structure Quill where
  mirror   : BitVec 48 := 0
  /-- announced changes: tick and whether it deletes; a step with its amount -/
  adjusts  : List (Bool × Int) := []
  steps    : List (Int × Int) := []
  hot      : Bool := false
  /-- the Quill's own forwarded clock has stopped while the core clock runs (R19, R23) -/
  stopped  : Bool := false
  /-- last valid HEARTBEAT; none until the first (R42) -/
  heardAt  : Option Nat := none
  allOff   : Bool := false
  shapes0  : List Word := []
  shapes1  : List Word := []
deriving DecidableEq, Repr

/-- The two Quills and their channels and valves (chapter 8). -/
structure Valves where
  chans   : Vector Chan 64 := Vector.replicate 64 {}
  valves  : Vector ValveSt 64 := Vector.replicate 64 {}
  banks   : Vector BankSt 4 := Vector.replicate 4 {}
  quill0  : Quill := {}
  quill1  : Quill := {}
  tests   : List TestRun := []
  /-- last save of counters and learned values (R286) -/
  savedAt : Nat := 0
  /-- DRAINING has ended 5 minutes or more after the last save -/
  saveDue : Bool := false
  /-- last Blotter update (R279) -/
  blotAt  : Nat := 0
deriving DecidableEq, Repr

/-- A frame that waits for its acknowledgement on a die-to-die link (R21). Link 0, 1: Quills; 2: Ferrule. -/
structure D2dWait where
  link   : Fin 3
  msg    : D2dMsg
  sentAt : Nat
  fails  : Nat
deriving DecidableEq, Repr

structure D2d where
  wait      : List D2dWait := []
  ferruleHeard : Option Nat := none
  ferruleAllOff : Bool := false
  line      : Bool := false
  beatAt    : Nat := 0
  /-- position of the scrubber: byte address of the next 64-bit word (R15) -/
  scrubPos  : Nat := 0
  /-- clk at which the pass began; none before the first -/
  scrubAt   : Option Nat := none
  /-- words per pass follow this period [s] (R31) -/
  scrubPeriod : Nat := 4
deriving DecidableEq, Repr

/-- Protection state of a load switch (R295-R299). GATED and LIMITING of R308 follow from the DIM pins and from the
measurement. -/
inductive SwState where
  | off
  | on
  | inrush
  | tripOverload
  | tripShort
  | thermalWait
  | tripThermal
  | shedTotal
deriving DecidableEq, Repr

/-- One load switch (chapter 9). -/
structure Switch where
  commanded : Bool := false
  st        : SwState := .off
  /-- start of the inrush window -/
  inrushAt  : Option Nat := none
  /-- when the last window ended (R296, R297) -/
  windowEnd : Nat := 0
  /-- clk of the last trip or shed (R318) -/
  tripAt    : Option Nat := none
  /-- clk of the last turn-off by command while it was on, and of the last such one outside its window (R318) -/
  offAt     : Option Nat := none
  droppedAt : Option Nat := none
  /-- clk at which the junction last exceeded 175 degrees while the channel was latched (R318) -/
  hotAt     : Option Nat := none
  thermals  : List Nat := []
  openLoad  : Bool := false
  shortVbat : Bool := false
  /-- a probe found the output high and the current is removed (R304) -/
  probing   : Bool := false
  probeAt   : Nat := 0
  /-- start of the off-state check that runs, or of the next one (R304) -/
  checkAt   : Nat := 0
  clampLast : BitVec 24 := 0
  clampHi   : Word := 0
  /-- held on by Kennel code 01b, ignoring DIM_MAP (R312) -/
  kennelOn  : Bool := false
deriving DecidableEq, Repr

structure Switches where
  ch     : Vector Switch 16 := Vector.replicate 16 {}
  /-- levels of DIM0-DIM3 -/
  dim    : BitVec 4 := 0
  /-- sequences of SWITCH_SETs that go on: channels still to turn on, and when the last did (R306) -/
  gaps   : List (List Sw × Nat) := []
  /-- SWITCH_SETs with CLEAR evaluated in the tick `clearedAt`: a new trip of that tick makes their replies PARTIAL (R318) -/
  clearedAt : Nat := 0
  cleared : List Request := []
  shedAt : Nat := 0
deriving DecidableEq, Repr

/-- A trace record: its 128 bits (R399). -/
abbrev Rec := BitVec 128

/-- The trace log (chapter 12). -/
structure Log where
  /-- records take LSNs from the end of STARTING on (R401) -/
  started  : Bool := false
  /-- LSN of the next record entered into staging -/
  nextLsn  : Word := 0
  /-- staged records with their LSNs -/
  staging  : List (Word × Rec) := []
  /-- clk at which records were last staged, and how many of the last ones are of that tick (R401) -/
  tickAt   : Nat := 0
  tickRecs : Nat := 0
  /-- records dropped since the last GAP (R402) -/
  lost     : Nat := 0
  /-- records of a FILL ring dropped since the last GAP (R404) -/
  lostFill : Nat := 0
  head     : Word := 0
  tail     : Word := 0
  /-- records of the ring with their LSNs, oldest first -/
  ring     : List (Word × Rec) := []
  /-- size code in force since the start (R412) -/
  size     : BitVec 2 := 0
  clk      : BitVec 2 := 0
  xspiOk   : Bool := false
  /-- records of the burst in progress (R403) -/
  burst    : Nat := 0
  /-- LOG_READ in progress: handle, start, COUNT, and whether FROM lay below the tail -/
  read     : Option (HandleId × Word × Nat × Bool) := none
  /-- records of the running read that the tail has passed (R409) -/
  passed   : Nat := 0
deriving DecidableEq, Repr

/-- One watched engine (R416, R418, R437). -/
structure Engine where
  marks     : BitVec 24 := 0
  lastMark  : Word := 0
  busySince : Word := 0
  /-- core ticks at the last progress mark, or on becoming busy, and the Leash [ticks] that runs from it (R417) -/
  markAt    : Nat := 0
  leash     : Nat := 0
  /-- it waits on this object of the synchronisation region (R418) -/
  wait      : Option (BitVec 13) := none
  /-- SYNC_TO before each write of it, newest first, with the core tick of the write (R418, R445) -/
  syncWas   : List (Nat × Nat) := []
deriving DecidableEq, Repr

/-- A recall in progress (R421-R424). -/
structure Recall where
  job      : Fin 5
  engine   : Fin 10
  cause    : Nat
  detect   : Word
  era      : BitVec 16
  detectAt : Nat
  handle   : Option HandleId
  dst      : Addr
  sortJob  : Nat
  collect  : Option Bool
  collected : Bool
  slot     : Option Nat
  waiter   : Option (Fin 10)
  holder   : Option (Fin 10)
  object   : BitVec 13
  /-- a job abort went with it -/
  aborted  : Bool
  /-- recalls since the start, this one included (R436) -/
  seq      : BitVec 16
  /-- ticks that steps of the time base added since the freeze (R426) -/
  stepped  : Int
deriving DecidableEq, Repr

inductive SlotState where
  | free
  | collecting
  | full
  | damaged
deriving DecidableEq, Repr

structure Slot where
  st    : SlotState := .free
  words : List Word := []
deriving DecidableEq, Repr

/-- A host's ABORT_JOB that waits for IDLE (R442). -/
structure AbortRun where
  handle : HandleId
  dst    : Addr
  job    : Nat
  count  : Nat
  atInst : Word
deriving DecidableEq, Repr

/-- The Sheepdog (chapter 13). -/
structure Sheepdog where
  engines  : Vector Engine 10 := Vector.replicate 10 {}
  recalls  : List Recall := []
  slots    : Vector Slot 8 := Vector.replicate 8 {}
  seq      : BitVec 16 := 0
  /-- synchronisation objects of which a wait has told, each with the engine that holds it (R418, R421) -/
  objects  : List (BitVec 13 × Option (Fin 10)) := []
  /-- this opening of the job has been aborted (R428) -/
  aborted  : Bool := false
  /-- RESTART field of the abort: AUTO or COMMAND; none for the policy SORT_RESTART, read at the entry into IDLE (R434) -/
  auto     : Option Bool := none
  /-- automatic restart pending, counted from this moment -/
  restartAt : Option Nat := none
  aborts   : List AbortRun := []
  /-- REPORTs held by each Quill during a SORT recall (R427) -/
  heldReports : List (Fin 2 × D2dMsg) := []
deriving DecidableEq, Repr

inductive StageSt where
  | open_
  | preparing
  | prepared
  | armed
  | settling
deriving DecidableEq, Repr

/-- STAGE_COMMIT_AT at the master (R451-R454). -/
structure CommitRun where
  handle    : HandleId
  dst       : Addr
  at_       : Int
  id        : BitVec 16
  armed     : BitVec 32
  committed : BitVec 32
  answered  : BitVec 32
  polledAt  : Nat
  decided   : Bool
  /-- an abandonment ended the stage before D; the master abandoned at D (R454) -/
  abandonedBefore : Bool
  abandonedAtD : Bool
  lastSent  : Bool
deriving DecidableEq, Repr

/-- Staging (chapter 14). `stageWords`, `set0` and `set1` list the words that differ from reset. -/
structure Stage where
  st       : StageSt := .open_
  id       : BitVec 16 := 0
  persist  : Bool := false
  force    : Bool := false
  outcome  : BitVec 2 := 0
  storeFailed : Bool := false
  why      : BitVec 3 := 0
  lastId   : BitVec 16 := 0
  lastAt   : Int := 0
  /-- the armed commit instant, as a full time (R453) -/
  at_      : Int := 0
  handle   : Option (HandleId × Addr) := none
  /-- clk at which the stage last became PREPARED (R462) -/
  preparedAt : Option Nat := none
  set0     : WTable := []
  set1     : WTable := []
  words    : WTable := []
  commit   : Option CommitRun := none
  /-- a PERSIST commit waits for its store write (R458) -/
  persistDue : Bool := false
deriving DecidableEq, Repr

/-- States of the plant-bus controller (R328). -/
inductive BusSt where
  | off
  | integrating
  | errorActive
  | errorPassive
  | busOff
  | listen
  | stopping
deriving DecidableEq, Repr

/-- A received frame in the ring, the shadow or the reading buffer (R331, R337). -/
structure RxFrame where
  frame  : CanFrame
  /-- disciplined time of the start-of-frame edge [10 ps] -/
  sof    : Int
  lost   : Bool
  mirjan : Bool
  /-- rule that kept the frame; 127: DEFAULT_KEEP -/
  rule   : Nat
  seq    : BitVec 16
deriving DecidableEq, Repr

/-- A frame in the transmit queue (R338): its slot when IN_SLOT is 1, and when it came. -/
structure TxFrame where
  frame : CanFrame
  slot  : Option Nat
  at_   : Nat
deriving DecidableEq, Repr

/-- A frame that the Mirjan schedule offers: the frame, its slot start as a full time, when it was offered, and by how much
each step since has moved the slot start, with its clk. -/
structure Offer where
  frame : CanFrame
  start : Int
  at_   : Nat
  moves : List (Nat × Int) := []
deriving DecidableEq, Repr

/-- A reference frame that waits for its follow-up (R344): rank, start of frame [10 ps] as the edge read, the same moment in
the scale that steps since have made, its clk, the master's slot start, and the start of the receiver's own slot 0 that
holds it. -/
structure RefSeen where
  rank   : Nat
  sof    : Int
  edge   : Int
  at_    : Nat
  master : Int
  slot0  : Option Int
deriving DecidableEq, Repr

/-- The last stored pair of a follower (R345, R346, R353). -/
structure Pair where
  /-- stored offset [10 ps] and start of frame of the reference [10 ps], and its clk -/
  theta    : Int
  tRef     : Int
  refAt    : Nat
  holdover : Bool
  calValid : Bool
  /-- when the offset was stored -/
  at_      : Nat
deriving DecidableEq, Repr

/-- The plant-bus controller and Mirjan time (chapter 10). -/
structure Bus where
  st      : BusSt := .off
  /-- the applied word of 2100h -/
  word    : Word := 0
  /-- the word that waits in STOPPING (R326) -/
  waits   : Word := 0
  tec     : Nat := 0
  rec_    : Nat := 0
  ring    : List RxFrame := []
  shadow  : List RxFrame := []
  reading : List RxFrame := []
  lost    : Bool := false
  seq     : BitVec 16 := 0
  tx      : List TxFrame := []
  /-- Mirjan configuration in force (2101h, 2102h, 2103h) and when it took effect; a newer one waits (R354) -/
  m1      : Word := 0
  m2      : Word := 0
  m3      : Word := 0
  since   : Nat := 0
  /-- the full time at which it took effect, moved with the steps since: the silence of the lower ranks counts from here
  when none of them has been paired (R351) -/
  origin  : Int := 0
  due     : Bool := false
  /-- clk of the last cycle start and of the last slot start that has been acted on: once in its tick (R181) -/
  cycleAt : Option Nat := none
  slotAt  : Option Nat := none
  acting  : Bool := false
  ref     : Option Offer := none
  /-- the follow-up that waits to be sent -/
  fup     : Option Offer := none
  slotOn  : Option (Offer × Nat) := none
  refs    : List RefSeen := []
  /-- the last pair of each rank: the rank, its clk, and the full time of its reference, moved with the steps since -/
  paired  : List (Nat × Nat × Int) := []
  stored  : Option Pair := none
deriving DecidableEq, Repr

/-- States of a Pointer channel (R382). -/
inductive ChSt where
  | free
  | pullIn
  | track
  | reacquire
  | lost
  | stopped
deriving DecidableEq, Repr

/-- A dump record (R376): its count since the start modulo 4,096, the sample of R376, the moment of the code epoch
that begins it [10 ps], and the eight quarters. -/
structure Dump where
  chan   : PChan
  /-- clk at which it entered the dump FIFO -/
  at_    : Nat
  epoch  : BitVec 12
  sample : Nat
  edge   : Rat
  pI : Int
  pQ : Int
  eI : Int
  eQ : Int
  lI : Int
  lQ : Int
  nI : Int
  nQ : Int
deriving DecidableEq, Repr

/-- A subframe being received, with FRAME_SYNC (R388-R390). -/
structure Frame where
  /-- words complete: data bits d1-d24 and parity -/
  words    : List (Nat × Bool) := []
  /-- bits of the word in progress, oldest first, after the polarity -/
  bits     : List Bool := []
  /-- the first eight bits of the subframe, after the polarity -/
  head     : List Bool := []
  d29      : Bool := false
  d30      : Bool := false
  inverted : Bool := false
  /-- moment of the subframe's first bit edge [10 ps] -/
  start    : Rat := 0
  /-- consecutive positions without a good preamble, TLM and HOW -/
  misses   : Nat := 0
deriving DecidableEq, Repr

/-- A Pointer channel (sections 11.5 to 11.8). -/
structure Pointer where
  st       : ChSt := .free
  /-- PRN - 1 -/
  prn      : Fin 32 := 0
  update   : Nat := 0
  spacing  : Nat := 10
  /-- NCO increments in force, and the update that waits with its target EPOCH (R377, R60) -/
  carInc   : Nat := 0
  codeInc  : Nat := 0
  waiting  : Option (Nat × Nat × Nat) := none
  /-- model of the NCOs: at sample `at_`, carrier phase less that of IF_FREQ since the last entry into PULL_IN [cycles],
  and code phase [chips] -/
  at_      : Nat := 0
  car      : Rat := 0
  code     : Rat := 0
  /-- the carrier NCO at that sample, and the samples of the integration in progress before it (R374) -/
  carNco   : BitVec 32 := 0
  taken    : Nat := 0
  /-- half a cycle added by the preamble [cycles] -/
  half     : Rat := 0
  /-- dumps closed since the channel started: the EPOCH of the dump in progress (R376) -/
  epoch    : Nat := 0
  /-- first EPOCH of the present update period -/
  next     : Nat := 0
  fInt     : Rat := 0
  dopp     : Rat := 0
  lastP    : Option (Int × Int) := none
  /-- lock indicators of the last 100 ms, newest first, with their length [ms] -/
  locks    : List (Rat × Nat) := []
  trackAt  : Nat := 0
  run      : Nat := 0
  overruns : Nat := 0
  reacqs   : Nat := 0
  reacqNew : Bool := false
  slip     : Bool := false
  tries    : Nat := 0
  failedAt : Option Nat := none
  cn0      : BitVec 8 := 0
  /-- prompt and noise powers of the running second, and the dumps in it -/
  pSum     : Nat := 0
  nSum     : Nat := 0
  powers   : Nat := 0
  /-- the last C/N0 estimate, or the start of the channel (R386) -/
  cn0At    : Nat := 0
  /-- sign changes of PI by EPOCH mod 20 (R387), when they were last cleared, and the last EPOCH with the sign of its PI -/
  changes  : Vector Nat 20 := Vector.replicate 20 0
  clearAt  : Nat := 0
  lastPI   : Option (Nat × Bool) := none
  bitSync  : Bool := false
  /-- EPOCH of the first dump of the first bit -/
  bitEdge  : Nat := 0
  /-- the bit in progress: PI sum, moment of its first edge [10 ps], and its number since BIT_SYNC -/
  bitSum   : Int := 0
  bitFrom  : Rat := 0
  bitN     : Nat := 0
  /-- the last bits, newest first, with the moment of their first edge -/
  bits     : List (Bool × Rat) := []
  frameSync : Bool := false
  halfCycle : Bool := false
  frame    : Frame := {}
  /-- milliseconds of GPS week of the last code epoch -/
  txMs     : Nat := 0
deriving DecidableEq, Repr

inductive AcqPhase where
  | waits (sinceFull : Int)
  | captures
  | searches
deriving DecidableEq, Repr

/-- An ACQUIRE (R365-R372). -/
structure Acquire where
  handle  : HandleId
  mask    : BitVec 32
  update  : Nat
  spacing : Nat
  bin     : Nat
  auto    : Bool
  aided   : Bool
  nc      : Nat
  nnc     : Nat
  /-- t_cap [10 ps], once the capture has begun, and the sample count of its first sample -/
  tCap    : Option Int := none
  first   : Nat := 0
deriving DecidableEq, Repr

/-- An entry of the aiding table (R373). -/
structure Aid where
  until_  : Int
  doppler : Int
  span    : Nat
deriving DecidableEq, Repr

/-- A stored subframe: PRN - 1, subframe ID and the record (R390). -/
structure NavRec where
  prn  : Fin 32
  id   : Nat
  rec_ : List Word
deriving DecidableEq, Repr

/-- The GNSS baseband (chapter 11). -/
structure Gnss where
  on      : Bool := false
  ready   : Bool := false
  onAt    : Nat := 0
  /-- captures of the time bridge before the last GNSS_POWER ON, and at the last measurement epoch -/
  onCap   : Nat := 0
  measCap : Nat := 0
  /-- IF_FREQ, IF_INVERT and RF_SETTLE taken at the last GNSS_POWER ON (R396) -/
  ifFreq  : Nat := 4092000
  invert  : Bool := false
  settle  : Nat := 50
  chans   : Vector Pointer 16 := Vector.replicate 16 {}
  fifo    : List Dump := []
  ring    : List Dump := []
  running : Option (Acquire × AcqPhase) := none
  queued  : List Acquire := []
  /-- reacquisition search that runs, and those that wait -/
  reacqOn : Option PChan := none
  /-- sample count from which the running search may capture -/
  reacqFrom : Nat := 0
  reacqs  : List PChan := []
  aids    : List (Fin 32 × Aid) := []
  nav     : List NavRec := []
  table   : List NavRec := []
  /-- the sample-block FIFO, and the GNSS sample buffer from its first word on; samples lost to an overflow are absent
  (R59) -/
  blocks  : BlockFifo := {}
  buffer  : List (Option Int) := []
  /-- measurement epochs, oldest first, each with its words -/
  meas    : List (List Word) := []
deriving DecidableEq, Repr

/-- The whole machine. `pending` is the queue of the commands that wait, first in, first out; `out` is what the last
command sent; `clk` counts core ticks; `freeCtr` counts the uses of free values (log entries 1, 2, 12). -/
structure State where
  pending : List Instr
  out     : List Out
  clk     : Nat
  freeCtr : Nat
  dev     : Dev
  power   : Power
  clocks  : Clocks
  fw      : Firmware
  regs    : Regs
  faults  : Faults
  health  : Health
  watch   : Watch
  kennel  : Kennel
  time    : Time
  pps     : Pps
  up      : Port
  down    : Port
  bulkQ   : List Waiting
  urgentQ : List Waiting
  own     : List Own
  tagNext : BitVec 14
  enumRun : Option EnumRun
  echoRun : Option EchoRun
  hnd     : Handles
  par     : Params
  nib     : Nib
  vlv     : Valves
  d2d     : D2d
  sw      : Switches
  bus     : Bus
  gnss    : Gnss
  log     : Log
  dog     : Sheepdog
  stage   : Stage
deriving DecidableEq, Repr

/-- Why a command stops the machine: no command of this block does. Entering FAULT is a next state (R5, R6). -/
inductive Fault where
deriving DecidableEq, Repr

/-- Why a command has no next state. -/
inductive Refusal where
  /-- Raised by the dispatcher alone, for a command without a meaning; safe: nothing is claimed of it. -/
  | notModelled (mnemonic : String)
deriving DecidableEq, Repr

/-- The part right after a reset that POWER_ON caused: supplies valid, RESET_N high, step 1a of the start (R38, R179,
R121, R157-R178; the values the spec does not give are those of log entries 3 and 4). -/
def State.reset : State where
  pending := []
  out := []
  clk := 0
  freeCtr := 0
  dev := {}
  power := {}
  clocks := {}
  fw := {}
  regs := {}
  faults := {}
  health := {}
  watch := {}
  kennel := {}
  time := {}
  pps := {}
  up := {}
  down := {}
  bulkQ := []
  urgentQ := []
  own := []
  tagNext := 0
  enumRun := none
  echoRun := none
  hnd := {}
  par := {}
  nib := {}
  vlv := {}
  d2d := {}
  sw := {}
  bus := {}
  gnss := {}
  log := {}
  dog := {}
  stage := {}

end Sys2Proof.Machine
end

