-- ==== Sys2Proof/Machine/Ops.lean ====
section
/-! DEFINITION. The shared operations: elapsed time, parameters and counters, log staging, handles and completions,
replies and the checks of R109. -/

namespace Sys2Proof.Machine

/-- The code of a status (R112). -/
def Status.num : Status → Nat
  | .ok => 0x00 | .accepted => 0x01 | .firedLate => 0x02 | .cancelled => 0x03 | .aborted => 0x04 | .shed => 0x05
  | .staggered => 0x06 | .partialDone => 0x07 | .badOpcode => 0x10 | .badLength => 0x11 | .badParam => 0x12
  | .badState => 0x13 | .noHandle => 0x14 | .badDate => 0x15 | .locked => 0x16 | .tooLate => 0x17 | .busy => 0x18
  | .notMaster => 0x19 | .linkFault => 0x1A | .energy => 0x1B | .ramping => 0x20 | .notReady => 0x21
  | .abandoned => 0x22 | .inhibited => 0x23 | .valveFault => 0x24 | .calendarLimit => 0x25 | .busOff => 0x26
  | .notFound => 0x27 | .imageBad => 0x28 | .storeFail => 0x29 | .noSuchHandle => 0x2A

/-- CODE of STATE (R158). -/
def Code.num : Code → Nat
  | .off => 0 | .starting => 1 | .unaddressed => 2 | .idle => 3 | .sorting => 4 | .draining => 5 | .fault => 6

/-! ### Time -/

/-- The full time T (R179). -/
def State.full (s : State) : Int := (s.time.e.toNat * 2 ^ 48 + s.time.n.toNat : Nat)

/-- The disciplined time in units of 2^-32 tick. -/
def State.fine (s : State) : Int := s.full * 2 ^ 32 + (s.time.phi.toNat : Int)

/-- The fraction in 10 ps (R183). -/
def State.fraction (s : State) : Nat := s.time.phi.toNat * 1000 / 2 ^ 32

/-- The disciplined time in 10 ps. -/
def State.now10 (s : State) : Int := s.full * 1000 + (s.fraction : Int)

/-- The present instant as a word. -/
def State.nowWord (s : State) : Word := s.time.n

/-- N, E and phi of a disciplined time in units of 2^-32 tick (R180, R203). -/
def Time.setFine (t : Time) (x : Int) : Time :=
  { t with
    phi := BitVec.ofInt 32 x
    n := BitVec.ofInt 48 (x / 2 ^ 32)
    e := BitVec.ofInt 16 (x / 2 ^ 80) }

/-- The disciplined time, the rate and the waiting rates after the ticks from `clk` to `fin` (R180, R182): each tick
adds 2^32 + rho. -/
def runRates (clk fin : Nat) (x rho : Int) : List (Nat × Int) → Int × Int × List (Nat × Int)
  | [] => (x + ((fin - clk : Nat) : Int) * (2 ^ 32 + rho), rho, [])
  | (a, r) :: q =>
    if a ≤ fin then
      let c := max a clk
      runRates c fin (x + ((c - clk : Nat) : Int) * (2 ^ 32 + rho)) r q
    else (x + ((fin - clk : Nat) : Int) * (2 ^ 32 + rho), rho, (a, r) :: q)

/-- The changes of rate in the ticks from `clk` to `fin`, newest first: from when, from which time, at which rate. -/
def rateTurns (clk fin : Nat) (x rho : Int) : List (Nat × Int) → List (Nat × Int × Int)
  | [] => []
  | (a, r) :: q =>
    if a ≤ fin then
      let c := max a clk
      let y := x + ((c - clk : Nat) : Int) * (2 ^ 32 + rho)
      rateTurns c fin y r q ++ [(c, y, r)]
    else []

/-- The changes of the last 2 s, and the one before them (R331, R344). -/
def keepTurns (clk : Nat) : List (Nat × Int × Int) → List (Nat × Int × Int)
  | [] => []
  | a :: r => if a.1 + 200000000 < clk then [a] else a :: keepTurns clk r

/-- The time base's course has changed: `l` is put on top of what is kept; the first change keeps the course before it. -/
def Time.turned (t : Time) (clk : Nat) (x : Int) (l : List (Nat × Int × Int)) : Time :=
  if l.isEmpty then t
  else { t with past := keepTurns clk (l ++ (if t.past.isEmpty then [(clk, x, t.rho)] else t.past)) }

/-- The core clock runs: the PLL has locked and no cause of R491 has stopped it. -/
def State.clockRuns (s : State) : Bool :=
  s.clocks.locked && s.dev.dead != some .supply && s.dev.dead != some .clock

/-- The time base after `dt` ticks. -/
def Time.tick (t : Time) (clk dt : Nat) (x : Int) : Time :=
  let r := runRates clk (clk + dt) x t.rho t.rhoNext
  { (t.turned clk x (rateTurns clk (clk + dt) x t.rho t.rhoNext)).setFine r.1 with rho := r.2.1, rhoNext := r.2.2 }

/-- The full time one tick before the end of `dt` passing ticks; with no tick passing, what it was. -/
def Time.before (t : Time) (clk dt : Nat) (x : Int) : Int :=
  if dt = 0 then t.prev else (runRates clk (clk + dt - 1) x t.rho t.rhoNext).1 / 2 ^ 32

/-- A Quill's mirror after `dt` cycles of the core clock: it counts on its own forwarded clock (R19). -/
def Quill.tick (k : Quill) (dt : Nat) : Quill :=
  if k.stopped then k else { k with mirror := k.mirror + BitVec.ofNat 48 dt }

/-- `dt` core ticks pass: the time base counts (R180), the mirrors count (R19), and the emissions of the command
before are gone. Nothing else moves by itself (log entry 1). -/
def State.elapse (s : State) (dt : Nat) : State :=
  if s.clockRuns then
    { s with
      out := []
      clk := s.clk + dt
      time := { s.time.tick s.clk dt s.fine with
        core := s.time.core + dt, prev := s.time.before s.clk dt s.fine }
      vlv := { s.vlv with quill0 := s.vlv.quill0.tick dt, quill1 := s.vlv.quill1.tick dt } }
  else
    { s with
      out := []
      clk := s.clk + dt
      time := if dt = 0 then s.time else
        { s.time.turned s.clk s.fine [(s.clk + dt, s.fine, s.time.rho), (s.clk, s.fine, -(2 ^ 32))] with prev := s.full } }

/-- An instant is reached in this tick: it lies after the last tick's full time, and not after this one's (R181). -/
def State.reached (s : State) (x : Int) : Bool := s.clockRuns && decide (s.time.prev < x) && decide (x ≤ s.full)

/-- The full time that a 48-bit instant means (R184). -/
def State.resolve (s : State) (x : Word) : Int :=
  s.full + signed 48 ((x - s.time.n).toNat)

/-- The last full time up to `x` whose instant is divisible by 100,000 (R61, R97, R203). -/
def epochOf (x : Int) : Int := x - x % 2 ^ 48 % 100000

/-- The first full time after `x` whose instant is divisible by 100,000: instant 0 follows the last one of an era. -/
def nextEpoch (x : Int) : Int :=
  let e := epochOf x + 100000
  if e / 2 ^ 48 = x / 2 ^ 48 then e else e / 2 ^ 48 * 2 ^ 48

/-- The disciplined time [10 ps] `sub` hundredths of a nanosecond after the start of this tick. -/
def State.at10 (s : State) (sub : Nat) : Int := (s.fine * 1000 + (sub : Int) * (2 ^ 32 + s.time.rho)) / 2 ^ 32

/-- The disciplined time [10 ps] that a past moment had, `ago` hundredths of a nanosecond before this tick: at the rate of
that moment, and in the scale of that moment (R180, R331). -/
def State.past10 (s : State) (ago : Nat) : Int :=
  let m : Int := (s.clk * 1000 : Nat) - (ago : Int)
  let a := (s.time.past.find? fun a => decide ((a.1 * 1000 : Nat) ≤ m)).orElse fun _ => s.time.past.getLast?
  let a := a.getD (s.clk, s.fine, s.time.rho)
  (a.2.1 * 1000 + (m - (a.1 * 1000 : Nat)) * (2 ^ 32 + a.2.2)) / 2 ^ 32

/-- A signed value as a word; one that does not fit is a free word (log entry 12). -/
def State.wordOf (s : State) (x : Int) : Word × State :=
  if -(2 ^ 47 : Int) ≤ x ∧ x < 2 ^ 47 then (BitVec.ofInt 48 x, s)
  else (Config.freeWord s.freeCtr, { s with freeCtr := s.freeCtr + 1 })

/-- Something is sent. -/
def State.emit (s : State) (o : Out) : State := { s with out := s.out ++ [o] }

/-- An integer for a rational: itself when it is one, else one of its two neighbours, which the free value
Config.roundsUp picks (log entry 12). -/
def State.quantise (s : State) (q : Rat) : Int × State :=
  if q.den = 1 then (q.num, s)
  else (if Config.roundsUp s.freeCtr q then q.floor + 1 else q.floor, { s with freeCtr := s.freeCtr + 1 })

/-- The nearest integer; at a tie one of the two, which the free value picks where the spec names no side (log entry
12). -/
def State.nearest (s : State) (q : Rat) : Int × State :=
  if q.den = 2 then s.quantise q else (roundRat q, s)

/-- The next free word. -/
def State.freeWord (s : State) : Word × State :=
  (Config.freeWord s.freeCtr, { s with freeCtr := s.freeCtr + 1 })

/-! ### Parameters -/

/-- A table entry over its reset value. -/
def tval (t : WTable) (id : Nat) : Word := (tget t id).getD (paramReset id)

/-- A table with a value written; a value equal to the reset value is not listed. -/
def tput (t : WTable) (id : Nat) (v : Word) : WTable :=
  if v = paramReset id then tdel t id else tset t id v

/-- The table of a set of staged tables (R447): false is set 0. -/
def Stage.setTab (g : Stage) (set : Bool) : WTable := if set then g.set1 else g.set0

/-- A parameter in a given set. -/
def State.inSet (s : State) (set : Bool) (id : Nat) : Word := tval (s.stage.setTab set) id

/-- The working copy of a parameter; a staged table's from the set in force (R447). -/
def State.work (s : State) (id : Nat) : Word :=
  if staged id then s.inSet s.stage.force id else tval s.par.work id

/-- A field of the working copy. -/
def State.pf (s : State) (id hi lo : Nat) : Nat := fld (s.work id) hi lo
/-- A signed field of the working copy. -/
def State.ps (s : State) (id hi lo : Nat) : Int := sfld (s.work id) hi lo
/-- A field of a set. -/
def State.sf (s : State) (set : Bool) (id hi lo : Nat) : Nat := fld (s.inSet set id) hi lo
/-- A field of a parameter that was taken at the start (R63). -/
def State.bootf (s : State) (id hi lo : Nat) : Nat := fld (tval s.par.boot id) hi lo

/-- A write to the working copy. -/
def State.setWork (s : State) (id : Nat) (v : Word) : State :=
  if staged id then
    if s.stage.force then { s with stage := { s.stage with set1 := tput s.stage.set1 id v } }
    else { s with stage := { s.stage with set0 := tput s.stage.set0 id v } }
  else { s with par := { s.par with work := tput s.par.work id v } }

/-- A word of two 24-bit wrapping counters with `n` added to the upper half or to the lower. -/
def addHalf (w : Word) (upper : Bool) (n : Nat) : Word :=
  if upper then putFld w 47 24 (fld w 47 24 + n) else putFld w 23 0 (fld w 23 0 + n)

/-- The counts that counters took in this tick, by ID. -/
def State.seenNow (s : State) : WTable := if s.par.seenAt = s.clk then s.par.seen else []

/-- A 24-bit wrapping counter of a parameter counts by `n`: the upper half or the lower (R105, R144, R287). -/
def State.count (s : State) (id : Nat) (upper : Bool) (n : Nat) : State :=
  { s with par := { s.par with
      work := tput s.par.work id (addHalf (tval s.par.work id) upper n)
      seenAt := s.clk
      seen := tset s.seenNow id (addHalf ((tget s.seenNow id).getD 0) upper n) } }

/-- T_commit in ticks (R250). -/
def State.tCommit (s : State) : Nat := s.pf 0x200 9 0 * 100

/-- The reporting mode (R127). -/
def State.mode (s : State) : Nat := s.pf 0x40 1 0

/-! ### Banks and the device state -/

/-- A mask of the four banks. -/
def State.bankMask (s : State) (f : BankSt → Bool) : Nat := maskOf 4 fun i => if h : i < 4 then f s.vlv.banks[i] else false

/-- BANK_EN. -/
def State.bankEn (s : State) : Nat := s.bankMask (·.en)
/-- BANK_READY. -/
def State.bankReady (s : State) : Nat := s.bankMask (·.ready)

/-- The bank's last measured voltage lies above its target (R255). -/
def BankSt.above (b : BankSt) : Bool := decide (b.target * 8 < b.v)

/-- The bank's ceiling [1/32 V]: its target and 3.00 V (R257). -/
def BankSt.ceiling (b : BankSt) : Nat := (b.target + 12) * 8

/-- V [1/32 V] lies within 2 % of a target [0.25 V]. -/
def inBand (v target : Nat) : Bool := decide (((v : Int) - 8 * target).natAbs * 50 ≤ 8 * target)

/-- A bank whose voltage or target has changed: since when V has lain inside its band, or outside (R258, R260), and whether
its converter switches (R46, R255). -/
def BankSt.track (b : BankSt) (clk : Nat) (low : Bool) : BankSt :=
  let inside := inBand b.v b.target
  { b with
    bandAt := if inside then some (b.bandAt.getD clk) else none
    outAt := if inside then none else some (b.outAt.getD clk)
    switching := !low && b.phase != .idle && b.phase != .failed && !b.above }

/-- V has stayed within 2 % of the target for 500 us (R39, R258, R260). -/
def BankSt.steady (b : BankSt) (clk : Nat) : Bool :=
  match b.bandAt with
  | some t => decide (t + 50000 ≤ clk)
  | none => false

/-- V has stayed outside for 1 ms (R258). -/
def BankSt.strayed (b : BankSt) (clk : Nat) : Bool :=
  match b.outAt with
  | some t => decide (t + 100000 ≤ clk)
  | none => false

/-- Bank of a valve (R27). -/
def bankOf (v : Valve) : Bank := ⟨v.val / 16, by omega⟩
/-- Quill of a bank (R27). -/
def quillOf (b : Bank) : Fin 2 := ⟨b.val / 2, by omega⟩

/-- A bank changed. -/
def State.modBank (s : State) (b : Bank) (f : BankSt → BankSt) : State :=
  { s with vlv := { s.vlv with banks := s.vlv.banks.set b (f s.vlv.banks[b]) } }
/-- Every bank changed. -/
def State.modBanks (s : State) (f : BankSt → BankSt) : State :=
  { s with vlv := { s.vlv with banks := s.vlv.banks.map f } }
/-- A channel changed. -/
def State.modChan (s : State) (v : Valve) (f : Chan → Chan) : State :=
  { s with vlv := { s.vlv with chans := s.vlv.chans.set v (f s.vlv.chans[v]) } }
/-- A valve's state changed. -/
def State.modValve (s : State) (v : Valve) (f : ValveSt → ValveSt) : State :=
  { s with vlv := { s.vlv with valves := s.vlv.valves.set v (f s.vlv.valves[v]) } }
/-- A load switch changed. -/
def State.modSw (s : State) (n : Sw) (f : Switch → Switch) : State :=
  { s with sw := { s.sw with ch := s.sw.ch.set n (f s.sw.ch[n]) } }
/-- A Quill changed. -/
def State.modQuill (s : State) (q : Fin 2) (f : Quill → Quill) : State :=
  if q = 0 then { s with vlv := { s.vlv with quill0 := f s.vlv.quill0 } }
  else { s with vlv := { s.vlv with quill1 := f s.vlv.quill1 } }
/-- A Quill. -/
def State.quill (s : State) (q : Fin 2) : Quill := if q = 0 then s.vlv.quill0 else s.vlv.quill1

/-- A port changed. -/
def State.modPort (s : State) (p : Side) (f : Port → Port) : State :=
  match p with
  | .up => { s with up := f s.up }
  | .down => { s with down := f s.down }
/-- A port. -/
def State.port (s : State) : Side → Port
  | .up => s.up
  | .down => s.down
/-- The other side. -/
def otherSide : Side → Side
  | .up => .down
  | .down => .up
/-- A port is trained. -/
def State.portUp (s : State) (p : Side) : Bool := (s.port p).state == .up
/-- A class of a port. -/
def Port.lane (p : Port) (urgent : Bool) : Lane := if urgent then p.urgent else p.bulk
/-- A class of a port changed. -/
def Port.modLane (p : Port) (urgent : Bool) (f : Lane → Lane) : Port :=
  if urgent then { p with urgent := f p.urgent } else { p with bulk := f p.bulk }

/-! ### The trace log -/

/-- A 128-bit record from its fields (R399). -/
def mkRec : List (Nat × Nat × Nat) → Rec
  | [] => 0
  | (hi, lo, v) :: r => BitVec.ofNat 128 ((v % 2 ^ (hi + 1 - lo)) <<< lo) ||| mkRec r

/-- A field of a trace record. -/
def rfld (r : Rec) (hi lo : Nat) : Nat := (r.toNat >>> lo) % 2 ^ (hi + 1 - lo)

/-- A watched engine changed. -/
def State.modEngine (s : State) (e : Fin 10) (f : Engine → Engine) : State :=
  { s with dog := { s.dog with engines := s.dog.engines.set e (f s.dog.engines[e]) } }

/-- LEASH of an engine in ticks (R445). -/
def State.leashOf (s : State) (e : Fin 10) : Nat := s.pf (0x2400 + e.val) 40 24 * 100

/-- An engine becomes busy: its Leash starts afresh (R416, R445). -/
def State.wake (s : State) (e : Fin 10) (busy : Bool) : State :=
  if busy then s
  else s.modEngine e fun x => { x with busySince := s.time.n, markAt := s.time.core, leash := s.leashOf e }

/-- A progress mark: the Leash restarts (R416, R445). -/
def State.mark (s : State) (e : Fin 10) : State :=
  s.modEngine e fun x =>
    { x with marks := x.marks + 1, lastMark := s.time.n, markAt := s.time.core, leash := s.leashOf e }

/-- The log engine is busy: a record waits in staging or a LOG_READ runs (R416). -/
def State.logBusy (s : State) : Bool := !s.log.staging.isEmpty || s.log.read.isSome

/-- Place of a record among those of one tick: TIME, GAP, STATE, EJECT and REFUSAL of Nib engines A to D, MARK (R401). -/
def recRank (r : Rec) : Nat :=
  match rfld r 127 124 with
  | 3 => 0
  | 4 => 1
  | 5 => 2
  | 1 => 3 + rfld r 27 22 / 16
  | 6 => 3 + rfld r 63 62
  | _ => 7

/-- The staged records with one more: those of this tick stand in the order of R401, and take their LSNs in it. Records of a
burst in progress keep theirs. -/
def Log.stage (l : Log) (clk : Nat) (r : Rec) : Log :=
  let k := min (if l.tickAt = clk then l.tickRecs else 0) (l.staging.length - l.burst)
  let recent := l.staging.drop (l.staging.length - k)
  let recs := insertBy (fun x y => decide (recRank x ≤ recRank y)) r (recent.map (·.2))
  { l with
    staging := l.staging.take (l.staging.length - k) ++ (recent.map (·.1) ++ [l.nextLsn]).zip recs
    nextLsn := l.nextLsn + 1, tickAt := clk, tickRecs := k + 1 }

/-- A record enters log staging in the tick of its cause, or is dropped (R398, R402). After a drop nothing enters
before the GAP record of LOG_BURST_DONE. -/
def State.stageRec (s : State) (r : Rec) : State :=
  if !s.log.started then s
  else if !s.log.xspiOk then s.count 0x2305 true 1
  else if s.log.staging.length < 4096 && s.log.lost = 0 then
    let s := s.wake 6 s.logBusy
    { s with log := s.log.stage s.clk r }
  else ({ s with log := { s.log with lost := s.log.lost + 1 } } : State).count 0x2305 true 1

/-- The bits of a GAP record (R399). -/
def State.gapBits (s : State) (lost cause : Nat) : Rec :=
  mkRec [(127, 124, 4), (123, 76, s.nowWord.toNat), (75, 52, sat 24 lost), (51, 50, cause)]

/-- `x` held to the range of a signed field of `bits` bits, as its pattern (R2). -/
def satSigned (bits : Nat) (x : Int) : Nat :=
  let m : Int := (2 ^ (bits - 1) : Nat)
  unsign bits (if m - 1 < x then m - 1 else if x < -m then -m else x)

/-- LEAP_COUNT (R195). -/
def State.leapCount (s : State) : Int := s.ps 0x106 31 24

/-- The date and time of the calendar lie beyond its end: U at or past 2200-01-01, the end moved by a leap second
announced for 2199-12-31 (R193). -/
def State.calLimit (s : State) : Bool :=
  let dir := s.pf 0x106 17 16
  let at2199 := s.pf 0x106 15 4 = 2199 ∧ s.pf 0x106 3 0 = 12
  let fin : Int := 6311433600 + (if dir = 1 ∧ at2199 then 1 else if dir = 2 ∧ at2199 then -1 else 0)
  decide (s.full / 100000000 - s.leapCount ≥ fin)

/-- A TIME record of an instant (R399): CAUSE 0 second, 1 step, 2 source change, 3 start. -/
def State.timeRec (s : State) (full : Int) (cause : Nat) (value : Int) : State :=
  s.stageRec (mkRec [(127, 124, 3), (123, 76, unsign 48 full), (75, 60, unsign 16 (full / 2 ^ 48)),
    (59, 52, unsign 8 s.leapCount), (51, 49, s.time.source.toNat), (48, 48, b2n s.time.holdover),
    (47, 47, b2n s.time.calValid), (46, 46, b2n s.calLimit), (45, 44, cause), (43, 0, satSigned 44 value)])

/-- A STATE record (R399, R400). -/
def State.stateRec (s : State) (old : Code) (cause : Nat) : State :=
  s.stageRec (mkRec [(127, 124, 5), (123, 76, s.nowWord.toNat), (75, 72, s.dev.code.num), (71, 68, old.num),
    (67, 52, s.dev.job), (51, 48, s.bankEn), (47, 47, b2n s.kennel.active), (46, 39, cause),
    (38, 31, s.faults.first.toNat)])

/-- The device enters a state: START_STEP is shown in STARTING only, and a STATE record is written (R5, R158, R400). -/
def State.enter (s : State) (c : Code) (cause : Nat) : State :=
  ({ s with dev := { s.dev with code := c, startStep := 0 } } : State).stateRec s.dev.code cause

/-! ### Handles and completions -/

/-- INDEX of a handle ID (R118). -/
def hIndex (h : HandleId) : Nat := h.toNat % 2 ^ 14
/-- GEN of a handle ID. -/
def hGen (h : HandleId) : Nat := h.toNat / 2 ^ 14
/-- The ejection pool holds the handle (R118). -/
def isEj (h : HandleId) : Bool := decide (hIndex h < 0x3F00)

/-- The next free index of a pool: an index never used, ascending, then the one freed longest ago (R120). -/
def Pool.next (p : Pool) (limit : Nat) : Option (Nat × Pool) :=
  if p.fresh < limit then some (p.fresh, { p with fresh := p.fresh + 1 })
  else
    match p.freed with
    | [] => none
    | i :: r => some (i, { p with freed := r })

/-- Free handles of a pool (R145). -/
def Pool.free (p : Pool) (limit : Nat) : Nat := (limit - p.fresh) + p.freed.length

/-- The handle ID of an index with its present GEN. -/
def Handles.idOf (h : Handles) (i : Nat) : HandleId :=
  BitVec.ofNat 16 (((tget h.gens i).getD 0).toNat * 2 ^ 14 + i)

/-- A handle of the reserved pool for an operation (R118-R120). -/
def State.takeRs (s : State) (opc : Nat) (dst : Addr) (st : HState) : Option (HandleId × State) :=
  match s.hnd.rs.next 0x4000 with
  | none => none
  | some (i, p) =>
    let id := s.hnd.idOf i
    some (id, { s with hnd := { s.hnd with
      rs := { p with live := p.live ++ [{ id, st, opc := BitVec.ofNat 8 opc, dst }] } } })

/-- A handle of the ejection pool. -/
def State.takeEj (s : State) (dst : Addr) : Option (HandleId × State) :=
  match s.hnd.ej.next 0x3F00 with
  | none => none
  | some (i, p) =>
    let id := s.hnd.idOf i
    some (id, { s with hnd := { s.hnd with
      ej := { p with live := p.live ++ [{ id, st := .accepted, opc := 0x20, dst }] } } })

/-- The record of a handle in use. -/
def State.live? (s : State) (h : HandleId) : Option Live :=
  (if isEj h then s.hnd.ej.live else s.hnd.rs.live).find? fun l => l.id == h

/-- A handle's record changed. -/
def State.modLive (s : State) (h : HandleId) (f : Live → Live) : State :=
  if isEj h then
    { s with hnd := { s.hnd with ej := { s.hnd.ej with live := mapIf (fun l => l.id == h) f s.hnd.ej.live } } }
  else
    { s with hnd := { s.hnd with rs := { s.hnd.rs with live := mapIf (fun l => l.id == h) f s.hnd.rs.live } } }

/-- A pool with a handle freed: last in the order of free handles (R120). -/
def Pool.release (p : Pool) (h : HandleId) : Pool :=
  if p.live.any (fun l => l.id == h) then
    { p with live := p.live.filter (fun l => l.id != h), freed := p.freed ++ [hIndex h] }
  else p

/-- A handle becomes free and its GEN increases by one modulo 4 (R119, R120). -/
def State.freeHandle (s : State) (h : HandleId) : State :=
  match s.live? h with
  | none => s
  | some _ =>
    let g := (hGen h + 1) % 4
    let gens := if g = 0 then tdel s.hnd.gens (hIndex h) else tset s.hnd.gens (hIndex h) (word g)
    if isEj h then { s with hnd := { s.hnd with ej := s.hnd.ej.release h, gens } }
    else { s with hnd := { s.hnd with rs := s.hnd.rs.release h, gens } }

/-- The three fixed words of a completion (R124). -/
def State.complWords (s : State) (st : Status) (h : Nat) (detail opc kind result : Nat) : List Word :=
  [fields [(47, 40, st.num), (39, 24, h), (23, 0, detail)], s.nowWord,
    fields [(47, 40, opc), (39, 32, kind), (31, 0, result)]]

/-- A handle's final status is fixed: it retires and its completion record is queued (R119, R124, R125). -/
def State.complete (s : State) (h : HandleId) (st : Status) (detail result : Nat) (more : List Word) : State :=
  match s.live? h with
  | none => s
  | some l =>
    if l.st == .retiring then s else
    let s := s.modLive h fun l => { l with st := .retiring, final := some st }
    let words := s.complWords st h.toNat detail l.opc.toNat 0 result ++ more
    { s with hnd := { s.hnd with queue := s.hnd.queue ++
      [{ dst := l.dst, handle := some h, tag := BitVec.ofNat 14 (hIndex h), words }] } }

/-- A status is counted in the running summary interval (R127, R129). -/
def State.tally (s : State) (code n : Nat) : State :=
  if s.mode = 2 then
    let c := (tget s.hnd.counts code).getD 0
    { s with hnd := { s.hnd with counts := tset s.hnd.counts code (c + word n), sumAny := true } }
  else s

/-- The running summary interval closes with its record, and the next starts (R128, R129). -/
def State.closeSummary (s : State) : State :=
  let ws := s.hnd.counts.map fun (c, n) => fields [(47, 40, c), (39, 0, n.toNat)]
  let words := s.complWords .ok 0 ws.length 0x20 1 (s.clk - s.hnd.sumFrom) ++ ws
  { s with hnd := { s.hnd with
      counts := [], sumFrom := s.clk, sumAny := false,
      queue := s.hnd.queue ++ [{ dst := 0, handle := none, tag := 0, words }] } }

/-! ### Packets -/

/-- A header word (R107). -/
def mkHeader (dst src : Addr) (opc : Nat) (tag : BitVec 14) (len : Nat) (reply noreply urgent : Bool) : Word :=
  fields [(47, 42, dst.toNat), (41, 36, src.toNat), (35, 28, opc), (27, 14, tag.toNat), (13, 6, len), (5, 5, b2n reply),
    (1, 1, b2n noreply), (0, 0, b2n urgent)]

/-- Words leave the receive buffer of a port (R80, R81). -/
def State.freeRx (s : State) (p : Side) (urgent : Bool) (n : Nat) : State :=
  s.modPort p fun q => q.modLane urgent fun l =>
    { l with freed := l.freed + BitVec.ofNat 12 n, buffered := l.buffered - n }

/-- The packet of a detection record waits in the other port, with its words in the receive buffer (R81). -/
def TxPacket.carries (t : TxPacket) (r : NibRec) : Bool :=
  match t.detect with
  | some (a, z) => decide (a ≤ r.no) && decide (r.no < z) && t.holds != 0
  | none => false

/-- The words of a record pass between its packet, which holds them while it waits in the other port, and the record, for
which a full queue keeps them: a word is free when both have let it go (R80, R81, R219). `take` has the record keep them. -/
def State.recordWords (s : State) (r : NibRec) (take : Bool) : State :=
  let o := otherSide r.port
  if (s.port o).bulk.stored.any fun t => t.carries r then
    s.modPort o fun q => q.modLane false fun l => { l with
      stored := mapIf (fun t => t.carries r) (fun t => { t with holds := if take then t.holds - 3 else t.holds + 3 }) l.stored }
  else if take then
    s.modPort r.port fun q => q.modLane false fun l => { l with freed := l.freed - 3, buffered := l.buffered + 3 }
  else s.freeRx r.port false 3

/-- A packet of this device waits in a trained port; a port that is down takes none (R73, R89). One that retrains takes none
either (DESIGN CHOICE, log entry 62). -/
def State.put (s : State) (p : Side) (urgent : Bool) (t : TxPacket) : State :=
  if s.portUp p then
    s.modPort p (fun q => q.modLane urgent (fun l => { l with stored := l.stored ++ [t] }))
  else s

/-- Statuses that a broadcast or NOREPLY request does not answer (R116, R117). -/
def Status.quiet : Status → Bool
  | .ok | .accepted | .ramping | .partialDone | .calendarLimit => true
  | _ => false

/-- The reply of R110, on the port on which the request arrived, unless R116 or R117 suppresses it. -/
def State.reply (s : State) (opc : Nat) (r : Request) (st : Status) (h : Nat) (detail : Nat) (more : List Word) :
    State :=
  if (r.dst == 62 || r.noreply) && st.quiet then s
  else
    s.put r.port r.urgent
      { header := mkHeader r.src s.dev.addr opc r.tag (more.length + 1) true false r.urgent,
        words := fields [(47, 40, st.num), (39, 24, h), (23, 0, detail)] :: more }

/-- The reply OK with nothing more. -/
def State.ok (s : State) (opc : Nat) (r : Request) : State := s.reply opc r .ok 0 0 []

/-- What the opcode table says of an opcode (R113), and its permitted lengths. -/
structure OpInfo where
  opc : Nat
  urgent : Bool
  bcast : Bool
  fault : Bool
  minLen : Nat
  maxLen : Nat
  /-- lengths between the bounds that are permitted -/
  lenOk : Nat → Bool := fun _ => true

/-- A rejection: status and DETAIL. -/
abbrev Reject := Option (Status × Nat)

/-- BAD_PARAM of a payload word and a field's place (R110). -/
def badParam (w b : Nat) : Reject := some (.badParam, w * 256 + b)
/-- BAD_STATE with the state code. -/
def State.badState (s : State) : Reject := some (.badState, s.dev.code.num)
/-- A rejection under a condition. -/
def rejIf (c : Bool) (r : Reject) : Reject := if c then r else none
/-- The first rejection of a list. -/
def firstRej : List Reject → Reject
  | [] => none
  | some x :: _ => some x
  | none :: r => firstRej r

/-- Checks 2 and 3 of R109, and the FAULT column of R113 as the first part of check 5. -/
def OpInfo.check2 (i : OpInfo) (r : Request) : Reject :=
  firstRej [rejIf (r.urgent && !i.urgent) (badParam 0xFF 0), rejIf (r.dst == 62 && !i.bcast) (badParam 0xFF 42)]

/-- Check 3 of R109. -/
def OpInfo.check3 (i : OpInfo) (r : Request) : Reject :=
  rejIf (decide (r.words.length < i.minLen) || decide (i.maxLen < r.words.length) || !i.lenOk r.words.length)
    (some (.badLength, i.maxLen * 256 + i.minLen))

/-- The FAULT column of R113. -/
def OpInfo.checkFault (i : OpInfo) (s : State) : Reject :=
  rejIf (s.dev.code == .fault && !i.fault) s.badState

/-- The entry of a queue is this request. -/
def Waiting.is (w : Waiting) (opc : Nat) (r : Request) : Bool := w.opc == BitVec.ofNat 8 opc && w.req == r

/-- Core 0 takes the request out of its queue, where it waits (R111), in one pass of its main loop, which is its progress mark
(R416). -/
def State.unqueue (s : State) (opc : Nat) (r : Request) : State :=
  (if r.urgent then { s with urgentQ := s.urgentQ.eraseP (·.is opc r) }
  else { s with bulkQ := s.bulkQ.eraseP (·.is opc r) } : State).mark 9

/-- Every detection record that has been taken, and neither entered in the Inkwell nor refused. -/
def Nib.records (n : Nib) : List NibRec := n.qA ++ n.qB ++ n.qC ++ n.qD ++ n.held.map (·.1)

/-- It is the request's turn (R114): no earlier request of its source and class waits, in the queue or for the flash
(R139); and for a bulk request no urgent one of any source, and no detection record that arrived before it from its
source on its port. A request that stands in no queue arrives in this tick. -/
def State.turn (s : State) (opc : Nat) (r : Request) : Bool :=
  let q := if r.urgent then s.urgentQ else s.bulkQ
  let recs := match q.find? (·.is opc r) with
    | some w => w.recs
    | none => s.nib.recs
  (q.takeWhile fun w => !w.is opc r).all (fun w => w.req.src != r.src)
    && s.par.ops.all (fun o => o.req.src != r.src || o.req.urgent != r.urgent)
    && s.par.kennelOps.all (fun o => o.1.src != r.src || o.1.urgent != r.urgent)
    && (r.urgent || (s.urgentQ.isEmpty
      && s.nib.records.all fun x => x.src != r.src || x.port != r.port || decide (recs ≤ x.no)))

/-- Core 0 carries out requests: the part is not OFF and not dead (R491). -/
def State.answers (s : State) : Bool := s.dev.code != .off && s.dev.dead.isNone

/-- A request is evaluated, once core 0 works (R491) and its turn has come (R114): R108, then the checks of R109 in their
order, the first failure answered and nothing changed; otherwise the operation's own effect. The four given checks are 4
to 7. -/
def State.serve (s : State) (i : OpInfo) (r : Request) (c4 c5 c6 c7 : Reject) (act : State → State) : State :=
  if !s.answers || !s.turn i.opc r then s else
  let s := s.unqueue i.opc r
  if 32 < r.src.toNat then s.count 0x45 true 1
  else
    match firstRej [i.check2 r, i.check3 r, c4, i.checkFault s, c5, c6, c7] with
    | some (st, d) => s.reply i.opc r st 0 d []
    | none => act s

/-- A payload word of a request, zero past its end. -/
def arg (r : Request) (i : Nat) : Word := r.words.getD i 0

/-- The state is one of a list. -/
def State.inState (s : State) (l : List Code) : Bool := l.any fun c => c == s.dev.code

/-- IDLE, SORTING or DRAINING. -/
def State.working (s : State) : Bool := s.inState [.idle, .sorting, .draining]

/-- An operation accepted with a handle of the reserved pool: ACCEPTED, and what follows with the handle (R123). -/
def State.accept (s : State) (opc : Nat) (r : Request) (hs : HState) (act : HandleId → State → State) : State :=
  match s.takeRs opc r.src hs with
  | none => s.reply opc r .noHandle 0 0 []
  | some (h, s') => act h (s'.reply opc r .accepted h.toNat 0 [])

/-- Check 7 of R109 for an operation that needs a reserved handle. -/
def State.needHandle (s : State) : Reject :=
  rejIf (s.hnd.rs.next 0x4000).isNone (some (.noHandle, 0))

end Sys2Proof.Machine
end

