-- ==== Sys2Proof/Machine/Retire.lean ====
section
/-! DEFINITION. The end of ejection events: statuses, completions, trace records, the end of DRAINING, the ledger of
energy tokens and the disabling of banks (R119, R235-R248, R400). -/

namespace Sys2Proof.Machine

/-- A frame leaves for a Quill or the Ferrule and waits for its acknowledgement (R21). -/
def State.sendD2d (s : State) (link : Fin 3) (m : D2dMsg) : State :=
  { s with d2d := { s.d2d with wait := s.d2d.wait ++ [{ link, msg := m, sentAt := s.clk, fails := 0 }] } }

/-- The link of a Quill. -/
def linkOf (q : Fin 2) : Fin 3 := ⟨q.val, by omega⟩

/-- The energy tokens of a bank that are reserved, or in coil (R239). -/
def State.tokens (s : State) (b : Bank) (begun : Bool) : Nat :=
  (s.nib.tokens.filter fun t => t.bank == b && t.begun == begun).foldl (fun a t => a + t.energy) 0

/-- Available tokens: E_est - reserved - in coil (R239). -/
def State.available (s : State) (b : Bank) : Int :=
  s.vlv.banks[b].eEst - (s.tokens b false : Int) - (s.tokens b true : Int)

/-- Tokens leave the ledger: those in coil at SWELL_END, those still reserved at OFF (R239, R284). -/
def State.dropTokens (s : State) (h : HandleId) (begun : Bool) : State :=
  { s with nib := { s.nib with tokens := s.nib.tokens.filter fun t => !(t.id == h && t.begun == begun) } }

/-- The set of staged tables for an instant (R456). -/
def State.setOf (s : State) (x : Int) : Bool :=
  if s.stage.st == .settling && decide (x < s.stage.lastAt) then !s.stage.force else s.stage.force

/-- An event of the Inkwell. -/
def State.event? (s : State) (h : HandleId) : Option Event := s.nib.events.find? fun e => e.id == h

/-- Events changed. -/
def State.modEvents (s : State) (p : Event → Bool) (f : Event → Event) : State :=
  { s with nib := { s.nib with events := mapIf p f s.nib.events } }

/-- The order of arming: ascending C_on, equals by insertion (R234). -/
def Event.before (x y : Event) : Bool := decide (x.cOn < y.cOn) || (decide (x.cOn = y.cOn) && decide (x.ins ≤ y.ins))

/-- The unarmed pulses of a bank in the order of arming (R234). -/
def State.bankOrder (s : State) (b : Bank) : List Event :=
  sortBy Event.before (s.nib.events.filter fun e => bankOf e.valve == b && (e.st == .pending || e.st == .waiting))

/-- Statuses under which the pulse fired. -/
def Status.fired : Status → Bool
  | .ok | .firedLate | .staggered => true
  | _ => false

/-- Actual instants when fired, computed ones otherwise (R248). A passenger's actual pulse is its carrier's. -/
def Event.instants (e : Event) (on off : Int) (fired : Bool) : Int × Int × Int :=
  if fired then (on, off, on - (e.cOn - e.delta)) else (e.cOn - e.delta, e.cOff0, 0)

/-- The EJECT record (R399, R400): DELTA in microseconds, between whole ones a free value (log entry 12). -/
def State.ejectRec (s : State) (e : Event) (st : Status) (on delta : Int) (fired : Bool) (diag : BitVec 3) : State :=
  if st == .ok && s.pf 0x2301 2 2 = 0 then s else
  let (us, s) := s.quantise ((delta : Rat) / 100)
  s.stageRec (mkRec [(127, 124, 1), (123, 76, unsign 48 on), (75, 60, e.id.toNat),
    (59, 44, (e.carrier.getD e.id).toNat), (43, 36, st.num), (35, 28, e.seq), (27, 22, e.valve.val), (21, 18, e.cls),
    (17, 17, b2n e.carrier.isSome), (16, 16, b2n (e.st == .armed && st == .cancelled || e.wasArmed)),
    (15, 15, b2n e.direct), (14, 12, if fired then diag.toNat else 0), (11, 0, unsign 12 (clampInt us 2047))])

/-- The counters of R250 for a final status. -/
def State.countStatus (s : State) (st : Status) : State :=
  match st with
  | .tooLate => s.count 0x206 true 1
  | .firedLate => s.count 0x206 false 1
  | .staggered => s.count 0x207 true 1
  | .shed => s.count 0x207 false 1
  | _ => s

/-- The end of DRAINING: no ejection handle in use and no record waiting to be entered (R246). The device enters IDLE
with a final summary (R127), a job abort's restart delay begins, by the RESTART field or else by SORT_RESTART as it stands
now (R434, R445), and a host's ABORT_JOB completes (R442). -/
def State.drainCheck (s : State) : State :=
  if s.dev.code == .draining && s.hnd.ej.live.isEmpty && s.nib.qA.isEmpty && s.nib.qB.isEmpty && s.nib.qC.isEmpty
      && s.nib.qD.isEmpty && s.nib.held.isEmpty then
    let s := s.enter .idle 1
    let s := if s.mode = 2 then s.closeSummary else s
    let restart := s.dog.aborted && s.dog.auto.getD (s.pf 0x2410 8 8 = 1)
    let job := s.dev.job
    let runs := s.dog.aborts
    let s := { s with
      dev := { s.dev with lastJob := job, job := 0 }
      dog := { s.dog with restartAt := if restart then some s.clk else none, aborts := [] }
      vlv := { s.vlv with saveDue := s.vlv.saveDue || decide (s.vlv.savedAt + 30000000000 ≤ s.clk) } }
    runs.foldl (fun s a => s.complete a.handle .ok (a.job + b2n restart * 2 ^ 16) a.count [a.atInst]) s
  else s

/-- A DETECT outside SORTING: its records are counted, and at most one BAD_STATE in 10 ms answers a source (R217). -/
def State.detectDropped (s : State) (r : Request) (n : Nat) : State :=
  let s := s.count 0x204 false n
  let k := r.src.toNat
  let quiet := match tget s.hnd.detectAt k with
    | some t => decide ((word s.clk - t).toNat < 1000000)
    | none => false
  if quiet then s
  else
    ({ s with hnd := { s.hnd with detectAt := tset s.hnd.detectAt k (word s.clk) } } : State).reply 0x20 r .badState 0
      s.dev.code.num []

/-- The DETECTs taken in this tick. -/
def State.takenNow (s : State) : List Arrived := if s.nib.takenAt = s.clk then s.nib.taken else []

/-- The records of a DETECT that arrived in this tick are not taken after all: they leave the queues, with the words that a
port holds for them, and are counted as records outside SORTING are (R217, R246, R457). -/
def State.untakeOne (s : State) (a : Arrived) : State :=
  let mine (x : NibRec) : Bool := decide (a.first ≤ x.no) && decide (x.no < a.fin)
  let held := s.nib.held.filter fun h => mine h.1
  let cut (l : List NibRec) : List NibRec := l.filter fun x => !mine x
  let s := { s with nib := { s.nib with
    qA := cut s.nib.qA, qB := cut s.nib.qB, qC := cut s.nib.qC, qD := cut s.nib.qD
    held := s.nib.held.filter fun h => !mine h.1 } }
  let s := held.foldl (fun s h => s.recordWords h.1 false) s
  let s := if a.stale = 0 then s else s.count 0x2505 true (2 ^ 24 - a.stale)
  s.detectDropped a.req (a.fin - a.first)

/-- The DETECTs of this tick: a record is taken when its EOF came before the tick of the SORT_STOP (R246). -/
def State.untake (s : State) : State :=
  let l := s.takenNow
  l.foldl State.untakeOne { s with nib := { s.nib with taken := [] } }

/-- SORTING ends: the part stops taking records, and drains (R100, R174, R246). -/
def State.drain (s : State) (cause : Nat) : State := (s.enter .draining cause).untake

/-- A handle leaves retiring: it is free, and an ejection event's Inkwell entry with it (R119). -/
def State.release (s : State) (h : HandleId) : State :=
  let s := s.freeHandle h
  if isEj h then { s with nib := { s.nib with events := s.nib.events.filter fun e => e.id != h } } else s

/-- An event that retires ABORTED is remembered for its tick (R429). -/
def State.noteAborted (s : State) (e : Event) : State :=
  { s with nib := { s.nib with
      abortAt := s.clk, aborted := (if s.nib.abortAt = s.clk then s.nib.aborted else []) ++ [e] } }

/-- One ejection event's final status is fixed (R247, R248, R127). `on` and `off` are the pulse's instants. -/
def State.retireOne (s : State) (e : Event) (st : Status) (on off : Int) (diag : BitVec 3) : State :=
  let s := if st == .aborted then s.noteAborted e else s
  let fired := st.fired || e.begun
  let (a, b, d) := e.instants on off fired
  let wasArmed := st == .cancelled && e.st == .armed || e.wasArmed
  let s := s.ejectRec { e with wasArmed } st a d fired diag
  let s := s.countStatus st
  let s := s.tally st.num 1
  let detail := b2n wasArmed * 2 ^ 23 + b2n e.carrier.isSome * 2 ^ 22 + b2n e.direct * 2 ^ 21 + e.cls * 2 ^ 16
    + (if e.direct then 0 else e.seq % 256) * 2 ^ 8 + e.valve.val
  let s := s.modEvents (fun x => x.id == e.id) fun x =>
    { x with st := .retiring, final := some st, wasArmed, cOn := a, cOff := b }
  if s.mode = 0 || (s.mode = 1 && st != .ok) then
    s.complete e.id st detail (unsign 32 d) [word (unsign 48 e.cam), word (unsign 48 a), word (unsign 48 b)]
  else
    (s.modLive e.id fun l => { l with st := .retiring, final := some st }).release e.id

/-- An event ends, and its passengers with it, in the same tick (R247). -/
def State.retire (s : State) (h : HandleId) (st : Status) (diag : BitVec 3) : State :=
  match s.event? h with
  | none => s
  | some e =>
    if e.st == .retiring then s else
    let riders := s.nib.events.filter fun x => x.carrier == some h && x.st != .retiring
    let s := s.retireOne e st e.cOn e.cOff diag
    riders.foldl (fun s x => s.retireOne { x with st := e.st, begun := e.begun } st e.cOn e.cOff diag) s

/-- Passengers and the carrier that is not armed are retired CANCELLED, or ABORTED, with the pulse (R244, R428). -/
def State.retireUnarmed (s : State) (p : Event → Bool) (st : Status) : State :=
  (s.nib.events.filter fun e => p e && (e.st == .pending || e.st == .waiting)).foldl
    (fun s e => s.retire e.id st 0) s

/-- CUT goes to each Quill that serves a bank of the mask, naming every channel of those banks (R244, R268). -/
def State.sendCut (s : State) (banks : Nat) : State :=
  let m0 := b2n (banks.testBit 0) * 0xFFFF + b2n (banks.testBit 1) * 0xFFFF0000
  let m1 := b2n (banks.testBit 2) * 0xFFFF + b2n (banks.testBit 3) * 0xFFFF0000
  let s := if m0 = 0 then s else s.sendD2d 0 (.cut (BitVec.ofNat 32 m0))
  if m1 = 0 then s else s.sendD2d 1 (.cut (BitVec.ofNat 32 m1))

/-- Armed events of the banks of a mask retire CANCELLED with ARMED set, and their pulses are cut (R244). An event whose pulse
turns off already is still armed, and retires so too: the table of R244 does not name it (DESIGN CHOICE, log entry 76). -/
def State.cutArmed (s : State) (banks : Nat) : State :=
  let es := s.nib.events.filter fun e => e.st == .armed && banks.testBit (bankOf e.valve).val
  es.foldl (fun s e => s.retire e.id .cancelled 7) (s.sendCut banks)

/-- An ejection handle without an Inkwell entry: CLASS, SEQ and VALVE are 0 (R425, R426); its instants stand nowhere and are
free (log entry 14). -/
def State.orphan (s : State) (l : Live) : Event × State :=
  let (a, s) := s.freeWord
  let (b, s) := s.freeWord
  let (c, s) := s.freeWord
  ({ id := l.id, valve := 0, st := .pending, cOn := b.toNat, cOff := c.toNat, cOff0 := c.toNat, delta := 0, cam := a.toNat
     seq := 0, cls := 0, energy := 0, shape := 0, direct := true, fireAny := false, noStag := false, late := false
     moved := false, carrier := none, ins := 0, waitAt := none, src := l.dst, begun := false, wasArmed := false
     final := none }, s)

/-- Its final status is fixed. While it retires, EVENT_QUERY shows what its completion carries (R249, R426). -/
def State.retireOrphan (s : State) (l : Live) (st : Status) : State :=
  let (e, s) := s.orphan l
  ({ s with nib := { s.nib with events := s.nib.events ++ [e] } } : State).retireOne e st e.cOn e.cOff 0

/-- Ejection handles accepted whose entry was never written retire: ABORTED when the SORT job resumes, CANCELLED at FAULT
(R122, R425, R426). -/
def State.endOrphans (s : State) (st : Status) : State :=
  (s.hnd.ej.live.filter fun l => l.st == .accepted && (s.event? l.id).isNone).foldl (fun s l => s.retireOrphan l st) s

end Sys2Proof.Machine
end

