-- ==== Sys2Proof/Machine/Arming.lean ====
section
/-! DEFINITION. Arming of ejection events: the check of R235, waiting, stagger and shed (R240), late events (R237), the
arming that comes first in its tick (R489), and the disabling of banks (R244). -/

namespace Sys2Proof.Machine

/-- A recall of the job is not complete: its engines are frozen (R421, R422). -/
def State.frozen (s : State) (j : Fin 5) : Bool := s.dog.recalls.any fun r => r.job == j

/-- The Nib engines work: they are not being recalled (R421). -/
def State.nibRuns (s : State) : Bool := s.clockRuns && s.dev.code != .off && !s.frozen 0

/-- The bounds of a pulse: 200 us at least and 50 ms at most (R229). -/
def boundPulse (on off : Int) : Int :=
  if off - on < 20000 then on + 20000 else if 5000000 < off - on then on + 5000000 else off

/-- A field of the second class word of an event, from the set of its CAM (R456). -/
def State.classField (s : State) (e : Event) (hi lo : Nat) : Nat := s.sf (s.setOf e.cam) (0x230 + e.cls) hi lo
/-- MERGE_GAP of an event's class [ticks]. -/
def State.mergeGap (s : State) (e : Event) : Int := (s.classField e 31 22 * 100 : Nat)
/-- Stagger tolerance of an event [ticks] (R218, R237, R240). -/
def State.staggerTol (s : State) (e : Event) : Int :=
  if e.late || e.noStag then 0 else (s.classField e 41 32 * 100 : Nat)

/-- An event's entry is replaced. -/
def State.setEvent (s : State) (e : Event) : State := s.modEvents (fun x => x.id == e.id) fun _ => e

/-- The live passengers of an event. -/
def State.riders (s : State) (h : HandleId) : List Event :=
  s.nib.events.filter fun e => e.carrier == some h && e.st != .retiring

/-- The handles of an event and of its passengers become armed (R119, R236). -/
def State.armHandles (s : State) (h : HandleId) : State :=
  (h :: (s.riders h).map (·.id)).foldl (fun s i => s.modLive i fun l => { l with st := .armed }) s

/-- The event is armed: its tokens are reserved, and its ARM goes to the bank's Quill (R235, R236, R239, R280, R456). -/
def State.armEvent (s : State) (e : Event) : State :=
  let b := bankOf e.valve
  let set := s.setOf e.cam
  let row : Fin 8 := if e.direct then e.shape else Fin.ofNat 8 (s.classField e 10 8)
  let s := (s.setEvent { e with st := .armed, shape := row }).armHandles e.id
  let t : Token := { id := e.id, bank := b, energy := e.energy, begun := false }
  let s := { s with nib := { s.nib with tokens := s.nib.tokens ++ [t] } }
  let f : ArmFrame := { valve := e.valve, cOn := e.cOn, cOff := e.cOff, set, row,
                        derate := s.vlv.valves[e.valve].derated, handle := e.id }
  s.sendD2d (linkOf (quillOf b)) (.arm f)

/-- How long an event that waits has waited past its arming point (R240). -/
def State.waited (s : State) (e : Event) : Int := if e.st == .waiting then s.full - (e.cOn - s.tCommit) else 0

/-- The stagger tolerance of a waiting event has run out (R240). -/
def State.runOut (s : State) (e : Event) : Bool := e.st == .waiting && decide (s.staggerTol e < s.waited e)

/-- The check of R235 with R240: the inhibit limit comes before the energy, and a tolerance that runs out in the tick of the
check comes after the limit (R247); one that ran out earlier has shed the event then. Answers whether the next event of
the bank is checked too: not behind one that waits. -/
def State.checkEvent (s : State) (e : Event) : Bool × State :=
  let d := s.waited e
  let tol := s.staggerTol e
  if tol + 1 < d then (true, s.retire e.id .shed 0)
  else if s.vlv.valves[e.valve].inhibited then (true, s.retire e.id .inhibited 0)
  else if tol < d then (true, s.retire e.id .shed 0)
  else if (e.energy : Int) ≤ s.available (bankOf e.valve) then
    (true, s.armEvent { e with cOn := e.cOn + d, cOff := e.cOff + d, delta := e.delta + d
                               moved := e.moved || decide (0 < d) })
  else if tol = 0 then (true, s.retire e.id .shed 0)
  else (false, s.setEvent { e with st := .waiting, waitAt := some (e.waitAt.getD s.clk) })

/-- An event has reached its arming point. -/
def State.due (s : State) (e : Event) : Bool := decide (e.cOn - s.tCommit ≤ s.full)

/-- From a step's announcement until its tick the Nib engines send no ARM (R205). -/
def State.holdsArms (s : State) : Bool := s.time.announced

/-- A step has applied in this tick: the events whose arming point fell in its lead are armed now (R205). -/
def State.stepTick (s : State) : Bool := s.time.history.getLast?.any fun h => h.1 == s.clk

/-- Behind an event that waits, every later event past its arming point waits too (R240). -/
def State.joinWait (s : State) (b : Bank) : State :=
  if (s.bankOrder b).any fun e => e.st == .waiting then
    s.modEvents (fun e => bankOf e.valve == b && e.st == .pending && s.due e) fun e =>
      { e with st := .waiting, waitAt := some s.clk }
  else s

/-- Every waiting event of a bank whose tolerance has run out is shed, at the head or behind it (R240). -/
def State.shedOver (s : State) (b : Bank) : State :=
  ((s.bankOrder b).filter s.runOut).foldl (fun s e => s.retire e.id .shed 0) s

/-- The events of a bank that wait are checked in order until one goes on waiting (R240); between a step's announcement and
its tick none is armed (R205). Those whose tolerance has run out behind it are shed. `n` events at most. -/
def State.checkWaiting : Nat → Bank → State → State
  | 0, b, s => s.shedOver b
  | n + 1, b, s =>
    match s.bankOrder b with
    | [] => s
    | e :: _ =>
      if e.st != .waiting || s.holdsArms then s.shedOver b
      else
        let (more, s) := s.checkEvent e
        if more then State.checkWaiting n b s else s.shedOver b

/-- The full time of the last step's tick, in the new scale, while that tick is less than 1,000 ticks ago. -/
def State.lastStep (s : State) : Option Int :=
  match s.time.history.getLast? with
  | some (c, _) => if s.clk < c + 1000 then some (s.full - ((s.clk - c : Nat) : Int)) else none
  | none => none

/-- An event moved to `now` + T_commit keeps C_off within R229, and has no stagger tolerance (R205, R237). -/
def State.lateEvent (s : State) (e : Event) (now : Int) : Event :=
  let on := now + s.tCommit
  { e with cOn := on, cOff := boundPulse on e.cOff, delta := e.delta + (on - e.cOn), late := true }

/-- An event armed on a step's tick, or held up to it, whose open instant lies less than T_commit after that tick, fires at the
step's tick + T_commit, and ends FIRED_LATE (R205). -/
def State.afterLead (s : State) (e : Event) : Event :=
  match s.lastStep with
  | some t => if e.cOn < t + s.tCommit then s.lateEvent e t else e
  | none => e

/-- The head event of a bank, past its arming point (R205, R235, R240). -/
def State.armHead (s : State) (b : Bank) (e : Event) : State :=
  let s := s.joinWait b
  if e.st == .waiting then
    let t := s.shedOver b
    if s.runOut e then State.checkWaiting t.nib.events.length b t else t
  else if s.holdsArms then s
  else
    let e := s.afterLead e
    ((s.setEvent e).checkEvent e).2.joinWait b

/-- The arming of an event belongs to this tick: it reaches its arming point, or a step has applied that held it (R205,
R489). -/
def State.armsNow (s : State) (e : Event) : Bool :=
  e.st == .pending && !s.holdsArms && (s.reached (e.cOn - s.tCommit) || (s.stepTick && s.due e))

/-- The events of a bank whose arming belongs to this tick are checked in order, `n` at most (R235, R489). -/
def State.armBank : Nat → Bank → State → State
  | 0, _, s => s
  | n + 1, b, s =>
    match s.bankOrder b with
    | [] => s
    | e :: _ =>
      if s.armsNow e then State.armBank n b (s.armHead b e) else s

/-- The arming of this tick, which comes before every other happening that acts on unarmed events (R489); what has come to
its arming point behind an event that waits is waiting by then (R240). -/
def State.armDue (s : State) : State :=
  if s.nibRuns then (List.finRange 4).foldl (fun s b => State.armBank s.nib.events.length b (s.joinWait b)) s else s

/-! ### A cancellation in the tick of an abort (R429) -/

/-- A status word or a trace record's status becomes CANCELLED. -/
def asCancelled (w : Word) : Word := putFld w 47 40 Status.cancelled.num

/-- The EJECT record of an event that shows ABORTED shows CANCELLED instead: the last one staged. -/
def recAsCancelled (h : HandleId) : List (Word × Rec) → List (Word × Rec)
  | [] => []
  | (n, r) :: t =>
    let is (x : Rec) : Bool := x.toNat >>> 124 == 1 && (x.toNat >>> 60) % 2 ^ 16 == h.toNat
      && (x.toNat >>> 36) % 2 ^ 8 == Status.aborted.num
    if is r && !t.any (fun x => is x.2) then
      (n, BitVec.ofNat 128 (r.toNat - Status.aborted.num * 2 ^ 36 + Status.cancelled.num * 2 ^ 36)) :: t
    else (n, r) :: recAsCancelled h t

/-- The final status of an event that retired ABORTED in this tick is CANCELLED, the earlier row of R247 (R429). -/
def State.recancelOne (s : State) (e : Event) : State :=
  let less (c : Nat) (t : WTable) : WTable :=
    let n := ((tget t c).getD 0).toNat
    if n ≤ 1 then tdel t c else tset t c (word (n - 1))
  let s := if s.mode = 2 then
      ({ s with hnd := { s.hnd with counts := less Status.aborted.num s.hnd.counts } } : State).tally Status.cancelled.num 1
    else s
  let s := s.modLive e.id fun l => if l.final == some .aborted then { l with final := some .cancelled } else l
  let s := s.modEvents (fun x => x.id == e.id && x.final == some .aborted) fun x => { x with final := some .cancelled }
  let compl (c : Completion) : Completion :=
    if c.handle == some e.id && ((c.words.headD 0).toNat >>> 40) % 256 == Status.aborted.num then
      { c with words := asCancelled (c.words.headD 0) :: c.words.drop 1 }
    else c
  { s with
    hnd := { s.hnd with queue := s.hnd.queue.map compl }
    log := { s.log with staging := recAsCancelled e.id s.log.staging }
    dog := { s.dog with aborts := s.dog.aborts.map fun a =>
      if a.atInst == s.nowWord then { a with count := a.count - 1 } else a } }

/-- The events of this tick's abort that a cancellation meets (R429). -/
def State.abortedNow (s : State) (p : Event → Bool) : List Event :=
  if s.nib.abortAt = s.clk then s.nib.aborted.filter p else []

/-- A cancellation meets them. -/
def State.recancel (s : State) (p : Event → Bool) : State :=
  let es := s.abortedNow p
  let s := { s with nib := { s.nib with aborted := s.nib.aborted.filter fun e => !p e } }
  es.foldl (fun s e => s.recancelOne e) s

/-- The unarmed events under a condition are cancelled, after the arming of the tick; those that an abort of the tick has
ended become CANCELLED too (R429, R489). -/
def State.cancelUnarmed (s : State) (p : Event → Bool) : State :=
  (s.armDue.recancel p).retireUnarmed p .cancelled

/-- BANK_DISABLE: every named bank stops taking records; its unarmed events retire CANCELLED; a forced disable cuts
the armed ones (R244), after the arming of the tick (R489). A change of BANK_EN without a state change writes a STATE
record (R400). -/
def State.disableBanks (s : State) (banks forced : Nat) (rec : Bool) : State :=
  let before := s.bankEn
  let s := { s with vlv := { s.vlv with banks :=
    (s.vlv.banks.mapFinIdx fun i b _ => if banks.testBit i then { b with en := false } else b) } }
  let s := s.cancelUnarmed (fun e => banks.testBit (bankOf e.valve).val)
  let s := if banks &&& forced = 0 then s else s.cutArmed (banks &&& forced)
  if rec && s.bankEn != before then s.stateRec s.dev.code 0 else s

end Sys2Proof.Machine
end

