-- ==== Sys2Proof/Machine/SwitchOps.lean ====
section
/-! DEFINITION. Load switches: turning on and off, latches, DIM gating, the Kennel entry and the bypass gate
(R295-R317). -/

namespace Sys2Proof.Machine

/-- The channel is latched off (R300). -/
def SwState.latched : SwState → Bool
  | .tripOverload | .tripShort | .tripThermal | .shedTotal => true
  | _ => false

/-- The Ferrule may conduct: a HEARTBEAT has armed it and all-off is not latched (R23, R42). -/
def State.ferruleLive (s : State) : Bool := s.d2d.ferruleHeard.isSome && !s.d2d.ferruleAllOff

/-- DIM_MAP assigns the channel and its pin is not at the active level (R309). -/
def State.dimOff (s : State) (n : Sw) : Bool :=
  let m := s.pf 0x2012 (3 * n.val + 2) (3 * n.val)
  let k := m % 4
  m ≥ 4 && (s.sw.dim.getLsbD k == (s.pf 0x2010 3 0).testBit k)

/-- The channel is held off by its DIM pin: a channel under Kennel code 01b ignores the pins (R309, R312). -/
def State.gated (s : State) (n : Sw) : Bool := s.dimOff n && !s.sw.ch[n].kennelOn

/-- The channel conducts (R308). -/
def State.conducts (s : State) (n : Sw) : Bool :=
  (s.sw.ch[n].st == .on || s.sw.ch[n].st == .inrush) && !s.gated n

/-- A channel turns on from OFF with an inrush window; one that is on, latched or cooling keeps its state; the flags
of R304 clear (R295, R300, R304, R305). -/
def State.swOn (s : State) (n : Sw) : State :=
  if !s.ferruleLive then s else
  s.modSw n fun c =>
    if c.st == .off then
      { c with commanded := true, st := .inrush, inrushAt := some s.clk, openLoad := false, shortVbat := false
               probing := false }
    else { c with commanded := true }

/-- The channel conducts outside its inrush window, or a command of this tick has turned it off from there (R296, R297,
R318). -/
def State.limits (s : State) (n : Sw) : Bool :=
  (s.conducts n && s.sw.ch[n].inrushAt.isNone) || (s.sw.ch[n].st == .off && s.sw.ch[n].droppedAt == some s.clk)

/-- The output goes off: a window ends with it, and the off-state check begins (R301, R304). -/
def Switch.cut (c : Switch) (clk : Nat) (st : SwState) : Switch :=
  { c with
    st, inrushAt := none, windowEnd := if c.inrushAt.isSome then clk else c.windowEnd
    checkAt := if c.st == .on || c.st == .inrush then clk else c.checkAt
    probing := c.probing && c.st != .on && c.st != .inrush }

/-- A channel turns off at the tick of its command, its window with it; a latch stays (R301). -/
def State.swOff (s : State) (n : Sw) : State :=
  let dropped := s.limits n
  s.modSw n fun c =>
    { c.cut s.clk (if c.st.latched then c.st else .off) with
      commanded := false, kennelOn := false, droppedAt := if dropped then some s.clk else c.droppedAt }

/-- A SWITCH_SET turns the channel off. A thermal turn-off of this tick that would only cool latches with it (R318, log entry
77). -/
def State.swSetOff (s : State) (n : Sw) : State :=
  let c := s.sw.ch[n]
  (s.swOff n).modSw n fun d => { d with
    st := if c.st == .thermalWait && c.tripAt == some s.clk then .tripThermal else d.st
    offAt := if c.st == .on || c.st == .inrush then some s.clk else d.offAt }

/-- A channel goes on under Kennel code 01b; it counts as commanded on only from KENNEL_RELEASE (R312, R315). -/
def State.swKennelOn (s : State) (n : Sw) : State :=
  let was := s.sw.ch[n].commanded
  (s.swOn n).modSw n fun c => { c with commanded := was, kennelOn := true }

/-- A channel turns on or off. -/
def State.swSet (s : State) (n : Sw) (on : Bool) : State := if on then s.swOn n else s.swOff n

/-- The start order of R41: ORDER_0 to ORDER_15 at first appearance, then the channels not listed, ascending. -/
def State.startOrder (s : State) : List Sw :=
  let listed := (List.range 16).map fun i =>
    if i < 12 then s.bootf 0x21 (4 * i + 3) (4 * i) else s.bootf 0x22 (4 * (i - 12) + 3) (4 * (i - 12))
  let all := listed ++ List.range 16
  all.foldl (fun acc i => let n : Sw := Fin.ofNat 16 i; if acc.contains n then acc else acc ++ [n]) []

/-- Kennel code of a channel (R176). -/
def State.kennelCode (s : State) (n : Sw) : Nat := s.kennel.stored.toNat / 4 ^ n.val % 4

/-- Channels leave the sequences of SWITCH_SETs (R306). -/
def State.gapDrop (s : State) (p : Sw → Bool) : State :=
  let l : List (List Sw × Nat) := s.sw.gaps.map fun g => (g.1.filter fun n => !p n, g.2)
  { s with sw := { s.sw with gaps := l.filter fun g => !g.1.isEmpty } }

/-- Entry into the Kennel states: REASON bit 0 watchdog, bit 1 FAULT. A second entry only adds its cause (R312,
R313). The first channel that goes on does so at once, the others one START_INTERVAL apart; before its first HEARTBEAT the
Ferrule holds its outputs off (R6), and they wait. Step 6 of a start that runs switches nothing on after it: a channel stays
in its Kennel state until KENNEL_RELEASE (R174). -/
def State.kennelEnter (s : State) (cause : BitVec 2) : State :=
  if s.kennel.active then { s with kennel := { s.kennel with reason := s.kennel.reason ||| cause } } else
  let s := { s with kennel := { s.kennel with active := true, reason := cause } }
  let order := s.startOrder
  let goesOn := order.filter fun n => s.kennelCode n = 1 && s.sw.ch[n].st == .off
  let s := (order.filter fun n => s.kennelCode n = 0).foldl (fun s n => s.swOff n) s
  let s := (order.filter fun n => s.kennelCode n = 1).foldl
    (fun s n => s.modSw n fun c => { c with kennelOn := true }) s
  let s := s.gapDrop fun n => s.kennelCode n != 2
  let s := { s with dev := { s.dev with startList := [] } }
  match goesOn with
  | [] => s
  | n :: r =>
    if !s.ferruleLive then { s with kennel := { s.kennel with queue := n :: r, lastAt := s.clk } } else
    let s := s.swKennelOn n
    { s with kennel := { s.kennel with queue := r, lastAt := s.clk } }

/-- The channel of the bypass gate, where one is designated (R317). -/
def State.gate (s : State) : Option Sw :=
  if s.pf 0x2011 5 5 = 1 then some (Fin.ofNat 16 (s.pf 0x2011 3 0)) else none

/-- A gate move: none while KENNEL shows ACTIVE (R317). -/
def State.moveGate (s : State) (on : Bool) : State :=
  match s.gate with
  | none => s
  | some n =>
    if s.kennel.active then s
    else (s.gapDrop fun m => m == n).swSet n on

/-- Every load switch off, whatever its Kennel state (R23, R48). -/
def State.switchesOff (s : State) : State :=
  { s with
    sw := { s.sw with
      ch := s.sw.ch.map fun c =>
        { c.cut s.clk (if c.st.latched then c.st else .off) with commanded := false, kennelOn := false }
      gaps := [] }
    kennel := { s.kennel with queue := [] } }

end Sys2Proof.Machine
end

