-- ==== Sys2Proof/Machine/TimeOps.lean ====
section
/-! DEFINITION. Discipline of the time base: the filter, steps and their effects, holdover, the calendar (R182,
R188-R206, R490). -/

namespace Sys2Proof.Machine

/-- The limit of rho and of its terms: floor(SLEW_LIMIT * 2^32 / 10^6) (R182). -/
def State.slewLimit (s : State) : Int := ((s.pf 0x100 8 0) * 2 ^ 32 / 1000000 : Nat)

/-- The phase terms still needed for moments from `keep` on: the last one in force then, and those after it. -/
def trimPhases (keep : Nat) : List (Nat × Int) → List (Nat × Int)
  | a :: b :: r => if b.1 ≤ keep then trimPhases keep (b :: r) else a :: b :: r
  | l => l

/-- The time that the phase term of rho has added from `a` to `b`, in units of 2^-32 tick (R347). -/
def phaseAdded (a b : Nat) : List (Nat × Int) → Int
  | [] => 0
  | [(t, p)] => ((b - max a t : Nat) : Int) * p
  | (t, p) :: (u, q) :: r => ((min b u - max a t : Nat) : Int) * p + phaseAdded a b ((u, q) :: r)

/-- The moment from which the phase terms and the steps of the past are still needed: the reference of the last stored Mirjan
pair, and the references that still wait for their follow-up (R347). -/
def State.keptFrom (s : State) : Nat :=
  s.bus.refs.foldl (fun a r => min a r.at_) ((s.bus.stored.map (·.refAt)).getD s.clk)

/-- A newly computed rho takes effect 400 ticks later (R182). -/
def State.setRho (s : State) (freq phase : Int) : State :=
  let r := clampInt (freq + phase) s.slewLimit
  { s with time := { s.time with
      rhoFreq := freq, rhoPhase := phase
      phases := trimPhases s.keptFrom (s.time.phases ++ [(s.clk + 400, phase)])
      rhoNext := s.time.rhoNext ++ [(s.clk + 400, r)] } }

/-- The first tick from `clk` on in which a disciplined time is reached or passed, and the disciplined time then (R181). -/
def reachTick (clk : Nat) (x rho target : Int) : List (Nat × Int) → Nat × Int
  | [] =>
    let k := ceilDiv (target - x).toNat (2 ^ 32 + rho).toNat
    (clk + k, x + (k : Int) * (2 ^ 32 + rho))
  | (a, r) :: q =>
    let k := ceilDiv (target - x).toNat (2 ^ 32 + rho).toNat
    if clk + k ≤ a then (clk + k, x + (k : Int) * (2 ^ 32 + rho))
    else reachTick (max a clk) (x + ((a - clk : Nat) : Int) * (2 ^ 32 + rho)) r target q

/-- The tick that reaches a full time, and the disciplined time then. -/
def State.reach (s : State) (full : Int) : Nat × Int := reachTick s.clk s.fine s.time.rho (full * 2 ^ 32) s.time.rhoNext

/-- The boundary of a step scheduled now: the first instant divisible by 100,000 that is reached at least 1,000 elapsed
ticks after now (R203). -/
def State.stepBoundary (s : State) : Int :=
  nextEpoch ((runRates s.clk (s.clk + 999) s.fine s.time.rho s.time.rhoNext).1 / 2 ^ 32)

/-- A step is scheduled: added to the pending one that is still 1,000 ticks away, else to the one of the following
boundary (R203). `sets`: it comes from CALENDAR_SET or CHAIN_MARK (R189). -/
def State.scheduleStep (s : State) (amount : Int) (sets : Bool) : State :=
  let b := s.stepBoundary
  let rec add : List PendingStep → List PendingStep
    | [] => [{ boundary := b, amount, sets }]
    | p :: r =>
      if b ≤ p.boundary then { p with amount := p.amount + amount, sets := p.sets || sets } :: r else p :: add r
  { s with time := { s.time with pending := add s.time.pending } }

/-- The step that one scheduled now would be part of. -/
def State.nextStep? (s : State) : Option PendingStep := s.time.pending.find? fun p => s.stepBoundary ≤ p.boundary

/-- The integer that a rate in fractions is: times 2^32, to the nearest integer (R201). The spec names no side for a tie,
and the model takes the higher integer (DESIGN CHOICE, log entry 75). -/
def rateUnits (q : Rat) : Int := roundRat (q * 2 ^ 32)

/-- The filter of R201 on an offset `theta` [10 ps] with interval `dt` [ticks]. `freq` is FREQ [10^-12] when
FREQ_VALID is 1. `force`: the offset steps at the first measurement (R202). Answers whether a step was scheduled. -/
def State.filter (s : State) (theta : Int) (dt : Nat) (force : Bool) (freq : Option Int) (sets : Bool) :
    Bool × State :=
  let lim := s.slewLimit
  let th : Rat := (theta : Rat) / 100000000000
  let tau : Rat := (s.pf 0x102 9 0 : Rat)
  let iv : Rat := (dt : Rat) / 100000000
  let iv := if tau < iv then tau else iv
  let f0 := clampInt s.time.rhoFreq lim
  let f1 := match freq with
    | none => f0
    | some f => clampInt (f0 - rateUnits ((f : Rat) / 1000000000000)) lim
  let s := { s with time := { s.time with theta, holdover := false, lastOffset := some s.clk, forceStep := false } }
  if force || decide ((s.pf 0x101 19 0 : Int) * 100000 ≤ theta.natAbs) then
    let overs := s.time.overs + 1
    if force || s.pf 0x101 27 24 ≤ overs then
      -- 10 ps is 2^32 / 1000 units of 2^-32 tick; between whole ones a free value (log entry 12)
      let (amount, s) := s.quantise (-(theta : Rat) * 2 ^ 32 / 1000)
      let s := ({ s with time := { s.time with overs := 0 } } : State).setRho f1 0
      (true, s.scheduleStep amount sets)
    else (false, ({ s with time := { s.time with overs } } : State).setRho f1 s.time.rhoPhase)
  else
    let s := { s with time := { s.time with overs := 0 } }
    let p := rateUnits (-th / tau)
    let room := lim - f1.natAbs
    if room < p.natAbs then (false, s.setRho f1 (if p < 0 then -room else room))
    else
      let f2 := if freq.isSome then f1 else clampInt (rateUnits ((f1 : Rat) / 2 ^ 32 - th * iv / (4 * tau * tau))) lim
      (false, s.setRho f2 p)

/-- A sign of life of the source came at `at_` (R200). -/
def State.sourceHeard (s : State) (at_ : Nat) : State := { s with time := { s.time with heardAt := at_ } }

/-- Interval since the previous offset from the same source: 0 for the first (R201). -/
def State.sinceOffset (s : State) : Nat :=
  match s.time.lastOffset with
  | none => 0
  | some t => s.clk - t

/-- The source is lost: the phase term goes, the frequency term stays (R200). -/
def State.enterHoldover (s : State) : State :=
  if s.time.holdover || s.time.source = 0 then s
  else (({ s with time := { s.time with holdover := true } } : State).count 0x109 false 1).setRho s.time.rhoFreq 0

/-- The next step's tick is reached (R203, R181). -/
def State.stepDue (s : State) : Option PendingStep :=
  match s.time.pending with
  | [] => none
  | p :: _ => if p.boundary ≤ s.full then some p else none

/-- The amount that a step applies at a disciplined time: the full time never goes below 0 (R490). -/
def stepAmount (fine amount : Int) : Int := if fine + amount < 0 then -fine else amount

/-- The state as a read in this tick sees it: on a step's tick every read returns the new time, and the step no longer waits,
before STEP_APPLY too (R185). -/
def State.shown (s : State) : State :=
  match s.stepDue with
  | some p =>
    if s.clockRuns then
      { s with time := { s.time.setFine (s.fine + stepAmount s.fine p.amount) with
          pending := s.time.pending.drop 1, calValid := s.time.calValid || p.sets } }
    else s
  | none => s

/-- The disciplined time on a step's tick, in the scale after the step. -/
def State.afterStep (s : State) (p : PendingStep) : Int :=
  let x := (s.reach p.boundary).2
  x + stepAmount x p.amount

/-- The steps that the part applied after a moment of `clk`, in 10 ps: the amounts that DISCIPLINE and CHAIN subtract
(R206, R490). -/
def State.stepsSince (s : State) (since : Nat) : Rat :=
  ((s.time.history.filter fun h => since < h.1).foldl (fun a h => a + h.2) 0 : Int) * 1000 / 2 ^ 32

/-! ### Calendar (R188) -/

/-- Gregorian leap year. -/
def leapYear (y : Nat) : Bool := (y % 4 == 0 && y % 100 != 0) || y % 400 == 0

/-- Days of a month. -/
def monthDays (y m : Nat) : Nat :=
  if m = 2 then (if leapYear y then 29 else 28) else if m = 4 ∨ m = 6 ∨ m = 9 ∨ m = 11 then 30 else 31

/-- Days from 2000-01-01 to the first of January of a year from 2000 on. -/
def daysToYear (y : Nat) : Nat := (List.range (y - 2000)).foldl (fun a i => a + if leapYear (2000 + i) then 366 else 365) 0

/-- Days from the first of January to the first of a month. -/
def daysToMonth (y m : Nat) : Nat := (List.range (m - 1)).foldl (fun a i => a + monthDays y (i + 1)) 0

/-- Year and day of the year of a day count: `fuel` years at most. -/
def yearOf : Nat → Nat → Nat → Nat × Nat
  | 0, y, d => (y, d)
  | f + 1, y, d =>
    let n := if leapYear y then 366 else 365
    if d < n then (y, d) else yearOf f (y + 1) (d - n)

/-- Month and day of a day of the year. -/
def monthOf : Nat → Nat → Nat → Nat → Nat × Nat
  | 0, _, m, d => (m, d + 1)
  | f + 1, y, m, d => if d < monthDays y m then (m, d + 1) else monthOf f y (m + 1) (d - monthDays y m)

/-- Calendar seconds of a date and time (R188). -/
def calSeconds (y mo d h mi sec : Nat) : Int :=
  ((daysToYear y + daysToMonth y mo + (d - 1)) * 86400 + h * 3600 + mi * 60 + sec : Nat)

/-- The leap second announced for the end of a month: direction and calendar second at which that day ends, in the
count in force (R195). -/
def State.leapEnd (s : State) : Nat × Int :=
  let y := s.pf 0x106 15 4
  let m := s.pf 0x106 3 0
  (s.pf 0x106 17 16, calSeconds y m (monthDays y m) 0 0 0 + 86400)

/-- The CAL word of a count of calendar seconds and a millisecond. -/
def calWord (u : Nat) (sec60 : Bool) (ms : Nat) : Word :=
  let (y, doy) := yearOf 400 2000 (u / 86400)
  let (m, d) := monthOf 12 y 1 doy
  fields [(47, 36, y), (35, 32, m), (31, 27, d), (26, 22, u / 3600 % 24), (21, 16, u / 60 % 60),
    (15, 10, if sec60 then 60 else u % 60), (9, 0, ms)]

/-- The CAL word of the present time: second 60 in an inserted leap second; the last value while stopped (R188, R192,
R193). -/
def State.calNow (s : State) : Word :=
  let (dir, e) := s.leapEnd
  if s.calLimit then
    if dir = 1 ∧ e = 6311433600 then calWord 6311433599 true 999
    else if dir = 2 ∧ e = 6311433600 then calWord 6311433598 false 999
    else calWord 6311433599 false 999
  else
    let u := s.full / 100000000 - s.leapCount
    let ms := (s.full % 100000000 / 100000).toNat
    if dir = 1 ∧ u = e then calWord (e - 1).toNat true ms
    else calWord (if u < 0 then 0 else u.toNat) false ms

/-- The full time of a CAL word with the LEAP_COUNT in force, or none for an impossible date (R191). -/
def State.calToFull (s : State) (w : Word) : Option Int :=
  let y := fld w 47 36
  let mo := fld w 35 32
  let d := fld w 31 27
  let h := fld w 26 22
  let mi := fld w 21 16
  let sec := fld w 15 10
  let ms := fld w 9 0
  if y < 2000 ∨ 2199 < y ∨ mo < 1 ∨ 12 < mo ∨ d < 1 ∨ monthDays y mo < d ∨ 23 < h ∨ 59 < mi ∨ 999 < ms ∨ 60 < sec then
    none
  else
    let (dir, e) := s.leapEnd
    if sec = 60 ∧ ¬(h = 23 ∧ mi = 59 ∧ dir = 1 ∧ calSeconds y mo d 0 0 0 + 86400 = e) then none
    else some ((calSeconds y mo d h mi sec + s.leapCount) * 100000000 + (ms * 100000 : Nat))

/-! ### Moments of the time base's course -/

/-- The tick, up to `fin`, in which a disciplined time [2^-32 tick] was first reached: on the newest stretch of the time base's
course that begins at or before it, at that stretch's rate (R180, R181, R206). -/
def clkOf (fin : Nat) (x : Int) : List (Nat × Int × Int) → Nat
  | [] => fin
  | (c, y, r) :: rest =>
    if y ≤ x then min fin (c + ceilDiv (x - y).toNat (2 ^ 32 + r).toNat)
    else if rest.isEmpty then c - ((y - x) / (2 ^ 32 + r)).toNat
    else clkOf c x rest

/-- The tick in which the part's full time was `at_` (R206). -/
def State.tickOf (s : State) (at_ : Int) : Nat :=
  clkOf s.clk (at_ * 2 ^ 32) (if s.time.past.isEmpty then [(s.clk, s.fine, s.time.rho)] else s.time.past)

/-- Core ticks from `frm` to `fin`: the time base's course, newest stretch first, shows in which stretches the core clock stood
(R417). -/
def ranTicks (fin frm : Nat) : List (Nat × Int × Int) → Nat
  | [] => fin - frm
  | (c, _, r) :: rest => (if r = -(2 ^ 32) then 0 else fin - max c frm) + ranTicks (min fin c) frm rest

/-- Core ticks since a moment of `clk`. -/
def State.ranSince (s : State) (frm : Nat) : Nat := ranTicks s.clk frm s.time.past

/-! ### The sample counter (R61, R358) -/

/-- A noted disciplined time [10 ps], in the present scale. -/
def State.noted (s : State) (x : Int × Nat) : Rat := (x.1 : Rat) + s.stepsSince x.2

/-- Disciplined time [10 ps] at which the sample counter stood at its last known count, in the present scale: the edge of the
last capture, or the restart of the counter since then (R61, R358). -/
def State.edge10 (s : State) : Rat :=
  match s.clocks.start with
  | some x => s.noted x
  | none => s.noted (s.resolve s.clocks.epoch * 1000 - (s.clocks.delta * 500 : Nat), s.clocks.capAt)

/-- Samples per 10 ps at 16.368 MHz. -/
def sampleRate : Rat := 2046 / 12500000

/-- The most edges of RF_CLK that the sample counter can have counted up to a noted moment: at the nominal rate, with the 4
samples in an epoch that RF_CLK may differ (R57). -/
def State.edgesBefore (s : State) (y : Int × Nat) : Rat :=
  let x := (s.noted y - s.edge10) * sampleRate
  if x ≤ 0 then 0 else x + 4

end Sys2Proof.Machine
end

