-- ==== Sys2Proof/Machine/FaultOps.lean ====
section
/-! DEFINITION. Abandoning a stage, entering FAULT, all-off, and the way into OFF and out of it (R6, R23-R25, R33-R37,
R122, R166, R447, R459, R460). -/

namespace Sys2Proof.Machine

/-- A packet of this device's own, not a reply (R72). -/
def State.send (s : State) (p : Side) (dst : Addr) (opc : Nat) (tag : BitVec 14) (noreply urgent : Bool)
    (words : List Word) : State :=
  s.put p urgent { header := mkHeader dst s.dev.addr opc tag words.length false noreply urgent, words }

/-- This device has sent a broadcast or a relay packet of an opcode, with tag 0: of the master, replies to it are requested
ones (R108). -/
def State.noteSent (s : State) (opc : Nat) : State :=
  if s.own.any fun o => o.kind == .broadcast && o.opc.toNat == opc then s
  else { s with own := s.own ++ [{ kind := .broadcast, tag := 0, dst := 62, opc := BitVec.ofNat 8 opc, atClk := s.clk }] }

/-- A broadcast of this device's own leaves on both ports (R72). -/
def State.broadcast (s : State) (opc : Nat) (urgent : Bool) (words : List Word) : State :=
  ((s.noteSent opc).send .up 62 opc 0 false urgent words).send .down 62 opc 0 false urgent words

/-- The commit tick of an ARMED stage has come (R455). -/
def State.commitDue (s : State) : Bool := s.stage.st == .armed && s.clockRuns && decide (s.stage.at_ ≤ s.full)

/-- An ARMED device switches sets (R455). -/
def State.commitNow (s : State) : State :=
  ({ s with stage := { s.stage with
      force := !s.stage.force, outcome := 1, lastId := s.stage.id, lastAt := s.stage.at_, storeFailed := false
      st := .settling, persistDue := s.stage.persist } } : State).count 0x2504 true 1

/-- The effects of an abandonment: none in OPEN and SETTLING; in the commit tick the commit prevails (R459, R462). -/
def State.abandonStage (s : State) (why : BitVec 3) : State :=
  if s.stage.st == .open_ || s.stage.st == .settling then s
  else if s.commitDue then s.commitNow
  else
  let g := s.stage
  let s := ({ s with stage := { g with
      st := .open_, words := g.setTab g.force, outcome := 2, lastId := g.id, why, handle := none
      commit := g.commit.map fun c => if c.decided then c else { c with abandonedBefore := true } } } : State).count
        0x2504 false 1
  match g.handle with
  | some (h, _) => s.complete h .abandoned 0 g.id.toNat []
  | none => s

/-- A device abandons its stage by itself, and tells the chain when the stage was ARMED (R460). -/
def State.selfAbandon (s : State) (why : BitVec 3) : State :=
  let armed := s.stage.st == .armed && !s.commitDue
  let id := s.stage.id
  let s := s.abandonStage why
  if armed then s.broadcast 0x0A true [word id.toNat] else s

/-- The stage that a STAGE_ABANDON names is not committed (R459, R462). -/
def State.abandons (s : State) (w : Word) : Bool :=
  (s.stage.st == .preparing || s.stage.st == .prepared || s.stage.st == .armed) && !s.commitDue &&
    (bit w 16 || s.stage.id.toNat == fld w 15 0)

/-- The completion of STAGE_COMMIT_AT (R454). -/
def State.finishCommit (s : State) (c : CommitRun) (st : Status) : State :=
  let n := s.pf 0x34 5 0
  let cnt (m : BitVec 32) : Nat := (bitsOf 32 m.toNat).length
  ({ s with stage := { s.stage with commit := none } } : State).complete c.handle st
    (cnt c.committed + (n - cnt c.armed) * 256) c.committed.toNat [word (unsign 48 c.at_), word c.armed.toNat]

/-- The operations that hold a reserved handle and do not go on in FAULT end ABORTED (R122): all but LOG_READ, ACQUIRE
and recalls (R363, R408, R420). -/
def State.abortHandles (s : State) : State :=
  let s := match s.stage.commit with
    | some c => s.finishCommit c .aborted
    | none => s
  let hs := (s.hnd.rs.live.filter fun l => l.st != .retiring && l.opc != 0xA0 && l.opc != 0x92 && l.opc != 0x71)
  let s := hs.foldl (fun s l => s.complete l.id .aborted 0 0 []) s
  { s with
    enumRun := none, echoRun := none
    fw := { s.fw with load := none }
    vlv := { s.vlv with
      tests := []
      banks := s.vlv.banks.map fun b => { b with goal := none, goalHandle := none, goalDone := none, inhHandles := [] } }
    stage := { s.stage with handle := none }
    dog := { s.dog with restartAt := none, aborts := [] } }

/-- The transmit queue is flushed and its frames counted in TX_FLUSHED (R326, R327, R329); with `all` also the frames
of the Mirjan schedule. -/
def State.flushTx (s : State) (all : Bool) : State :=
  let b := s.bus
  let n := b.tx.length + (if all then b2n b.ref.isSome + b2n b.fup.isSome else 0)
  let s := s.count 0x210A false n
  { s with bus := { s.bus with
      tx := [], slotOn := none
      ref := if all then none else b.ref
      fup := if all then none else b.fup } }

/-- The controller takes a word of 2100h: OFF, with the error counters as they stand, or INTEGRATING with both clear
(R326). -/
def State.applyBus (s : State) (w : Word) : State :=
  let s := s.wake 7 (decide (fld s.bus.word 1 0 ≠ 0))
  { s with bus :=
      if fld w 1 0 = 0 then { s.bus with word := w, st := .off }
      else { s.bus with word := w, tec := 0, rec_ := 0, st := .integrating } }

/-- The part leaves STARTING: the controller applies 2100h, and the Mirjan configuration takes effect (R327, R354). -/
def State.startBus (s : State) : State :=
  let s := s.applyBus (s.work 0x2100)
  { s with bus := { s.bus with
      m1 := s.work 0x2101, m2 := s.work 0x2102, m3 := s.work 0x2103, since := s.clk, origin := s.full } }

/-- A further fault of a part in FAULT: its bit is set; one of the tick of the entry can be FIRST (R166, R167). -/
def Faults.more (f : Faults) (clk b : Nat) : Faults :=
  { f with
    bits := f.bits ||| BitVec.ofNat 8 (2 ^ b)
    first := if f.enteredAt = some clk then BitVec.ofNat 8 (min f.first.toNat b) else f.first }

/-- What ends at the entry into FAULT, in the order of R6 and R122: the banks are disabled as a forced BANK_DISABLE, the
ejection handles without an entry with them, the other operations end ABORTED, an uncommitted stage is abandoned (R460),
and the load switches go to their Kennel states. Before step 3 of the start is complete there are neither banks nor Kennel
states to act on, and KENNEL shows ACTIVE 0, after an expiry of the watchdog too (log entry 61). -/
def State.faultEnds (s : State) : State :=
  let s := if s.dev.linksUp then s.disableBanks 15 15 false else s
  let s := (s.endOrphans .cancelled).abortHandles.selfAbandon 4
  if s.dev.linksUp then s.kennelEnter 2 else { s with kennel := { stored := s.kennel.stored } }

/-- A part that has not left STARTING before begins its log and its plant bus at the entry (R327, R400, R401). -/
def State.beginRecords (s : State) : State :=
  if s.log.started then s
  else (({ s with log := { s.log with started := true } } : State).timeRec s.full 3 s.time.theta).startBus

/-- Entry into FAULT with a bit of FAULTS; a Scribe treated as dead records none (R5, R6, R24, R166, R167). -/
def State.enterFault (s : State) (b : Nat) : State :=
  if s.dev.code == .off || s.dev.dead.isSome then s
  else if s.dev.code == .fault then { s with faults := s.faults.more s.clk b }
  else
    let s := { s with faults := { s.faults with
      bits := s.faults.bits ||| BitVec.ofNat 8 (2 ^ b), first := BitVec.ofNat 8 b, enteredAt := some s.clk } }
    let running := s.dev.code == .sorting || s.dev.code == .draining
    let s := s.faultEnds.beginRecords
    let s := s.flushTx false
    let s := s.enter .fault 5
    let s := { s with dev := { s.dev with job := 0, heldStarts := [] } }
    if running && s.mode = 2 then s.closeSummary else s

/-- Two bits in error in a staged record: it is discarded, and a GAP record stands in its place (R16, R411). -/
def State.uncorrLog (s : State) (i : Nat) : State :=
  if i < s.log.staging.length then
    ({ s with log := { s.log with staging := modAt s.log.staging i fun x => (x.1, s.gapBits 1 1) } } : State).count 0x2305 false 1
  else s

/-- The coil's heating up to a moment of `clk`, and the current that flows from then on [16 mA] (R279): a Swell counts a
third of its square. -/
def ValveSt.heatTo (x : ValveSt) (clk i : Nat) (swell : Bool) : ValveSt :=
  let a : Rat := (x.heatI * 16 : Nat) / 1000
  let q := a * a * ((clk - x.heatAt : Nat) : Rat) / 100000000
  { x with heat := x.heat + (if x.heatSwell then q / 3 else q), heatI := i, heatSwell := swell, heatAt := clk }

/-- A limit with its hysteresis of 5 K (R280). -/
def limitReached (was : Bool) (theta : Rat) (lim : Nat) : Bool :=
  if was then decide ((lim : Rat) - 5 < theta) else decide ((lim : Rat) ≤ theta)

/-- The Blotter's limits of a coil: WARN and DERATE of the bank, and the inhibit limit in force (R280). -/
def ValveSt.judge (x : ValveSt) (warn derate inhibit : Nat) : ValveSt :=
  { x with
    warn := limitReached x.warn x.theta warn
    derated := limitReached x.derated x.theta derate
    inhibited := limitReached x.inhibited x.theta inhibit }

/-- The limits of a bank's coils are judged anew (R280, R281). -/
def State.judgeBank (s : State) (b : Bank) : State :=
  { s with vlv := { s.vlv with valves := s.vlv.valves.mapFinIdx fun n x _ =>
    if n / 16 = b.val then x.judge (s.pf (0x1014 + b.val) 47 40) (s.pf (0x1014 + b.val) 39 32) s.vlv.banks[b].inhibit
    else x } }

/-- A pulse runs on the channel and has not begun to turn off. -/
def Chan.driven (c : Chan) : Bool :=
  match c.pulse with
  | some p => p.phase != .turnOff
  | none => false

/-- The Hairline current of a coil ends with its drive. -/
def State.coolIf (s : State) (p : Nat → Bool) : State :=
  let valves := s.vlv.valves.mapFinIdx fun n x h =>
    if p n && s.vlv.chans[n].driven then x.heatTo s.clk 0 false else x
  { s with vlv := { s.vlv with valves } }

/-- What a Swell that CUT, all-off or the hot die ends has drawn, and its signature: measured by the Quill, and named by no
command: free values (R267, log entry 14). -/
def Pulse.swellFree (p : Pulse) (w : Word) : Pulse :=
  if p.phase == .swell then { p with drawn := fld w 19 0, sig := if bit w 47 then some (fld w 35 20) else none } else p

/-- A channel cut at once with fast decay: held ARMs are dropped, a running pulse turns off (R23, R268). `w` holds the
measurements of a Swell that it ends. -/
def Chan.cutNow (c : Chan) (w : Word) : Chan :=
  match c.pulse with
  | none => { c with held := [], drive := if c.drive == .off then .off else .fast }
  | some p =>
    if p.phase == .turnOff then { c with held := [] }
    else { c with
      held := [], drive := .fast
      pulse := some { p.swellFree w with phase := .turnOff, outcome := .cut, diag := 7 } }

/-- Every channel is cut. -/
def State.cutAll (s : State) : State :=
  { s with
    freeCtr := s.freeCtr + 64
    vlv := { s.vlv with chans := s.vlv.chans.mapFinIdx fun n c _ => c.cutNow (Config.freeWord (s.freeCtr + n)) } }

/-- How far a cause of death reaches: a core supply out of its limits has lost the Scribe's state, whatever came before
or after; a stopped clock and a hung processor keep it (R24, R491). -/
def Death.rank : Death → Nat
  | .running => 0
  | .hung => 1
  | .clock => 2
  | .supply => 3

/-- The graver of a cause that stands and a new one. -/
def Death.graver (old : Option Death) (d : Death) : Death :=
  match old with
  | some o => if d.rank ≤ o.rank then o else d
  | none => d

/-- All-off: every coil cut, every switch off, the line and FAULT_N driven, latched in three dies (R23, R24). In OFF
everything is off, and the latch is that of the supply or of RESET_N (R5, R33, R48). -/
def State.allOff (s : State) (d : Death) : State :=
  if s.dev.code == .off then s else
  let s := (s.switchesOff.coolIf fun _ => true).cutAll
  { s with
    vlv := { s.vlv with
      quill0 := { s.vlv.quill0 with allOff := true }
      quill1 := { s.vlv.quill1 with allOff := true } }
    d2d := { s.d2d with ferruleAllOff := true, line := true }
    dev := { s.dev with dead := some (Death.graver s.dev.dead d), hung := s.dev.hung || d == .hung } }

/-- FAULT_N is low: while the Ferrule can drive it, in OFF, in STARTING until step 4, under all-off, in FAULT, on
FAULT_N_HOLD and, while FAULTN_RECALL is 1, for a recall (R23, R26, R43, R444). -/
def State.faultNLow (s : State) : Bool :=
  s.power.supervisor && (s.dev.code == .off || s.power.faultNStart || s.d2d.ferruleAllOff || s.dev.code == .fault
    || s.regs.faultNHold || (s.power.faultNRecall.isSome && decide (s.pf 0x2410 9 9 = 1)))

/-- A channel in OFF: held ARMs and latch are gone; a driven coil, or one that turns off, decays fast until its current
is zero, with nothing left to report (R35, R48, R252). -/
def Chan.offNow (c : Chan) : Chan := { drive := if c.drive == .off then .off else .fast }

/-- Entry into OFF from another state: the cause is recorded with the PRIOR bits as they stood before; every coil is cut
with fast decay and every switch off; what the Scribe holds is lost but the flash (R37, R48, R121, R166). In OFF nothing
changes. -/
def State.enterOff (s : State) (cause : Nat) : State :=
  if s.dev.code == .off then s else
  let rec_ := (s.dev.code == .fault, s.d2d.ferruleAllOff, cause)
  let r := State.reset
  { r with
    pending := s.pending, out := s.out, clk := s.clk, freeCtr := s.freeCtr
    dev := { r.dev with code := .off, startStep := 0 }
    power := { s.power with
      vbatLow := false, uvSince := none, causeScribe := some rec_, causeFerrule := some rec_
      faultNStart := true, faultNRecall := none, rfEn := false, lostVbat := false, lostVio := false }
    fw := { s.fw with load := none }
    faults := { r.faults with priorBits := s.faults.bits, priorFirst := s.faults.first }
    par := { r.par with store := s.par.store }
    vlv := { r.vlv with chans := s.vlv.chans.map (·.offNow) }
    sw := { r.sw with dim := s.sw.dim } }

/-- Number in the store of the Kennel codes; of accumulator A and of E_SWELL with SEEDED of valve n (R286, R314): words
of the store that no parameter ID names. -/
def kennelKey : Nat := 0x10000
def accKey (n : Nat) : Nat := 0x10100 + n
def seedKey (n : Nat) : Nat := 0x10200 + n

/-- Words that a start loads as parameters: those of the ID space that no live state answers (R139). -/
def loadable (id : Nat) : Bool :=
  id < 0x10000 && !(0x11C0 ≤ id && id < 0x1240) && !(0x2030 ≤ id && id < 0x2040)

/-- D_learn = A / 256 + KAPPA * (theta - 20), theta in 1/16 K, to the nearest tick, a half up (R276). -/
def learnedDelay (acc kappa t16 : Int) : Int := roundHalfUp (acc * 16 + kappa * (t16 - 320) * 256) 4096

/-- A valve's learned values from the store; with none stored A is such that D_LEARN is 100,000 (R286, R292). -/
def loadValve (store : WTable) (tAmb kappa : Int) (n : Nat) : ValveSt :=
  let acc : Int := match tget store (accKey n) with
    | some w => signed 48 w.toNat
    | none => 256 * (100000 - kappa * (tAmb - 20))
  let sd := (tget store (seedKey n)).getD (fields [(27, 8, 50000), (1, 0, 3)])
  { acc, dLearn := learnedDelay acc kappa (16 * tAmb), seeded := bit sd 0, eSeeded := bit sd 1, eSwell := fld sd 27 8
    pulses := (tget store (0x1200 + n)).getD 0, theta := tAmb }

/-- The part leaves OFF for STARTING: step 1a begins, and the working copy, the staged set, the start parameters, the
learned values and the Kennel codes come from the store (R33, R139, R262, R286, R447). -/
def State.startUp (s : State) : State :=
  let st := s.par.store
  let load (p : Nat → Bool) : WTable := (st.filter fun e => p e.1).foldl (fun t e => tput t e.1 e.2) []
  let work := load fun i => loadable i && !staged i
  let set0 := load staged
  let amb (b : Nat) : Int := sfld (tval work (0x1010 + b)) 19 12
  let cause := if s.power.lostVbat && s.power.lostVio then (false, false, 1)
    else (s.power.causeScribe.orElse fun _ => s.power.causeFerrule).getD (false, false, 1)
  let keep := cause.2.2 != 1 && !s.power.lostVio
  { s with
    dev := { s.dev with code := .starting, startStep := 1, stepAt := s.clk, dead := none }
    power := { s.power with cause, faultNStart := true, resetOwn := none, causeScribe := some cause
                            causeFerrule := some cause, lostVbat := false, lostVio := false }
    faults := if keep then s.faults else {}
    par := { s.par with work, boot := load nextStart }
    hnd := { s.hnd with sumFrom := s.clk }
    kennel := { s.kennel with stored := BitVec.ofNat 32 ((tget st kennelKey).getD 0).toNat }
    d2d := { s.d2d with ferruleAllOff := false, line := false, ferruleHeard := none }
    sw := { s.sw with ch := s.sw.ch.mapFinIdx fun n c _ => { c with clampHi := (tget st (0x2030 + n)).getD 0 } }
    stage := { s.stage with set0, set1 := [], words := set0 }
    log := { s.log with size := BitVec.ofNat 2 (fld (tval work 0x2300) 7 6)
                        clk := BitVec.ofNat 2 (fld (tval work 0x2300) 5 4) }
    vlv := { s.vlv with
      quill0 := { s.vlv.quill0 with allOff := false, heardAt := none }
      quill1 := { s.vlv.quill1 with allOff := false, heardAt := none }
      savedAt := s.clk
      valves := Vector.ofFn fun n =>
        let w := tval work (0x1014 + n.val / 16)
        (loadValve st (amb (n.val / 16)) (sfld (tval work (0x1140 + n.val)) 32 21) n.val).judge (fld w 47 40) (fld w 39 32)
          (fld w 31 24)
      banks := Vector.ofFn fun b =>
        let v := fld (tval work (0x1010 + b.val)) 47 36
        { target := v, inhibit := fld (tval work (0x1014 + b.val)) 31 24 }
      blotAt := s.clk } }

/-- The part leaves OFF when both supplies are valid, VBAT above 16.5 V among them, and RESET_N is high (R33). -/
def State.leaveOff (s : State) : State :=
  if s.dev.code == .off && s.power.vbatOk && !s.power.below165 && s.power.vioOk && !s.power.resetExt && s.power.resetOwn.isNone then
    s.startUp
  else s

/-- A reset by the Ferrule: RESET_N is driven low for 10 ms (R36). -/
def State.ferruleReset (s : State) : State :=
  let s := s.enterOff 3
  { s with power := { s.power with resetOwn := some s.clk } }

end Sys2Proof.Machine
end

