-- ==== Sys2Proof/Machine/Power.lean ====
section
/-! DEFINITION. Supplies, RESET_N, the staggered start, the reference and the sample clock (chapter 2). -/

namespace Sys2Proof.Machine

abbrev Result := Host.Outcome State Fault Refusal

/-- A bank is started in step 5 (R38, R63). -/
def State.bankStart (s : State) (b : Bank) : Bool := (s.bootf 0x24 3 0).testBit b.val

/-- A started bank is in regulation or has failed (R38). -/
def State.bankSettled (s : State) (b : Bank) : Bool :=
  s.vlv.banks[b].phase == .regulated || s.vlv.banks[b].phase == .failed

/-- The banks that BANK_START names, in order. -/
def State.startBanks (s : State) : List Bank := (List.finRange 4).filter fun b => s.bankStart b

/-- Step 5 ends when every started bank is in regulation or failed; step 6 takes its list (R38, R41). -/
def State.boostsDone (s : State) : State :=
  if s.dev.code == .starting && s.dev.startStep = 7 && s.startBanks.all fun b => s.bankSettled b then
    { s with dev := { s.dev with
        startStep := 8, stepAt := s.clk
        startList := if s.kennel.active then [] else s.startOrder.filter fun n => (s.bootf 0x20 15 0).testBit n.val
        startLast := s.clk, startSw := none } }
  else s

/-- A step of the start completes and the next begins. -/
def State.startNext (s : State) (n : Nat) : State :=
  { s with dev := { s.dev with startStep := n, stepAt := s.clk } }

/-- The part runs start step `n`. -/
def State.atStep (s : State) (n : Nat) : Bool := s.dev.code == .starting && s.dev.startStep = n

/-- SUPPLY_VALID (R33). -/
def execSupplyValid (dt : Nat) (s : State) : Result :=
  let s := s.elapse dt
  .next ({ s with power := { s.power with vbatOk := true, vioOk := true, below165 := false } } : State).leaveOff

/-- RESET_N_LOW: RESET_PIN, or FW_SWITCH when the Ferrule of a joined device drives the pin under R36 (section 2.9); the
all-off latch is released (R24, R35, R37). -/
def execResetNLow (dt : Nat) (joined : Bool) (s : State) : Result :=
  let s := (s.elapse dt).enterOff (if joined then 3 else 2)
  .next { s with
    power := { s.power with resetExt := true }
    d2d := { s.d2d with ferruleAllOff := false, line := false }
    vlv := { s.vlv with quill0 := { s.vlv.quill0 with allOff := false }
                        quill1 := { s.vlv.quill1 with allOff := false } } }

/-- RESET_N_RISE: the pin is released from outside, and by the Ferrule once its 10 ms have run (R35, R36). -/
def execResetNRise (dt : Nat) (s : State) : Result :=
  let s := s.elapse dt
  let own := match s.power.resetOwn with
    | some t => if t + 1000000 ≤ s.clk then none else some t
    | none => none
  .next ({ s with power := { s.power with resetExt := false, resetOwn := own } } : State).leaveOff

/-- VBAT_LOSS (R33, R37, R48). -/
def execVbatLoss (dt : Nat) (s : State) : Result :=
  let s := (s.elapse dt).enterOff 5
  .next { s with power := { s.power with vbatOk := false, lostVbat := true, below165 := true } }

/-- VIO_LOSS: the Scribe core rail fails, all-off is latched, and the Scribe's copies are lost (R23, R37, R48). -/
def execVioLoss (dt : Nat) (s : State) : Result :=
  let s := (s.elapse dt).enterOff 4
  .next { s with
    power := { s.power with vioOk := false, lostVio := true, causeScribe := none }
    faults := {}
    d2d := { s.d2d with ferruleAllOff := true, line := true }
    vlv := { s.vlv with quill0 := { s.vlv.quill0 with allOff := true }
                        quill1 := { s.vlv.quill1 with allOff := true } } }

/-- VBAT_LOW: the boosts stop switching and the undervoltage count starts (R46, R47). A part in OFF stays there until
VBAT lies above 16.5 V again (R33). -/
def execVbatLow (dt : Nat) (s : State) : Result :=
  let s := s.elapse dt
  let s := { s with power := { s.power with below165 := true } }
  if s.dev.code == .off then .next s else
  .next (({ s with power := { s.power with vbatLow := true, uvSince := some (s.power.uvSince.getD s.clk) } } :
    State).modBanks fun b => { b with switching := false })

/-- VBAT_RECOVER: above 16.5 V the boosts resume, and a part in OFF may leave it; 100 us above 15.5 V end the count (R33,
R46, R47). -/
def execVbatRecover (dt : Nat) (above165 : Bool) (stay : Nat) (s : State) : Result :=
  let s := s.elapse dt
  let s := if stay < 10000 then s else { s with power := { s.power with uvSince := none } }
  .next (if above165 then
    (({ s with power := { s.power with vbatLow := false, below165 := false } } : State).modBanks
      fun b => b.track s.clk false).leaveOff
  else s)

/-- VBAT_UV: the count has reached 2 ms (R47). -/
def execVbatUv (dt : Nat) (s : State) : Result :=
  let s := s.elapse dt
  .next (match s.power.uvSince with
    | some t => if t + 200000 ≤ s.clk then s.enterFault 4 else s
    | none => s)

/-- VBAT_HIGH (R49). -/
def execVbatHigh (dt : Nat) (s : State) : Result :=
  let s := s.elapse dt
  .next { s with power := { s.power with vbatHigh := true } }

/-- VBAT_HIGH_END (R49, R168). -/
def execVbatHighEnd (dt : Nat) (s : State) : Result :=
  let s := s.elapse dt
  .next { s with power := { s.power with vbatHigh := false } }

/-- RAILS_VALID: step 1a is complete (R38). -/
def execRailsValid (dt : Nat) (s : State) : Result :=
  let s := s.elapse dt
  .next (if s.atStep 1 then s.startNext 2 else s)

/-- The Scribe runs step 1b (2) or 1c (3): in a start, or again after its core supply has returned (R24, R38, R54). -/
def State.runsStep (s : State) (n : Nat) : Bool := s.atStep n || s.dev.restart = n

/-- Step 1b ends: step 1c begins, of the start or of the restarted Scribe. -/
def State.toImageCheck (s : State) : State :=
  if s.dev.restart = 2 then { s with dev := { s.dev with restart := 3, stepAt := s.clk } } else s.startNext 3

/-- REFERENCE_SELECT: REFIN after a valid run, or the crystal 2 ms after the rails; once per start, and again by a Scribe
that restarts after its core supply was lost (R51, R54). -/
def execReferenceSelect (dt : Nat) (refin : Bool) (s : State) : Result :=
  let s := s.elapse dt
  .next (if s.runsStep 2 && !s.clocks.selected && (refin || s.dev.stepAt + 200000 ≤ s.clk) then
    { s with clocks := { s.clocks with selected := true, refin } }
  else s)

/-- PLL_LOCK: REFOUT runs and step 1c begins (R38, R50, R53). -/
def execPllLock (dt : Nat) (s : State) : Result :=
  let s := s.elapse dt
  .next (if s.runsStep 2 && s.clocks.selected && !s.clocks.locked then
    ({ s with clocks := { s.clocks with locked := true, refout := true } } : State).toImageCheck
  else s)

/-- The restarted Scribe has run steps 1b and 1c: it reads the latch and enters FAULT with ALL_OFF_LATCHED; FW_IMAGE
beside it when both images fail (R24, R38). -/
def State.restartFault (s : State) (ok : Bool) : State :=
  let s := ({ s with dev := { s.dev with restart := 0, dead := none } } : State).enterFault 6
  if ok then s else s.enterFault 3

/-- FIRMWARE_CHECK: the active image, or the other if it fails; two failing images are FW_IMAGE (R38). A Scribe whose
core supply had been lost then enters FAULT (R24). -/
def execFirmwareCheck (dt : Nat) (activeOk otherOk : Bool) (s : State) : Result :=
  let s := s.elapse dt
  .next ((if s.dev.restart = 3 then
      ({ s with fw := { s.fw with active := bif !activeOk && otherOk then !s.fw.active else s.fw.active } } :
        State).restartFault (activeOk || otherOk)
    else if !s.atStep 3 then s
    else if activeOk then s.startNext 4
    else if otherOk then ({ s with fw := { s.fw with active := !s.fw.active } } : State).startNext 4
    else s.enterFault 3).wake 9 (s.dev.restart ≠ 3 && !s.atStep 3))

/-- SRAM_CLEAR: step 2 ends; the scrubber may begin (R15); the recall slots are empty and XSPI_OK tells the test of the
PSRAM (R38, R398, R423). -/
def execSramClear (dt : Nat) (psramOk : Bool) (s : State) : Result :=
  let s := s.elapse dt
  .next (if s.atStep 4 then
    ({ s with log := { s.log with xspiOk := psramOk }
              dog := { s.dog with slots := Vector.replicate 8 {} }
              d2d := { s.d2d with scrubPos := 0, scrubAt := none } } : State).startNext 5
  else s)

/-- D2D_TRAINING: the mirrors are loaded, the first HEARTBEAT arms the three watches, the Quills hold set 0's rows and
both Lingaris ports train (R19, R38, R42, R87). -/
def execD2dTraining (dt : Nat) (s : State) : Result :=
  let s := s.elapse dt
  .next (if s.atStep 5 then
    let rows := (List.range 8).map fun r => s.inSet false (0x1000 + r)
    let q (q : Quill) : Quill :=
      { q with mirror := s.time.n, heardAt := some s.clk, shapes0 := rows, shapes1 := rows }
    let p (p : Port) : Port := { p with state := .training 1, trainAt := s.clk }
    let s := ({ s with
      dev := { s.dev with linksUp := true }
      vlv := { s.vlv with quill0 := q s.vlv.quill0, quill1 := q s.vlv.quill1 }
      d2d := { s.d2d with ferruleHeard := some s.clk, beatAt := s.clk
                          scrubPeriod := s.pf 0x12 7 0 }
      up := p s.up
      down := p s.down } : State).startNext 6
    ((s.emit (.heartbeat s.time.n)).emit (.train .up 1)).emit (.train .down 1)
  else s)

/-- START_OPEN_LOAD_CHECK: the check of R304 once on every channel with OL_CHECK; FAULT_N is released (R38, R43). -/
def execStartOpenLoadCheck (dt : Nat) (highFirst highSecond : BitVec 16) (s : State) : Result :=
  let s := s.elapse dt
  .next (if s.atStep 6 then
    let ch := s.sw.ch.mapFinIdx fun n c _ =>
      if s.pf (0x2000 + n) 15 15 = 1 then
        { c with shortVbat := highFirst.getLsbD n && highSecond.getLsbD n
                 openLoad := highFirst.getLsbD n && !highSecond.getLsbD n, checkAt := s.clk + 8900000 }
      else c
    (({ s with sw := { s.sw with ch }, power := { s.power with faultNStart := false } } : State).startNext
      7).boostsDone
  else s)

/-- The bank may begin: it is the next of BANK_START, its predecessor began 20 ms ago and has settled (R39). -/
def State.mayBegin (s : State) (b : Bank) : Bool :=
  s.atStep 7 && s.bankStart b && s.vlv.banks[b].phase == .idle &&
  (s.startBanks.filter (· < b)).all fun a =>
    s.bankSettled a && decide (s.vlv.banks[a].beganAt + 2000000 ≤ s.clk)

/-- BOOST_BANK_BEGIN: precharge, with BOOST_V_START as target (R39, R262). -/
def execBoostBankBegin (dt : Nat) (b : Bank) (s : State) : Result :=
  let s := s.elapse dt
  .next (if s.mayBegin b then
    let v := s.bootf (0x1010 + b.val) 47 36
    s.modBank b fun k => ({ k with phase := .precharge, beganAt := s.clk, target := v } : BankSt).track s.clk s.power.vbatLow
  else s)

/-- BOOST_PRECHARGE_DONE (R39). -/
def execBoostPrechargeDone (dt : Nat) (b : Bank) (s : State) : Result :=
  let s := s.elapse dt
  .next (if s.atStep 7 && s.vlv.banks[b].phase == .precharge then
    s.modBank b fun k => { k with phase := .softStart }
  else s)

/-- BOOST_REGULATION: BSTC_x has stayed within 2 % for 500 us; the bank is ready and its valves are enabled (R39, R40). -/
def execBoostRegulation (dt : Nat) (b : Bank) (s : State) : Result :=
  let s := s.elapse dt
  .next (if s.atStep 7 && s.vlv.banks[b].phase == .softStart && s.vlv.banks[b].steady s.clk then
    (s.modBank b fun k => { k with phase := .regulated, ready := true, en := true }).boostsDone
  else s)

/-- BOOST_START_FAIL: 100 ms after it began (R39, R40). -/
def execBoostStartFail (dt : Nat) (b : Bank) (s : State) : Result :=
  let s := s.elapse dt
  let k := s.vlv.banks[b]
  .next (if s.atStep 7 && (k.phase == .precharge || k.phase == .softStart) && k.beganAt + 10000000 ≤ s.clk then
    (s.modBank b fun k => { k with phase := .failed, startFail := true, switching := false }).boostsDone
  else s)

/-- START_INTERVAL in ticks (R63). -/
def State.startInterval (s : State) : Nat := s.bootf 0x23 9 0 * 100000

/-- START_SWITCH_ON: the first channel as soon as step 5 is complete, each later one an interval after (R41). -/
def execStartSwitchOn (dt : Nat) (s : State) : Result :=
  let s := s.elapse dt
  .next (match s.dev.startList with
    | [] => s
    | n :: r =>
      if s.atStep 8 && (s.dev.startSw.isNone || s.dev.startLast + s.startInterval ≤ s.clk) then
        let s := s.swOn n
        { s with dev := { s.dev with startList := r, startLast := s.clk, startSw := some n } }
      else s)

/-- The inrush window that began when step 6 switched its last channel on still runs (R41). -/
def State.lastWindow (s : State) : Bool :=
  match s.dev.startSw with
  | some n => s.sw.ch[n].inrushAt = some s.dev.startLast
  | none => false

/-- Step 6 is complete: no channel was set, or the last one's interval and inrush window have ended (R41). -/
def State.switchesDone (s : State) : Bool :=
  s.dev.startList.isEmpty && (s.bootf 0x20 15 0 = 0 ||
    (decide (s.dev.startLast + s.startInterval ≤ s.clk) && !s.lastWindow))

/-- STARTING_COMPLETE: step 7 drives RF_EN; UNADDRESSED; the log begins with a TIME record (R38, R362, R400,
R401). The plant bus starts (R327). -/
def execStartingComplete (dt : Nat) (s : State) : Result :=
  let s := s.elapse dt
  .next (if s.atStep 8 && s.switchesDone then
    let s := { s with
      power := { s.power with rfEn := s.bootf 0x24 4 4 = 1 }
      log := { s.log with started := true } }
    ((s.timeRec s.full 3 s.time.theta).enter .unaddressed 6).startBus
  else s)

/-- REFERENCE_LOSS: holdover; the core clock goes on (R55). -/
def execReferenceLoss (dt : Nat) (s : State) : Result :=
  let s := s.elapse dt
  .next (if s.clocks.locked && s.clocks.holdSince.isNone then
    { s with clocks := { s.clocks with holdSince := some s.clk } }
  else s)

/-- HOLDOVER_LIMIT in ticks, as taken at the start (R63). -/
def State.holdLimit (s : State) : Nat := s.bootf 0x25 9 0 * 100000

/-- REFERENCE_RETURN within HOLDOVER_LIMIT (R55). -/
def execReferenceReturn (dt : Nat) (s : State) : Result :=
  let s := s.elapse dt
  .next (match s.clocks.holdSince with
    | some t => if s.clk < t + s.holdLimit then { s with clocks := { s.clocks with holdSince := none } } else s
    | none => s)

/-- HOLDOVER_LIMIT_EXPIRY: REF_LOSS (R55). -/
def execHoldoverLimitExpiry (dt : Nat) (s : State) : Result :=
  let s := s.elapse dt
  .next (match s.clocks.holdSince with
    | some t => if t + s.holdLimit ≤ s.clk then s.enterFault 5 else s
    | none => s)

/-- BRIDGE_EPOCH: the capture of the time bridge, once, in the tick that reaches an instant divisible by 100,000 (R61,
R62, R181). `edges`: rising edges of RF_CLK since the last capture, or since the sample counter restarted. A counter that
stands goes on standing unless edges came after the moment from which it stands (R358, log entry 48). -/
def execBridgeEpoch (dt : Nat) (edges : BitVec 48) (delta : Fin 13) (s : State) : Result :=
  let s := s.elapse dt
  .next (if s.reached (epochOf s.full) && !(0 < s.clocks.captures && s.clocks.capAt = s.clk) then
    { s with clocks := { s.clocks with
        epoch := BitVec.ofInt 48 (epochOf s.full), sample := s.clocks.sample + edges, delta := delta.val
        stepped := s.clocks.stepSince, stepSince := false, captures := s.clocks.captures + 1, capAt := s.clk, start := none
        still := s.clocks.still.bind fun y =>
          if s.edgesBefore y < (edges.toNat : Rat) then none
          else some (epochOf s.full * 1000 - (delta.val * 500 : Nat), s.clk) } }
  else s)

/-- SUPERVISOR_RAIL_LOSS: VBAT below 7 V; FAULT_N is no longer driven and the Ferrule's record is lost (R37, R43). -/
def execSupervisorRailLoss (dt : Nat) (s : State) : Result :=
  let s := s.elapse dt
  .next { s with power := { s.power with supervisor := false, causeFerrule := none } }

/-- SUPERVISOR_RAIL_RETURN (R32, R43). -/
def execSupervisorRailReturn (dt : Nat) (s : State) : Result :=
  let s := s.elapse dt
  .next { s with power := { s.power with supervisor := true } }

end Sys2Proof.Machine
end

