-- ==== Sys2Proof/Machine/D2d.lean ====
section
/-! DEFINITION. The die-to-die links, mirrors, heartbeats, Scribe death and the scrubber (R14-R26, R268, R272, R284). -/

namespace Sys2Proof.Machine

/-- Corrected errors: CE_COUNT saturates, ECC_CE wraps (R14, R168, R178). -/
def State.corrected (s : State) : State :=
  ({ s with health := { s.health with ce := if s.health.ce = 0xFF then 0xFF else s.health.ce + 1 } } : State).count
    0x51 true 1

/-- Uncorrectable errors of the shared SRAM: UE_COUNT saturates, ECC_UE wraps (R16, R168, R178). -/
def State.uncorrected (s : State) : State :=
  ({ s with health := { s.health with ue := if s.health.ue = 0xF then 0xF else s.health.ue + 1 } } : State).count
    0x51 false 1

/-- The valve of a Quill channel (R27). -/
def chanValve (q : Fin 2) (c : Nat) : Valve := Fin.ofNat 64 (q.val * 32 + c)

/-- A Quill's REPORT leaves for the Scribe; while a SORT recall runs the Quill holds it (R427). -/
def State.report (s : State) (q : Fin 2) (m : D2dMsg) : State :=
  if s.dog.recalls.any fun r => r.job = 0 then { s with dog := { s.dog with heldReports := s.dog.heldReports ++ [(q, m)] } }
  else s.sendD2d (linkOf q) m

/-- Both reports of an ARM that is dropped before its coil-on (R268, R284). -/
def State.reportDropped (s : State) (q : Fin 2) (f : ArmFrame) (diag : BitVec 3) (o : PulseOutcome) : State :=
  (s.report q (.swellEnd { valve := f.valve, handle := f.handle, ttp := none, sig := none, drawn := 0, diag })).report q
    (.off { valve := f.valve, handle := f.handle, recovered := 0, diag, outcome := o, samples := [] })

/-- ARM reaches a Quill: a latched channel or a hot die refuses it with an OFF report, otherwise it is held (R236, R282,
R284). -/
def execArm (dt : Nat) (q : Fin 2) (f : ArmFrame) (s : State) : Result :=
  let s := s.elapse dt
  .next (if quillOf (bankOf f.valve) ≠ q || (s.quill q).allOff || (s.quill q).heardAt.isNone then s
    else if s.vlv.chans[f.valve].latched then
      s.report q (.off { valve := f.valve, handle := f.handle, recovered := 0, diag := 6, outcome := .valveFault, samples := [] })
    else if (s.quill q).hot then
      s.report q (.off { valve := f.valve, handle := f.handle, recovered := 0, diag := 7, outcome := .valveFault, samples := [] })
    else s.modChan f.valve fun c => { c with held := c.held ++ [f] })

/-- One channel named by a CUT: held ARMs are dropped and reported, a running pulse starts turn-off (R268). -/
def State.cutChan (s : State) (q : Fin 2) (v : Valve) : State :=
  let held := s.vlv.chans[v].held
  let (w, s) := (s.coolIf fun n => n = v.val).freeWord
  let s := s.modChan v fun c => c.cutNow w
  held.foldl (fun s f => s.reportDropped q f 7 .cut) s

/-- CUT reaches a Quill (R268). -/
def execCut (dt : Nat) (q : Fin 2) (mask : BitVec 32) (s : State) : Result :=
  let s := s.elapse dt
  .next ((bitsOf 32 mask.toNat).foldl (fun s c => s.cutChan q (chanValve q c)) s)

/-- SHAPE reaches a Quill: the row of the named set is loaded (R272). -/
def execShape (dt : Nat) (q : Fin 2) (set : Bool) (row : Fin 8) (value : Word) (s : State) : Result :=
  let s := s.elapse dt
  .next (s.modQuill q fun k =>
    if set then { k with shapes1 := modAt k.shapes1 row.val fun _ => value }
    else { k with shapes0 := modAt k.shapes0 row.val fun _ => value })

/-- ADJUST reaches a Quill (R20). -/
def execAdjust (dt : Nat) (q : Fin 2) (delete : Bool) (atTick : Int) (s : State) : Result :=
  let s := s.elapse dt
  .next (s.modQuill q fun k => { k with adjusts := k.adjusts ++ [(delete, atTick)] })

/-- STEP reaches a Quill (R20). -/
def execD2dStep (dt : Nat) (q : Fin 2) (amount atTick : Int) (s : State) : Result :=
  let s := s.elapse dt
  .next (s.modQuill q fun k => { k with steps := k.steps ++ [(amount, atTick)] })

/-- The mirror has reached or passed a tick (R181). -/
def Quill.reached (k : Quill) (atTick : Int) : Bool :=
  decide (0 ≤ signed 48 (k.mirror - BitVec.ofInt 48 atTick).toNat)

/-- What the announced insertions and deletions whose tick has come change: a deletion adds one, an insertion takes one. -/
def Quill.tickChange (k : Quill) : Int :=
  (k.adjusts.filter fun a => k.reached a.2).foldl (fun x a => x + if a.1 then 1 else -1) 0

/-- A Quill after the insertion or deletion of this tick. -/
def Quill.adjusted (k : Quill) : Quill :=
  { k with
    mirror := k.mirror + BitVec.ofInt 48 k.tickChange
    adjusts := k.adjusts.filter fun a => !k.reached a.2 }

/-- The amount of the steps whose tick has come: the boundary is reached by the count that the insertion or deletion of
this tick leaves (R180, R203). -/
def Quill.stepChange (k : Quill) : Int := (k.steps.filter fun a => k.adjusted.reached a.2).foldl (fun x a => x + a.1) 0

/-- A Quill's mirror after the announced changes of this tick, and the changes still to come. A tick announced before a
step and due after it is named in the scale before the step, and moves with it (R20, log entry 72). -/
def Quill.adjust (k : Quill) : Quill :=
  let a := k.adjusted
  { a with
    mirror := a.mirror + BitVec.ofInt 48 k.stepChange
    adjusts := a.adjusts.map fun x => (x.1, x.2 + k.stepChange)
    steps := a.steps.filter fun x => !a.reached x.2 }

/-- An armed pulse re-based by a step (R20). -/
def shiftFrame (f : ArmFrame) (x : Int) : ArmFrame := { f with cOn := f.cOn + x, cOff := f.cOff + x }

/-- A channel's pulses re-based. -/
def Chan.shift (c : Chan) (x : Int) : Chan :=
  { c with held := c.held.map (shiftFrame · x), pulse := c.pulse.map fun p => { p with frame := shiftFrame p.frame x } }

/-- MIRROR_ADJUST: each Quill applies the changes of this tick, and re-bases its pulses on a step (R20, R180). -/
def execMirrorAdjust (dt : Nat) (s : State) : Result :=
  let s := s.elapse dt
  let x0 := s.vlv.quill0.stepChange
  let x1 := s.vlv.quill1.stepChange
  .next { s with vlv := { s.vlv with
    quill0 := s.vlv.quill0.adjust
    quill1 := s.vlv.quill1.adjust
    chans := s.vlv.chans.mapFinIdx fun i c _ => c.shift (if i < 32 then x0 else x1) } }

/-- The Quill sends the frame to the Scribe (R21). -/
def fromQuill : D2dMsg → Bool
  | .swellEnd _ | .off _ | .alert _ => true
  | _ => false

/-- The Scribe watches the frame's acknowledgement for 4 us (R21). -/
def watched : D2dMsg → Bool
  | .arm _ | .cut _ | .shape _ _ _ | .adjust _ _ | .step _ _ => true
  | _ => false

/-- The frame is the waiting one. -/
def D2dWait.is (w : D2dWait) (link : Fin 3) (m : D2dMsg) : Bool := w.link == link && w.msg == m

/-- D2D_CRC_FAIL: a HEARTBEAT is discarded; another frame is sent again, at most twice; a REPORT or ALERT that fails
three times is D2D_LINK (R21). -/
def execD2dCrcFail (dt : Nat) (link : Fin 3) (m : D2dMsg) (s : State) : Result :=
  let s := s.elapse dt
  .next (match m with
    | .heartbeat _ => s
    | _ =>
      let n := ((s.d2d.wait.find? fun w => w.is link m).map (·.fails)).getD 0 + 1
      if fromQuill m && 3 ≤ n then
        ({ s with d2d := { s.d2d with wait := s.d2d.wait.filter fun w => !w.is link m } } : State).enterFault 1
      else { s with d2d := { s.d2d with wait := mapIf (fun w => w.is link m) (fun w => { w with fails := n }) s.d2d.wait } })

/-- D2D_ACK_TIMEOUT: 4 us after the first transmission (R21). -/
def execD2dAckTimeout (dt : Nat) (link : Fin 3) (m : D2dMsg) (s : State) : Result :=
  let s := s.elapse dt
  .next (match s.d2d.wait.find? fun w => w.is link m with
    | some w =>
      if watched m && w.sentAt + 400 ≤ s.clk then
        ({ s with d2d := { s.d2d with wait := s.d2d.wait.filter fun w => !w.is link m } } : State).enterFault 1
      else s
    | none => s)

/-- D2D_ACK: the oldest waiting frame of that content is acknowledged (R21). -/
def execD2dAck (dt : Nat) (link : Fin 3) (m : D2dMsg) (s : State) : Result :=
  let s := s.elapse dt
  .next (match takeFirst (fun w => w.is link m) s.d2d.wait with
    | some (_, r) => { s with d2d := { s.d2d with wait := r } }
    | none => s)

/-- HEARTBEAT_SEND: every 100 us, not while the command processor hangs (R22, R415). -/
def execHeartbeatSend (dt : Nat) (s : State) : Result :=
  let s := s.elapse dt
  .next (if s.dev.linksUp && s.clockRuns && s.dev.dead != some .hung && s.d2d.beatAt + 10000 ≤ s.clk then
    ({ s with d2d := { s.d2d with beatAt := s.clk } } : State).emit (.heartbeat s.time.n)
  else s)

/-- HEARTBEAT: it restarts the receiver's watch; a Quill whose mirror differs reports it: MIRROR_SLIP (R22, R42). A
Quill without its forwarded clock receives none. -/
def execHeartbeat (dt : Nat) (link : Fin 3) (instant : BitVec 48) (s : State) : Result :=
  let s := s.elapse dt
  .next (if link = 2 then { s with d2d := { s.d2d with ferruleHeard := some s.clk } }
    else
      let q : Fin 2 := Fin.ofNat 2 link.val
      if (s.quill q).stopped then s else
      let s := s.modQuill q fun k => { k with heardAt := some s.clk }
      if (s.quill q).mirror = instant then s else s.enterFault 2)

/-- When the die of a link last received a valid HEARTBEAT. -/
def State.heard (s : State) (link : Fin 3) : Option Nat :=
  if link = 2 then s.d2d.ferruleHeard else (s.quill (Fin.ofNat 2 link.val)).heardAt

/-- HEARTBEAT_TIMEOUT: none for 1 ms, which the die's oscillator may end from 0.95 ms on (R23, R42). -/
def execHeartbeatTimeout (dt : Nat) (link : Fin 3) (s : State) : Result :=
  let s := s.elapse dt
  .next (match s.heard link with
    | some t => if t + 95000 ≤ s.clk then s.allOff .running else s
    | none => s)

/-- A port stops with the Scribe's supply or clock; its packets are lost (R89, R491). -/
def Port.stopped (p : Port) : Port := { p with state := .disabled, bulk := {}, urgent := {} }

/-- Both ports stop, and lose what their buffers hold, the records that wait there for a full Nib queue included (R89,
R219, R491). -/
def State.stopPorts (s : State) : State :=
  { s with up := s.up.stopped, down := s.down.stopped, nib := { s.nib with held := [] } }

/-- SCRIBE_SUPPLY_FAULT; one that comes while the Scribe restarts loses the restart too (R23, R24, R491). -/
def execScribeSupplyFault (dt : Nat) (s : State) : Result :=
  let s := ((s.elapse dt).allOff .supply).stopPorts
  .next { s with dev := { s.dev with restart := 0 } }

/-- FORWARDED_CLOCK_STOP: alone, the Scribe keeps running and this Quill's mirror stands; with the core clock, its ports
stop (R19, R23, R491). In OFF no clock is forwarded. -/
def execForwardedClockStop (dt : Nat) (q : Fin 2) (coreClock : Bool) (s : State) : Result :=
  let s := s.elapse dt
  .next (if s.dev.code == .off then s else
    let s := s.allOff (if coreClock then .clock else .running)
    if coreClock then s.stopPorts
    else s.modQuill q fun k => { k with stopped := true })

/-- The Scribe as its core supply returns: all its state is lost but CAUSE, and it begins step 1b again (R24, R54). The
latches, the SHORT latches of the channels (R283) and the other states of the Quills and the Ferrule stand; RF_EN is low
with the baseband off (R362). The device state is lost with the rest: STARTING until FAULT, and no step of the start but 1b
and 1c runs. -/
def State.restarted (s : State) : State :=
  let r := State.reset
  let n := ({ r with
    pending := s.pending, out := s.out, clk := s.clk, freeCtr := s.freeCtr, power := s.power, fw := { s.fw with load := none }
    par := { r.par with store := s.par.store }, sw := s.sw } : State).startUp
  { n with
    dev := { r.dev with startStep := 0, stepAt := s.clk, dead := some .supply, restart := 2 }
    power := { s.power with faultNStart := false, rfEn := false }
    faults := {}
    d2d := { n.d2d with ferruleAllOff := true, line := true, ferruleHeard := s.d2d.ferruleHeard }
    vlv := { n.vlv with
      chans := s.vlv.chans
      quill0 := { s.vlv.quill0 with adjusts := [], steps := [] }
      quill1 := { s.vlv.quill1 with adjusts := [], steps := [] } } }

/-- A port that stopped with the core clock trains again. -/
def State.portsBack (s : State) : State :=
  let p (p : Port) : Port := if p.state == .disabled && s.dev.linksUp then
    { p with state := .training 1, trainAt := s.clk } else p
  { s with up := p s.up, down := p s.down }

/-- SCRIBE_RESUME: a Scribe that kept its state enters FAULT with ALL_OFF_LATCHED; one whose core supply was lost begins
step 1b, and enters FAULT after step 1c; a hung command processor does not resume, though its link engine works again
when only the core clock had stopped (R24, R491). In OFF there is nothing to resume (R5). -/
def execScribeResume (dt : Nat) (s : State) : Result :=
  let s := s.elapse dt
  .next (if s.dev.code == .off then s else
    match s.dev.dead with
    | none => s
    | some .hung => s
    | some .supply => if s.dev.hung || s.dev.restart ≠ 0 then s else s.restarted
    | some .clock =>
      if s.dev.hung then ({ s with dev := { s.dev with dead := some .hung } } : State).portsBack
      else (({ s with dev := { s.dev with dead := none } } : State).portsBack).enterFault 6
    | some .running => ({ s with dev := { s.dev with dead := none } } : State).enterFault 6)

/-- A range of byte addresses. -/
def inRegion (a lo hi : Nat) : Bool := decide (lo ≤ a) && decide (a ≤ hi)

/-- A frame of the ring or of a buffer is discarded and counted in RX_LOST (R16). -/
def dropAt {α : Type} (l : List α) (i : Nat) : List α := l.eraseIdx i

/-- Two bits in error in a word of the plant-bus regions: the frame there is discarded and counted (R16). Slots are taken
in the order of the lists (log entry 15). A frame of the transmit queue counts in TX_FLUSHED, since R16 names no counter
for it (DESIGN CHOICE, log entry 64). -/
def State.uncorrBus (s : State) (a : Nat) : State :=
  let b := s.bus
  if a < 0x188000 then
    let i := (a - 0x180000) / 32
    if i < b.ring.length then ({ s with bus := { b with ring := dropAt b.ring i } } : State).count 0x2109 false 1 else s
  else if a < 0x189000 then
    let i := (a - 0x188000) / 32
    if i < b.shadow.length then ({ s with bus := { b with shadow := dropAt b.shadow i } } : State).count 0x2109 false 1
    else s
  else if a < 0x18A000 then
    let i := (a - 0x189000) / 32
    if i < b.reading.length then
      ({ s with bus := { b with reading := dropAt b.reading i } } : State).count 0x2109 false 1
    else s
  else
    let i := (a - 0x18A000) / 32
    if i < b.tx.length then ({ s with bus := { b with tx := dropAt b.tx i } } : State).count 0x210A false 1 else s

/-- Two bits in error in a word of the GNSS regions: the samples of the word become zero; the dump or the record is discarded.
The navigation and measurement store holds the NEW queue, the STORED table and then the epochs, of at most 66 words each (R16,
R390-R392; log entry 15). -/
def State.uncorrGnss (s : State) (a : Nat) : State :=
  let g := s.gnss
  let i := (a - 0x320000) / 56
  { s with gnss :=
      if inRegion a 0x200000 0x2FFFFF then { g with buffer := zeroBlock g.buffer ((a - 0x200000) / 8) }
      else if inRegion a 0x300000 0x31FFFF then { g with ring := dropAt g.ring ((a - 0x300000) / 24) }
      else if i < 256 then { g with nav := dropAt g.nav i }
      else if i < 416 then { g with table := dropAt g.table (i - 256) }
      else { g with meas := dropAt g.meas ((a - 0x320000 - 416 * 56) / 528) } }

/-- Two bits in error in a word of the shared SRAM, by region (R13, R16). -/
def State.uncorrAt (s : State) (a : Nat) : State :=
  if inRegion a 0x1B0000 0x1FFFFF then s
  else
    let s := s.uncorrected
    if inRegion a 0x140000 0x17FFFF then s.selfAbandon 3
    else if inRegion a 0x180000 0x18BFFF then s.uncorrBus a
    else if inRegion a 0x18C000 0x19BFFF then
      let i := (a - 0x18C000) / 8192
      { s with dog := { s.dog with slots := s.dog.slots.mapFinIdx fun j x _ =>
        if j = i && x.st == .full then { x with st := .damaged } else x } }
    else if inRegion a 0x19C000 0x1ABFFF then s.uncorrLog ((a - 0x19C000) / 16)
    else if inRegion a 0x200000 0x33FFFF then s.uncorrGnss a
    else s.enterFault 0

/-- The scrubber may read the word at its position: the words of a pass lie evenly over the scrub period, and a pass
begins when the one before it has had its period (R15, R31). -/
def State.scrubDue (s : State) : Bool :=
  s.dev.linksUp && s.clockRuns &&
  match s.d2d.scrubAt with
  | none => true
  | some t =>
    let p := s.d2d.scrubPeriod * 100000000
    if s.d2d.scrubPos = 0 then decide (t + p ≤ s.clk) else decide (t + s.d2d.scrubPos / 8 * p / 524288 ≤ s.clk)

/-- The scrubber goes on to the next word; the first of a pass notes its beginning and takes the period (R15, R31). -/
def State.scrubNext (s : State) : State :=
  let d := s.d2d
  { s with d2d := { d with
    scrubPos := (d.scrubPos + 8) % 0x400000
    scrubPeriod := if d.scrubPos = 0 then s.pf 0x12 7 0 else d.scrubPeriod
    scrubAt := if d.scrubPos = 0 then some s.clk else d.scrubAt } }

/-- SCRUB: the next word of the pass, when it is due (R14-R16, R31). The write-back yields to an initiator's write, and
changes no content the model holds (log entry 15). -/
def execScrub (dt : Nat) (found : Ecc) (rewritten : Bool) (s : State) : Result :=
  let s := s.elapse dt
  let a := s.d2d.scrubPos
  .next (if !s.scrubDue then s else
    let s := s.scrubNext
    match found, rewritten with
    | .corrected, _ => s.corrected
    | .uncorrectable, _ => s.uncorrAt a
    | _, _ => s)

end Sys2Proof.Machine
end

