-- ==== Sys2Proof/Machine/DogOps.lean ====
section
/-! DEFINITION. The Sheepdog: busy engines, the job abort, its relays, and the start of a recall (R414-R424, R428-R431,
R435). -/

namespace Sys2Proof.Machine

/-- Job of an engine (R414); the command processor belongs to none. -/
def jobOf (e : Fin 10) : Option (Fin 5) :=
  if e.val < 4 then some 0 else if e.val < 6 then some 1 else if e.val = 6 then some 2
  else if e.val = 7 then some 3 else if e.val = 8 then some 4 else none

/-- Lowest engine of a job, and the number of its engines. -/
def jobEngines (j : Fin 5) : Fin 10 × Nat :=
  match j with
  | 0 => (0, 4)
  | 1 => (4, 2)
  | 2 => (6, 1)
  | 3 => (7, 1)
  | 4 => (8, 1)

/-- The Nib input queue of a bank. -/
def Nib.queue (n : Nib) (b : Bank) : List NibRec :=
  match b with
  | 0 => n.qA
  | 1 => n.qB
  | 2 => n.qC
  | 3 => n.qD

/-- The Nib input queue of a bank changed. -/
def Nib.setQueue (n : Nib) (b : Bank) (q : List NibRec) : Nib :=
  match b with
  | 0 => { n with qA := q }
  | 1 => { n with qB := q }
  | 2 => { n with qC := q }
  | 3 => { n with qD := q }

/-- Records that wait in the four queues. -/
def Nib.waiting (n : Nib) : Nat := n.qA.length + n.qB.length + n.qC.length + n.qD.length

/-- Engine of a bank. -/
def nibEngine (b : Bank) : Fin 10 := ⟨b.val, by omega⟩

/-- The valve of a REPORT. -/
def reportValve : D2dMsg → Option Valve
  | .swellEnd r => some r.valve
  | .off r => some r.valve
  | _ => none

/-- The number of the open sort job; 0 when none. -/
def State.sortJob (s : State) : Nat := if s.inState [.sorting, .draining] then s.dev.job else 0

/-- A Nib engine is busy with work older than `l` core ticks: a queued record since its last mark, an event past its arming
point, a REPORT that waits (R416, R417). -/
def State.nibHangs (s : State) (b : Bank) (l : Nat) : Bool :=
  let old (e : Event) : Bool :=
    decide (e.cOn - s.tCommit ≤ s.full) && decide (l ≤ s.ranSince (s.tickOf (e.cOn - s.tCommit)))
  (!(s.nib.queue b).isEmpty) ||
  (s.nib.events.any fun e => bankOf e.valve == b && e.st == .pending && old e) ||
  (s.d2d.wait.any fun w => match reportValve w.msg with
    | some v => bankOf v == b && decide (l ≤ s.ranSince w.sentAt)
    | none => false)

/-- The engine is busy (R416). For a Nib engine the work is judged against its Leash. -/
def State.busy (s : State) (e : Fin 10) (l : Nat) : Bool :=
  match e with
  | 0 => s.nibHangs 0 l
  | 1 => s.nibHangs 1 l
  | 2 => s.nibHangs 2 l
  | 3 => s.nibHangs 3 l
  | 4 => s.gnss.running.isSome || s.gnss.reacqOn.isSome
  | 5 => !s.gnss.ring.isEmpty
  | 6 => s.logBusy
  | 7 => decide (fld s.bus.word 1 0 ≠ 0)
  | 8 => s.portUp .up || s.portUp .down
  | 9 => s.dev.code != .off && !(s.dev.code == .starting && decide (s.dev.startStep ≤ 3))

/-- The RESTART field of an abort: AUTO, COMMAND, or none for the policy (R434, R442). -/
def restartOf (f : Nat) : Option Bool := if f = 1 then some true else if f = 2 then some false else none

/-- The records that wait in the Nib input queues, or for one, are discarded; the words that a port held for them are
freed (R219, R246, R428). Answers their number: a record that waits in several queues is one record. -/
def State.dropRecords (s : State) : Nat × State :=
  let all := (s.nib.qA ++ s.nib.qB ++ s.nib.qC ++ s.nib.qD ++ s.nib.held.map (·.1)).map (·.no)
  let n := all.eraseDups.length
  let held := s.nib.held
  let s := { s with nib := { s.nib with qA := [], qB := [], qC := [], qD := [], held := [] } }
  (n, held.foldl (fun s h => s.recordWords h.1 false) s)

/-- The job abort of R428, at most once for each opening, before the check for the end of DRAINING; answers how many
events retired ABORTED. -/
def State.abortJob (s : State) (restart : Nat) : Nat × State :=
  if !s.inState [.sorting, .draining] || s.dog.aborted then (0, s) else
  let (drops, s) := s.armDue.dropRecords
  let s := { s with dog := { s.dog with aborted := true, auto := restartOf restart } }
  let s := (s.count 0x2412 false drops).count 0x2412 true 1
  let live := (s.nib.events.filter fun e => e.st != .retiring).length
  let s := s.retireUnarmed (fun _ => true) .aborted
  let n := live - (s.nib.events.filter fun e => e.st != .retiring).length
  let s := if s.dev.code == .sorting then s.enter .draining 4 else s.stateRec s.dev.code 4
  (n, s.moveGate (s.pf 0x2011 4 4 = 1))

/-- The relay packets of R430: up to the host, down to an address when it lies beyond this device. -/
def State.relay (s : State) (job reason restart : Nat) (up : Bool) (down : Nat) : State :=
  let w := fields [(23, 21, reason), (20, 20, 1), (19, 18, restart), (15, 0, job)]
  let s := s.noteSent 0x93
  let s := if up then s.send .up 0 0x93 0 true true [w] else s
  if s.dev.addr.toNat < down then s.send .down (BitVec.ofNat 6 down) 0x93 0 true true [w] else s

/-- CHAIN_LENGTH. -/
def State.chainLength (s : State) : Nat := s.pf 0x34 5 0

/-- The free slot of lowest number (R423). -/
def State.freeSlot (s : State) : Option (Fin 8) := (List.finRange 8).find? fun i => s.dog.slots[i].st == .free

/-- What waits in a class is discarded: forwarded packets, whose words the other port's receive buffer frees at once, and
unless `keep` this device's own (R18, R81, R89). Answers the words freed. -/
def Lane.emptied (l : Lane) (keep : Bool) : Nat × List TxPacket :=
  (l.stored.foldl (fun n t => n + t.holds) 0, if keep then l.stored.filter fun t => t.holds == 0 else [])

/-- What a port held is discarded: the packets that wait or await an ACK, those received on it that wait in the other port,
the detection records whose words stand in its receive buffer for a full Nib queue (R219), and the credits and numbers of
both classes; completions that awaited an ACK are lost (R89, R106, R126, R425). `keep` leaves the packets of this device's
own, which the link transmit staging of the shared SRAM holds (R18, R425). -/
def State.clearPort (s : State) (p : Side) (keep : Bool) : State :=
  let q := s.port p
  let lost := ((q.bulk.replay ++ q.urgent.replay).filter (·.isCompl)).length
  let s := s.count 0x44 false lost
  let s := { s with nib := { s.nib with held := s.nib.held.filter fun h => h.1.port != p } }
  let mine (l : Lane) : Lane := { l with stored := l.stored.filter fun t => t.holds == 0 }
  let o := otherSide p
  let s := s.modPort o fun x => { x with bulk := mine x.bulk, urgent := mine x.urgent }
  let s := (s.freeRx o false (q.bulk.emptied keep).1).freeRx o true (q.urgent.emptied keep).1
  s.modPort p fun x => { x with
    bulk := { stored := (q.bulk.emptied keep).2 }, urgent := { stored := (q.urgent.emptied keep).2 } }

/-- No engine of a job waits or holds a synchronisation object any more (R421). -/
def Sheepdog.freed (d : Sheepdog) (j : Fin 5) : Sheepdog :=
  { d with
    engines := Vector.ofFn fun i => if jobOf i = some j then { d.engines[i] with wait := none } else d.engines[i]
    objects := mapIf (fun o => decide (o.2.bind jobOf = some j)) (fun o => (o.1, none)) d.objects }

/-- The reset of step 4: what the job's scratchpads and control states hold is lost, and the synchronisation objects that its
engines hold are free (R18, R421, R425). The running ACQUIRE, the LOG_READ and the state of the bus wait for the resumption,
which ends them. -/
def State.resetJob (s : State) (j : Fin 5) : State :=
  let s := { s with dog := s.dog.freed j }
  match j with
  | 0 => { s with nib := { s.nib with qA := [], qB := [], qC := [], qD := [] } }
  | 1 => { s with gnss := { s.gnss with blocks := {} } }
  | 2 => { s with log := { s.log with burst := 0 } }
  | 3 => { s with bus := { s.bus with tec := 0, rec_ := 0 } }
  | 4 => (s.clearPort .up true).clearPort .down true

/-- The first recall that is not collected begins its collection, in a slot; without one its reset follows at once, and
the next recall begins (R422, R423). `n` recalls at most. -/
def State.collectNext (s : State) : Nat → State
  | 0 => s
  | n + 1 =>
    match s.dog.recalls.find? fun r => !r.collected with
    | none => s
    | some r =>
      if r.slot.isSome then s else
      let done (s : State) : State :=
        let rs := mapIf (fun x => x.job == r.job) (fun x => { x with collected := true }) s.dog.recalls
        ({ s with dog := { s.dog with recalls := rs } } : State).resetJob r.job
      match r.collect with
      | none => (done s).collectNext n
      | some _ =>
        match s.freeSlot with
        | none => (done (s.count 0x2411 false 1)).collectNext n
        | some i => { s with dog := { s.dog with
            slots := s.dog.slots.set i { st := .collecting, words := [] }
            recalls := mapIf (fun x => x.job == r.job) (fun x => { x with slot := some i.val }) s.dog.recalls } }

/-- A recall starts: freeze, job abort with its cascade, and the collection when the collector is free. The cascade leaves
for an opening that was aborted before too (R430, log entry 30). `handle` is the handle an ENGINE_RESET has taken, with
its destination (R421-R424). -/
def State.startRecall (s : State) (j : Fin 5) (e : Fin 10) (cause : Nat) (collect : Option Bool)
    (waiter holder : Option (Fin 10)) (object : BitVec 13) (handle : Option HandleId) (dst : Addr) : State :=
  let s := if j = 0 then s.armDue else s
  let job := s.sortJob
  let r : Recall :=
    { job := j, engine := e, cause, detect := s.time.n, era := s.time.e, detectAt := s.clk, handle, dst,
      sortJob := job, collect, collected := false, slot := none, waiter, holder, object,
      aborted := j = 0 && job ≠ 0, seq := s.dog.seq + 1, stepped := 0 }
  let s := { s with
    dog := { s.dog with recalls := s.dog.recalls ++ [r], seq := s.dog.seq + 1 }
    power := { s.power with faultNRecall := some s.clk } }
  let s := if r.aborted then
      let s := (s.abortJob 0).2.drainCheck
      s.relay job 1 0 true s.chainLength
    else s
  s.collectNext 5

/-- A recall that no command asked for, in a job that is not being recalled: with a handle, if one is free, whose
completion goes to NOTIFY (R418, R422, R424, R443). -/
def State.recall (s : State) (e : Fin 10) (cause : Nat) (waiter holder : Option (Fin 10)) (object : BitVec 13) : State :=
  match jobOf e with
  | none => s
  | some j =>
    if s.frozen j then s else
    let dst := BitVec.ofNat 6 (s.pf 0x2410 37 32)
    let collect : Option Bool := some (decide (s.pf 0x2410 j.val j.val = 1))
    match s.takeRs 0x92 dst .armed with
    | some (h, s) => s.startRecall j e cause collect waiter holder object (some h) dst
    | none => (s.count 0x2413 false 1).startRecall j e cause collect waiter holder object none dst

/-- A hang is detected: in a job that is not being recalled it counts, and the job is recalled (R417-R419, R422). -/
def State.hang (s : State) (e : Fin 10) (cause : Nat) (waiter holder : Option (Fin 10)) (object : BitVec 13) : State :=
  match jobOf e with
  | none => s
  | some j => if s.frozen j then s else (s.count 0x2411 true 1).recall e cause waiter holder object

/-- The Sheepdog watches: after step 1c, in every state, while the core clock runs (R420). -/
def State.watching (s : State) : Bool :=
  s.clockRuns && s.dev.code != .off && !(s.dev.code == .starting && decide (s.dev.startStep ≤ 3))

/-- What an engine's access to the shared SRAM or its scratchpad finds (R14, R16, R17, R419): `lost` is the region's
answer to two bits in error. Answers whether the access goes on. -/
def State.engineRead (s : State) (e : Fin 10) (found : Ecc) (lost : State → State) : Bool × State :=
  match found with
  | .clean => (true, s)
  | .corrected => (true, s.corrected)
  | .uncorrectable => (false, lost s.uncorrected)
  | .scratchpad => (false, s.hang e 3 none none 0)

end Sys2Proof.Machine
end

