-- ==== Sys2Proof/Machine/LinkOps.lean ====
section
/-! DEFINITION. The Lingaris ports: CRC, credits, replay, routing, training and loss of a port, cut-off (R67-R89,
R99-R104, R126). -/

namespace Sys2Proof.Machine

/-! ### Fields of a header (R107) -/

/-- DST of a header. -/
def hDst (h : Word) : Nat := fld h 47 42
/-- SRC of a header. -/
def hSrc (h : Word) : Nat := fld h 41 36
/-- OPC of a header. -/
def hOpc (h : Word) : Nat := fld h 35 28
/-- LEN of a header. -/
def hLen (h : Word) : Nat := fld h 13 6
/-- TAG of a header. -/
def hTag (h : Word) : BitVec 14 := BitVec.ofNat 14 (fld h 27 14)
/-- REPLY of a header. -/
def hReply (h : Word) : Bool := bit h 5
/-- URGENT of a header. -/
def hUrgent (h : Word) : Bool := bit h 0

/-- A request packet, as core 0 meets it. -/
def asRequest (p : Side) (k : Packet) : Request :=
  { port := p, dst := BitVec.ofNat 6 (hDst k.header), src := BitVec.ofNat 6 (hSrc k.header), tag := hTag k.header
    noreply := bit k.header 1, urgent := hUrgent k.header, words := k.words }

/-! ### Sending -/

/-- A slot is sent or received on a trained port: the link engine's mark of progress (R416). -/
def State.slot (s : State) : State := s.mark 8

/-- What a read of a buffer of the link engine finds: of its receive and replay buffers, the engine's scratchpad (R17, R419),
or of the link transmit staging in the shared SRAM (R16). -/
def State.linkRead (s : State) (ecc : Ecc) : Bool × State := s.engineRead 8 ecc fun s => s.enterFault 0

/-- Words of a packet that use credits and the replay buffer (R79, R82). -/
def TxPacket.size (t : TxPacket) : Nat := t.words.length + 2

/-- Words in the replay buffer of a port. -/
def Port.replayWords (p : Port) : Nat := (p.bulk.replay ++ p.urgent.replay).foldl (fun a t => a + t.size) 0

/-- The port may send a new packet now: it is trained, holds the credits, the replay buffer has room, and no packet of the
class must go out again before it (R79, R82, R84). -/
def Port.maySend (p : Port) (urgent : Bool) (t : TxPacket) : Bool :=
  p.state == .up && decide (t.size ≤ (p.lane urgent).held) && decide (p.replayWords + t.size ≤ 2048)
    && (p.lane urgent).replay.all fun x => !x.owed

/-- Words of a class go out: credits are given up (R79). -/
def Lane.spend (l : Lane) (n : Nat) : Lane := { l with sent := l.sent + BitVec.ofNat 12 n, held := l.held - n }

/-- A packet goes out with the class's next link sequence number and waits for its ACK (R70, R82). -/
def State.sendOut (s : State) (p : Side) (urgent : Bool) (t : TxPacket) : State :=
  let seq := ((s.port p).lane urgent).txSeq
  let t := { t with seq, sentAt := s.clk, resends := 0 }
  let s := s.modPort p fun q => q.modLane urgent fun l =>
    { l.spend t.size with txSeq := l.txSeq + 1, replay := l.replay ++ [t] }
  s.emit (.packet p t.header t.words (crcWord t.header t.words seq))

/-- The packets of a class that must go out again do so, oldest first, as far as credits reach; each counts in REPLAY
(R79, R84, R105). -/
def State.sendAgain (s : State) (p : Side) (urgent : Bool) : List TxPacket → State
  | [] => s
  | t :: r =>
    if !t.owed then s.sendAgain p urgent r
    else if ((s.port p).lane urgent).held < t.size then s
    else
      let again (x : TxPacket) : TxPacket := { x with sentAt := s.clk, resends := x.resends + 1, owed := false }
      let s := s.modPort p fun q => q.modLane urgent fun l =>
        { l.spend t.size with replay := mapIf (fun x => x.seq == t.seq) again l.replay }
      let s := s.count (if p == .up then 0x35 else 0x36) false 1
      (s.emit (.packet p t.header t.words (crcWord t.header t.words t.seq))).sendAgain p urgent r

/-- Every packet of the class that is not acknowledged must go out again, in order (R84). -/
def State.replayClass (s : State) (p : Side) (urgent : Bool) : State :=
  let s := s.modPort p fun q => q.modLane urgent fun l => { l with replay := l.replay.map fun x => { x with owed := true } }
  s.sendAgain p urgent ((s.port p).lane urgent).replay

/-- The packets of a class that an ACK of `seq` covers leave the replay buffer (R82). -/
def Lane.acked (l : Lane) (seq : BitVec 12) : Lane :=
  { l with replay := l.replay.filter fun t => decide (2048 ≤ (seq - t.seq).toNat) }

/-! ### Ports -/

/-- The device has a port that is down on a side: it never trained, was lost or is held (R73, R88). -/
def State.portIsDown (s : State) (p : Side) : Bool :=
  match (s.port p).state with
  | .up => false
  | .retraining _ => false
  | _ => true

/-- The link engine works: its links are enabled, the core clock runs and no LINK recall holds it (R415, R421, R491). -/
def State.linkRuns (s : State) : Bool := s.dev.linksUp && s.dev.code != .off && s.clockRuns && !s.frozen 4

/-- An ARMED stage is abandoned when the up port is lost or retrains, or the device is cut off (R460). -/
def State.upAbandon (s : State) : State := if s.stage.st == .armed then s.selfAbandon 2 else s

/-- The port retrains, and is not down yet (R86, R89). -/
def State.retrain (s : State) (p : Side) : State :=
  let s := if p == .up then s.upAbandon else s
  (((s.clearPort p false).modPort p fun q => { q with state := .retraining 1, trainAt := s.clk }).emit (.train p 1)).drainCheck

/-- The device is cut off (R100, R103, R200): in SORTING it drains; a restart that waits is dropped; the source CHAIN holds
over. -/
def State.cutOffNow (s : State) : State :=
  let s := ({ s with
    dev := { s.dev with cutOff := true }
    dog := { s.dog with restartAt := none, auto := some false } } : State).upAbandon
  let s := if s.time.source = 1 then s.enterHoldover else s
  if s.dev.code == .sorting then (s.drain 3).drainCheck else s

/-- The master meets a break below it while the job runs: BREAK_POLICY ABORT aborts the job on every device still
connected, with the master as origin (R101, R430). -/
def State.breakPolicy (s : State) (addr : Nat) : State :=
  if s.dev.master && s.inState [.sorting, .draining] && s.pf 0x31 0 0 = 1 then
    let job := s.dev.job
    let s := (s.abortJob 0).2.drainCheck
    s.relay job 2 0 true addr
  else s

/-- A port is lost: it is counted, what it held is discarded, it sends TRAIN, unless it is held after eight losses in
1 s (R88, R89); BREAK goes out on the other port, from the master in every state when the up port is lost (R99, R102);
and the loss of the up port cuts the device off and abandons its stage (R100, R460). -/
def State.portLoss (s : State) (p : Side) (keep : Bool) : State :=
  let s := s.clearPort p keep
  let s := s.count 0x37 (p == .up) 1
  let losses := (s.port p).losses.filter (fun t => decide (s.clk < t + 100000000)) ++ [s.clk]
  let hold := decide (8 ≤ losses.length)
  let s := s.modPort p fun q =>
    { q with losses, symErrs := [], trainAt := s.clk, holdAt := if hold then s.clk else q.holdAt
             state := if hold then .held else .training 1 }
  let s := if hold then s else s.emit (.train p 1)
  let s := if (s.working || (s.dev.master && p == .up)) && s.portUp (otherSide p) then
      s.emit (.brk (otherSide p) s.dev.addr (p == .down))
    else s
  match p with
  | .up => s.cutOffNow.drainCheck
  | .down => (s.breakPolicy s.dev.addr.toNat).drainCheck

/-! ### Routing (R72) -/

/-- What a device does with a packet that arrives: consume it, and the port to forward it on. -/
structure Way where
  consume : Bool := false
  out     : Option Side := none
deriving DecidableEq, Repr

/-- The way of a packet by its DST, from the side on which it arrives. -/
def State.wayOf (s : State) (side : Side) (dst : Nat) : Way :=
  let a := s.dev.addr.toNat
  if dst = 0 then { out := some .up }
  else if dst = 62 then { consume := true, out := some (otherSide side) }
  else if dst = 63 then (if a = 63 then { consume := true } else { out := some (otherSide side) })
  else if 32 < dst then {}
  else if a = 63 then { out := some (otherSide side) }
  else if dst = a then { consume := true }
  else { out := some (if dst < a then .up else .down) }

/-- The port on which this device sends a packet of its own to an address (R72); none for its own address. -/
def State.ownWay (s : State) (dst : Nat) : Option Side :=
  let a := s.dev.addr.toNat
  if dst = a then none
  else if dst = 0 then some .up
  else if dst = 63 then some .down
  else if a = 63 then some .up
  else some (if dst < a then .up else .down)

/-- A packet is forwarded by cut-through, or waits in the output port (R74). -/
def State.forward (s : State) (side out : Side) (urgent : Bool) (t : TxPacket) : State :=
  let q := s.port out
  if (q.lane urgent).stored.isEmpty && q.maySend urgent t then (s.sendOut out urgent t).freeRx side urgent t.size
  else s.modPort out fun q => q.modLane urgent fun l => { l with stored := l.stored ++ [{ t with holds := t.size }] }

end Sys2Proof.Machine
end

