-- ==== Sys2Proof/Machine/TimeCmds.lean ====
section
/-! DEFINITION. Time commands, steps, chain time, PPS and the calendar's events (R186-R215, R490). -/

namespace Sys2Proof.Machine

/-- The first `n` elements counted from the newest, which stands first. -/
def ppsWords (l : List PpsRec) (n : Nat) : List Word := (l.take n).flatMap fun p => [p.w0, p.w1, p.w2]

/-- TIME_GET (R185-R187). -/
def execTimeGet (dt : Nat) (r : Request) (s : State) : Result :=
  let s := s.elapse dt
  let i : OpInfo := { opc := 0x80, urgent := true, bcast := false, fault := true, minLen := 0, maxLen := 1 }
  let sel := fld (arg r 0) 1 0
  let n := fld (arg r 0) 12 8
  let c6 := firstRej [rejIf (sel = 3) (badParam 0 0),
    rejIf ((sel = 1 || sel = 2) && !(decide (1 ≤ n) && decide (n ≤ 16))) (badParam 0 8)]
  .next (s.serve i r none none c6 none fun s =>
    if sel = 0 then
      let v := s.shown
      let t := v.time
      let (th, s) := s.wordOf t.theta
      s.reply 0x80 r .ok 0 0 [t.n,
        fields [(47, 32, t.e.toNat), (31, 31, b2n t.calValid), (30, 30, b2n v.calLimit), (29, 29, b2n t.holdover),
          (28, 28, b2n !t.pending.isEmpty), (27, 25, t.source.toNat), (9, 0, v.fraction)],
        fields [(47, 24, unsign 24 t.rho), (23, 0, unsign 24 t.rhoFreq)], th]
    else
      let l := if sel = 1 then s.pps.reports else s.pps.captures
      let k := min n l.length
      s.reply 0x80 r (if k < n then .partialDone else .ok) 0 (if k < n then k else 0) (ppsWords l k))

/-- The device's Mirjan role in the working copy of 2101h (R340). -/
def State.role (s : State) : Nat := s.pf 0x2101 47 46

/-- TIME_SOURCE (R197, R198, R200, R210). -/
def execTimeSource (dt : Nat) (r : Request) (s : State) : Result :=
  let s := s.elapse dt
  let i : OpInfo := { opc := 0x81, urgent := false, bcast := false, fault := false, minLen := 1, maxLen := 1 }
  let src := fld (arg r 0) 2 0
  let c5 := rejIf ((src = 1 && s.dev.master) || (src = 2 && s.role ≠ 1)) s.badState
  .next (s.serve i r none c5 (rejIf (decide (5 ≤ src)) (badParam 0 0)) none fun s =>
    let was := s.time.holdover
    let s := { s with time := { s.time with
      source := BitVec.ofNat 3 src, forceStep := bit (arg r 0) 8, lastOffset := none, overs := 0, theta := 0
      chainSet := false, heardAt := s.clk, holdover := src = 1 && was } }
    let s := s.setRho s.time.rhoFreq 0
    let s := if src = 1 then s.enterHoldover else s
    (s.timeRec s.full 2 s.time.theta).ok 0x81 r)

/-- A step of the time base is scheduled outside the filter: the phase term goes (R191, R201). -/
def State.stepNow (s : State) (amount : Int) : State :=
  (({ s with time := { s.time with overs := 0 } } : State).setRho s.time.rhoFreq 0).scheduleStep amount true

/-- CALENDAR_SET (R191, R490). -/
def execCalendarSet (dt : Nat) (r : Request) (s : State) : Result :=
  let s := s.elapse dt
  let i : OpInfo := { opc := 0x82, urgent := false, bcast := false, fault := false, minLen := 2, maxLen := 2 }
  let c5 := firstRej [rejIf (s.time.source = 1 || s.time.source = 2) s.badState,
    rejIf (!s.time.pending.isEmpty) (some (.busy, 0))]
  let date := s.calToFull (arg r 0)
  let at_ := s.resolve (arg r 1)
  let c6 := match date with
    | none => some (.badDate, 0)
    | some d => rejIf (decide (d + (s.full - at_) < 0)) (some (.badDate, 0))
  .next (s.serve i r none c5 c6 none fun s =>
    match date with
    | none => s
    | some d =>
      let s := s.stepNow ((d - at_) * 2 ^ 32 - (s.time.phi.toNat : Int))
      let tick := match s.nextStep? with
        | some p => s.afterStep p / 2 ^ 32
        | none => 0
      s.reply 0x82 r .ok 0 0 [word (unsign 48 tick), word (unsign 16 (tick / 2 ^ 48))])

/-- CALENDAR_GET (R185, R192, R193); before 2000 the spec gives no year, and the word is free (log entry 12). -/
def execCalendarGet (dt : Nat) (r : Request) (s : State) : Result :=
  let s := s.elapse dt
  let i : OpInfo := { opc := 0x83, urgent := false, bcast := false, fault := true, minLen := 0, maxLen := 0 }
  .next (s.serve i r none none none none fun s =>
    let v := s.shown
    let (w, s) := if v.full / 100000000 - v.leapCount < 0 then s.freeWord else (v.calNow, s)
    s.reply 0x83 r (if v.calLimit then .calendarLimit else .ok) 0 0 [w, v.time.n,
      fields [(18, 17, v.pf 0x106 17 16), (16, 16, b2n v.time.calValid), (15, 0, v.time.e.toNat)]])

/-- DISCIPLINE (R206). The steps applied after AT are subtracted, as R206 and R490 say. An instant that the time base has
passed twice, before a negative step and after it, is the later one; the step tick of the reply is in the new scale, and 0
when no step was scheduled (DESIGN CHOICE, log entry 75). -/
def execDiscipline (dt : Nat) (r : Request) (s : State) : Result :=
  let s := s.elapse dt
  let i : OpInfo := { opc := 0x84, urgent := false, bcast := false, fault := false, minLen := 4, maxLen := 4 }
  let at_ := s.resolve (arg r 0)
  let freq := sfld (arg r 2) 31 0
  let valid := bit (arg r 3) 0
  let force := bit (arg r 3) 1
  let c6 := firstRej [rejIf (decide (s.full < at_)) (badParam 0 0),
    rejIf (decide (200000000 < s.full - at_)) (some (.tooLate, 0)),
    rejIf (decide (500000000 < freq.natAbs)) (badParam 2 0)]
  .next (s.serve i r none (rejIf (s.time.source ≠ 0 && s.time.source ≠ 3) s.badState) c6 none fun s =>
    let since := s.tickOf at_
    let phase : Rat := (sfld (arg r 1) 47 0 : Rat)
    let drift : Rat := if valid then (freq : Rat) * ((s.full - at_ : Int) : Rat) / 1000000000 else 0
    let (theta, s) := s.quantise (phase + drift - s.stepsSince since)
    let (stepped, s) := (s.sourceHeard s.clk).filter theta s.sinceOffset (force || s.time.forceStep) (if valid then some freq else none) false
    let tick := match stepped, s.nextStep? with
      | true, some p => s.afterStep p / 2 ^ 32
      | _, _ => 0
    s.reply 0x84 r .ok 0 (b2n stepped) [word (unsign 48 tick)])

/-! ### Steps -/

/-- An instant of the future moves with a step. -/
def moved (now d x : Int) : Int := if now ≤ x then x + d else x

/-- The pulse of an event re-based by a step (R204). -/
def Event.shift (e : Event) (d : Int) : Event := { e with cOn := e.cOn + d, cOff := e.cOff + d, cOff0 := e.cOff0 + d }

/-- An event that is not armed, or that rides on one: its camera instant moves with its pulse (section 7.6). -/
def Event.shiftAll (e : Event) (d : Int) : Event := { e.shift d with cam := e.cam + d }

/-- An event, or its carrier, is armed. -/
def State.isArmed (s : State) (e : Event) : Bool :=
  e.st == .armed || (e.st == .passenger && s.nib.events.any fun x => e.carrier == some x.id && x.st == .armed)

/-- An offered frame's slot start re-based by a step of this tick. -/
def Offer.shift (o : Offer) (clk : Nat) (d : Int) : Offer := { o with start := o.start + d, moves := o.moves ++ [(clk, d)] }

/-- Every instant that the part holds for the future moves by the change of N (R204); while a SORT recall runs, the
entries not armed move at its end (R426). `now` is the full time before the step. -/
def State.rebase (s : State) (now d : Int) : State :=
  let frozen := s.frozen 0
  { s with
    nib := { s.nib with events := s.nib.events.map fun e =>
      if e.st == .retiring then e else if s.isArmed e then e.shift d else if frozen then e else e.shiftAll d }
    vlv := { s.vlv with tests := s.vlv.tests.map fun t => { t with cOn := t.cOn + d } }
    stage := { s.stage with
      at_ := s.stage.at_ + d
      lastAt := if s.stage.lastAt = 0 then 0 else s.stage.lastAt + d
      commit := s.stage.commit.map fun c => { c with at_ := c.at_ + d } }
    par := { s.par with work := tput s.par.work 0x2501 (tval s.par.work 0x2501 + BitVec.ofInt 48 d) }
    bus := { s.bus with
      ref := s.bus.ref.map (·.shift s.clk d), fup := s.bus.fup.map (·.shift s.clk d)
      slotOn := s.bus.slotOn.map fun o => (o.1.shift s.clk d, o.2)
      origin := s.bus.origin + d
      paired := s.bus.paired.map fun p => (p.1, p.2.1, p.2.2 + d)
      refs := s.bus.refs.map fun r => { r with slot0 := r.slot0.map (· + d) } }
    gnss := { s.gnss with
      aids := s.gnss.aids.map fun a => (a.1, { a.2 with until_ := moved now d a.2.until_ })
      running := s.gnss.running.map fun a =>
        ({ a.1 with tCap := a.1.tCap.map (· + d * 1000) },
          match a.2 with
          | .waits x => .waits (x + d)
          | p => p) }
    dog := { s.dog with recalls := s.dog.recalls.map fun x => { x with stepped := x.stepped + d } } }

/-- Steps for a later boundary are placed again in the new scale, at the boundary that follows (R203). -/
def State.replan (s : State) (l : List PendingStep) : State :=
  let s := { s with time := { s.time with pending := [] } }
  l.foldl (fun s p => s.scheduleStep p.amount p.sets) s

/-- A step applies: N, E and phi at once, and all that follows on its tick (R62, R189, R193, R203-R205, R209, R400, R455). -/
def State.applyStep (s : State) (p : PendingStep) (rest : List PendingStep) : State :=
  let a := stepAmount s.fine p.amount
  let before := s.full
  let keep := s.keptFrom
  let t := (s.time.turned s.clk s.fine [(s.clk, s.fine + a, s.time.rho)]).setFine (s.fine + a)
  let s := { s with time := { t with
    announced := false, pending := []
    prev := min s.time.prev ((s.fine + a) / 2 ^ 32 - 1)
    calValid := s.time.calValid || p.sets
    history := (s.time.history.filter fun (h : Nat × Int) => decide (s.clk < h.1 + 300000000) || decide (keep ≤ h.1)) ++ [(s.clk, a)]
    markDue := s.time.markDue || s.dev.master } }
  let s := s.rebase before (s.full - before)
  let s := { s with
    clocks := { s.clocks with stepSince := true }
    pps := { s.pps with stepOut := true, stepIn := true }
    bus := { s.bus with refs := s.bus.refs.map fun (r : RefSeen) => { r with edge := r.edge + a * 1000 / 2 ^ 32 } } }
  let s := (s.count 0x109 true 1).replan rest
  let (ticks, s) := s.quantise ((a : Rat) / 2 ^ 32)
  s.timeRec s.full 1 ticks

/-- STEP_APPLY: the first tick that reaches the boundary (R181, R203). -/
def execStepApply (dt : Nat) (s : State) : Result :=
  let s := s.elapse dt
  .next (match s.time.pending with
    | [] => s
    | p :: rest => if s.clockRuns && p.boundary ≤ s.full then s.applyStep p rest else s)

/-- The first insertion or deletion within `n` ticks at a constant rate: after how many ticks, and whether it is a deletion
(R180). -/
def turnIn (x rho : Int) (n : Nat) : List (Nat × Bool) :=
  let phi := x % 2 ^ 32
  let k := if 0 < rho then ceilDiv (2 ^ 32 - phi).toNat rho.toNat else if rho < 0 then (phi / -rho).toNat + 1 else n + 1
  if k ≤ n then [(k, decide (0 < rho))] else []

/-- The insertions and deletions in the ticks from `clk` to `fin`, by tick, through the rates that take effect there: at one
rate they lie 2,000 ticks apart or more (R182), so that a stretch of 400 has one at most. -/
def turns (clk fin : Nat) (x rho : Int) : List (Nat × Int) → List (Nat × Bool)
  | [] => (turnIn x rho (fin - clk)).map fun t => (clk + t.1, t.2)
  | (a, r) :: q =>
    let c := min fin (max a clk)
    ((turnIn x rho (c - clk)).map fun t => (clk + t.1, t.2)) ++
      (if fin ≤ a then [] else turns c fin (x + ((c - clk : Nat) : Int) * (2 ^ 32 + rho)) r q)

/-- The insertion or deletion to announce now: the first that lies at least 200 and at most 400 ticks ahead, by the rates
and the step that take effect until then (R20, R180, R182, R203). Its tick of `clk`, whether it is a deletion, and the full
time that the tick would reach without it. -/
def State.nextChange (s : State) : Option (Nat × Bool × Int) :=
  let fin := s.clk + 400
  let t := s.time
  let run (c : Nat) : Int × Int × List (Nat × Int) := runRates s.clk c s.fine t.rho t.rhoNext
  let plain : List (Nat × Bool × Int) := (turns s.clk fin s.fine t.rho t.rhoNext).map fun u => (u.1, u.2, (run (u.1 - 1)).1 / 2 ^ 32 + 1)
  let l : List (Nat × Bool × Int) := match t.pending with
    | [] => plain
    | p :: _ =>
      let c := (s.reach p.boundary).1
      let r := run c
      let x := s.afterStep p
      let d := x / 2 ^ 32 - (s.reach p.boundary).2 / 2 ^ 32
      (plain.filter fun u => decide (u.1 ≤ c)) ++
        (if c < fin then (turns c fin x r.2.1 r.2.2).map fun u =>
          (u.1, u.2, (runRates c (u.1 - 1) x r.2.1 r.2.2).1 / 2 ^ 32 + 1 - d) else [])
  l.find? fun u => decide (s.clk + 200 ≤ u.1)

/-- TIME_CHANGE_ANNOUNCE: a pending step at its lead of 1,000 ticks (R203), else the next insertion or deletion at least
200 and at most 400 ticks ahead (R20, R182), to both Quills. -/
def execTimeChangeAnnounce (dt : Nat) (s : State) : Result :=
  let s := s.elapse dt
  let change (s : State) : State := match s.nextChange with
    | some (_, del, at_) => (s.sendD2d 0 (.adjust del at_)).sendD2d 1 (.adjust del at_)
    | none => s
  .next (if !s.clockRuns || !s.dev.linksUp then s else
    match s.time.pending with
    | p :: _ =>
      let (c, x) := s.reach p.boundary
      if !s.time.announced && s.clk + 200 ≤ c && c ≤ s.clk + 1000 then
        let m : D2dMsg := .step (s.afterStep p / 2 ^ 32 - x / 2 ^ 32) p.boundary
        let s := (s.sendD2d 0 m).sendD2d 1 m
        { s with time := { s.time with announced := true } }
      else change s
    | [] => change s)

/-! ### Sources -/

/-- After how many ticks of silence the source is lost (R200). -/
def State.lossTicks (s : State) : Nat :=
  match s.time.source.toNat with
  | 1 => 1000000
  | 2 => 3 * (fld s.bus.m1 39 30) * 100000
  | 3 => s.pf 0x102 25 16 * 100000000
  | _ => 300000000

/-- SOURCE_HOLDOVER (R200). -/
def execSourceHoldover (dt : Nat) (s : State) : Result :=
  let s := s.elapse dt
  .next (if s.clockRuns && s.time.heardAt + s.lossTicks ≤ s.clk then s.enterHoldover else s)

/-- The last full time up to `x` whose instant is divisible by 10^8: instant 0 begins an era anew (R209). -/
def secondOf (x : Int) : Int := x - x % 2 ^ 48 % 100000000

/-- TIMEMARK_SEND: the first slot at or after an instant divisible by 100,000 (R97); the mark of a new second makes a
CHAIN_MARK due (R209). -/
def execTimemarkSend (dt : Nat) (sub : Nat) (s : State) : Result :=
  let s := s.elapse dt
  let d := s.at10 sub
  let full := d / 1000
  let last := s.time.sentMark
  .next (if s.dev.master && s.linkRuns && s.portUp .down && epochOf last ≠ epochOf full then
    let due := s.time.markDue || decide (secondOf last ≠ secondOf full)
    ({ s.slot with time := { s.time with sentMark := full, markDue := due } } : State).emit
      (.timemark .down (BitVec.ofInt 22 full) (BitVec.ofInt 10 (d % 1000)))
  else s)

/-- An offset from the chain (R207): the follower is not cut off and has applied a CHAIN_MARK (R200, R210). -/
def State.chainTheta (s : State) (m : Mark) : Int :=
  m.arrival - (m.resolved * 1000 + (m.fraction.toNat : Int) + (s.pf 0x33 31 0 : Int) + s.ps 0x105 31 0)

/-- TIMEMARK on the up port: forwarded unchanged, captured, resolved, and turned into an offset (R97, R200, R207). -/
def execTimemark (dt : Nat) (departure : BitVec 22) (fraction : BitVec 10) (sub : Nat) (s : State) : Result :=
  let s := s.elapse dt
  .next (if !s.linkRuns || !s.portUp .up then s else
    let s := s.slot
    let s := if s.portUp .down then s.emit (.timemark .down departure fraction) else s
    let near : Int := match s.time.marks with
      | [] => s.full
      | m :: _ => m.resolved + ((s.clk - m.at_ : Nat) : Int)
    let (k, s) := s.nearest (((near - (departure.toNat : Int) : Int) : Rat) / 2 ^ 22)
    let m : Mark := { field := departure, fraction, resolved := (departure.toNat : Int) + k * 2 ^ 22
                      arrival := s.at10 sub, at_ := s.clk }
    let s := { s with time := { s.time with marks := (m :: s.time.marks).take 32 } }
    if s.time.source ≠ 1 then s else
    let s := { s with time := { s.time with heardAt := s.clk } }
    if s.time.chainSet && !s.dev.cutOff then
      (s.filter (s.chainTheta m) s.sinceOffset s.time.forceStep none false).2
    else s)

/-- CHAIN_MARK and CHAIN_ERA at a follower (R210): the mark of that field is resolved as named, the later ones with it;
a resolution that differs gives an offset that steps at once. -/
def State.chainMarked (s : State) (named : Int) : State :=
  if s.time.source ≠ 1 || s.dev.cutOff then s else
  match s.time.marks.find? fun m => m.field = BitVec.ofInt 22 named with
  | none => s
  | some m =>
    let d := named - m.resolved
    let move (x : Mark) : Mark := if m.at_ ≤ x.at_ then { x with resolved := x.resolved + d } else x
    let s := { s with time := { s.time with chainSet := true, marks := s.time.marks.map move } }
    if d = 0 then s else
    let (theta, s) := s.quantise ((s.chainTheta (move m) : Rat) - s.stepsSince m.at_)
    (s.filter theta s.sinceOffset true none true).2

/-- CHAIN_MARK_BROADCAST (R209). -/
def execChainMarkBroadcast (dt : Nat) (s : State) : Result :=
  let s := s.elapse dt
  .next (if s.dev.master && s.time.markDue && s.answers then
    let x := s.time.sentMark
    ({ s with time := { s.time with markDue := false } } : State).broadcast 0x07 false
      [word 0x107, word (unsign 48 x), word 0x108, word (unsign 16 (x / 2 ^ 48)), word 0x106, s.work 0x106]
  else s)

/-! ### The calendar's events -/

/-- LEAP_SECOND: the announced second has passed, or would begin (R196); a stopped calendar has none (R193). -/
def execLeapSecond (dt : Nat) (s : State) : Result :=
  let s := s.elapse dt
  let (dir, e) := s.leapEnd
  let u := s.full / 100000000 - s.leapCount
  .next (if s.calLimit || dir = 0 || dir = 3 || u < (if dir = 1 then e + 1 else e - 1) then s else
    let n := s.leapCount + (if dir = 1 then 1 else -1)
    let (v, s) := if n < -128 ∨ 127 < n then
        let (w, s) := s.freeWord
        (fld w 7 0, s)
      else (unsign 8 n, s)
    s.setWork 0x106 (putFld (putFld (s.work 0x106) 31 24 v) 17 16 0))

/-- CALENDAR_END: the calendar is stopped exactly while its time lies beyond its end, so the limit follows the full time
(R193). -/
def execCalendarEnd (dt : Nat) (s : State) : Result := .next (s.elapse dt)

/-- TIME_RECORD_SECOND: the tick that reaches a whole multiple of 10^8 ticks, once (R181, R400). -/
def execTimeRecordSecond (dt : Nat) (s : State) : Result :=
  let s := s.elapse dt
  let second := s.full / 100000000 * 100000000
  .next (if s.reached second && s.time.secondAt != some s.clk then
    ({ s with time := { s.time with secondAt := some s.clk } } : State).timeRec second 0 s.time.theta
  else s)

/-! ### PPS -/

/-- A second is an inserted leap second (R188, R214). -/
def State.isLeap (s : State) (second : Int) : Bool :=
  let (dir, e) := s.leapEnd
  dir = 1 && decide (second - s.leapCount = e)

/-- The flags of a PPS record (R214). -/
def State.ppsFlags (s : State) (full : Int) (stepped leap : Bool) (low : Nat) : Word :=
  fields [(47, 32, unsign 16 (full / 2 ^ 48)), (31, 31, b2n s.time.calValid), (30, 30, b2n s.time.holdover),
    (29, 29, b2n stepped), (28, 28, b2n leap), (27, 25, s.time.source.toNat), (15, 0, low)]

/-- The rate at which the tick before this one counted. -/
def State.lastRate (s : State) : Int :=
  match s.time.past with
  | a :: b :: _ => if a.1 = s.clk then b.2.2 else s.time.rho
  | _ => s.time.rho

/-- The core clock edge of this tick, its first or its second, that lies nearest to an ideal moment [10 ps], the earlier one
of a tie, and by how much it comes later [10 ps] (R213); none when an edge of another tick does. In units of 2^-33 of
10 ps every edge is a whole number. -/
def State.nearEdge (s : State) (ideal : Int) : Option (Bool × Int) :=
  let half := 1000 * (2 ^ 32 + s.time.rho)
  let e0 := s.fine * 2000
  let before := e0 - 1000 * (2 ^ 32 + s.lastRate)
  let x := ideal * 2 ^ 33
  let q (e : Int) : Int := max (-250) (min 249 ((e - x) / 2 ^ 33))
  if before + e0 < 2 * x ∧ 2 * x ≤ 2 * e0 + half then some (false, q e0)
  else if 2 * e0 + half < 2 * x ∧ 2 * x ≤ 2 * e0 + 3 * half then some (true, q (e0 + half))
  else none

/-- PPS_OUT_EDGE: the leading edge on the nearest 5 ns edge, when that lies in this tick (R212-R214). -/
def execPpsOutEdge (dt : Nat) (s : State) : Result :=
  let s := s.elapse dt
  let cable := s.ps 0x103 31 0
  let on := s.clockRuns && s.dev.code != .off && s.pps.outEn && s.pps.trailAt.isNone
    && !(s.pps.outGate && (s.time.source = 0 || s.time.holdover))
  let second := (s.now10 + cable + 50000000000) / 100000000000
  .next (match s.nearEdge (second * 100000000000 - cable) with
    | none => s
    | some (half, q) =>
      if !on then s else
      let full := second * 100000000
      let (th, s) := s.wordOf s.time.theta
      let rec_ : PpsRec := { w0 := word (unsign 48 full), w1 := s.ppsFlags full s.pps.stepOut (s.isLeap second) (unsign 16 q)
                             w2 := th }
      ({ s with pps := { s.pps with
          level := !s.pps.outPol, trailAt := some (2 * s.clk + b2n half + s.pps.width * 200), stepOut := false
          reports := (rec_ :: s.pps.reports).take 16 } } : State).emit (.pps (!s.pps.outPol) half q))

/-- PPS_OUT_TRAILING: WIDTH after the leading edge, on the same grid (R213). A pulse that runs when PPS_CONFIG changes OUT_EN
or OUT_POL ends here all the same, at the inactive level of the new polarity (DESIGN CHOICE, log entry 75). -/
def execPpsOutTrailing (dt : Nat) (s : State) : Result :=
  let s := s.elapse dt
  .next (match s.pps.trailAt with
    | some t =>
      if t ≤ 2 * s.clk + 1 then
        ({ s with pps := { s.pps with level := s.pps.outPol, trailAt := none } } : State).emit
          (.pps s.pps.outPol (t % 2 == 1) 0)
      else s
    | none => s)

/-- PPS_IN_EDGE: an edge that has stayed for 100 ns, taken with 5 ns resolution (R214, R215). -/
def execPpsInEdge (dt : Nat) (falling half : Bool) (s : State) : Result :=
  let s := s.elapse dt
  let soon := match s.pps.lastIn with
    | some t => decide (s.clk ≤ t + 50000000)
    | none => false
  .next (if !s.clockRuns || s.dev.code == .off || !s.pps.inEn || falling != s.pps.inEdge || soon then s else
    let a := s.at10 (if half then 500 else 0) - 1000 - s.ps 0x104 31 0
    let (sec, s) := s.nearest ((a : Rat) / 100000000000)
    let off := a - sec * 100000000000
    let (th, s) := s.wordOf off
    let rec_ : PpsRec := { w0 := word (unsign 48 (a / 1000)), w1 := s.ppsFlags (a / 1000) s.pps.stepIn false (a % 1000).toNat
                           w2 := th }
    let s := { s with pps := { s.pps with lastIn := some s.clk, stepIn := false
                                          captures := (rec_ :: s.pps.captures).take 16 } }
    if s.time.source = 4 then
      let iv := if s.time.lastOffset.isNone then 0 else 100000000
      ((s.sourceHeard s.clk).filter off iv s.time.forceStep none false).2
    else s)

/-- PPS_CONFIG (R212). -/
def execPpsConfig (dt : Nat) (r : Request) (s : State) : Result :=
  let s := s.elapse dt
  let i : OpInfo := { opc := 0x85, urgent := false, bcast := false, fault := false, minLen := 2, maxLen := 2 }
  let w := arg r 0
  let width := fld (arg r 1) 18 0
  .next (s.serve i r none none (rejIf (width = 0 || decide (500000 < width)) (badParam 1 0)) none fun s =>
    ({ s with pps := { s.pps with
      outEn := bit w 0, outPol := bit w 1, outGate := bit w 2, inEn := bit w 3, inEdge := bit w 4, width
      level := if s.pps.trailAt.isSome then s.pps.level else bit w 1 } } : State).ok 0x85 r)

end Sys2Proof.Machine
end

