-- ==== Sys2Proof/Machine/ParamOps.lean ====
section
/-! DEFINITION. Reading, checking and writing parameters, with the effects that the owner chapters give a write
(R31, R63, R105, R135-R139, R144, R178, R195, R226, R250, R271, R272, R278, R281, R292, R319, R323-R326, R340, R341,
R354, R396, R412, R445, R446-R449, R453, R463, R464). -/

namespace Sys2Proof.Machine

/-! ### Reading -/

/-- Handles of a pool in a state. -/
def Pool.inState (p : Pool) (st : HState) : Nat := (p.live.filter fun l => l.st == st).length

/-- Records that the ring can hold (R403). -/
def State.ringCap (s : State) : Nat := 524288 * 2 ^ s.log.size.toNat

/-- The code of a stage state (R448). -/
def StageSt.num : StageSt → Nat
  | .open_ => 0
  | .preparing => 1
  | .prepared => 2
  | .armed => 3
  | .settling => 4

/-- A ledger word of a bank (R250). -/
def State.ledgerWord (s : State) (b : Bank) (second : Bool) : Word :=
  if second then fields [(47, 24, s.tokens b true), (23, 0, unsign 24 s.vlv.banks[b].eEst)]
  else fields [(47, 24, unsign 24 (s.available b)), (23, 0, s.tokens b false)]

/-- The word of a parameter that shows live state; none for one that the working copy holds. -/
def State.liveParam (s : State) (id : Nat) : Option Word :=
  let e := s.hnd.ej
  let r := s.hnd.rs
  if id = 0x41 then
    some (fields [(41, 28, e.free 0x3F00), (27, 14, e.inState .accepted), (13, 0, e.inState .armed)])
  else if id = 0x42 then some (word (e.inState .retiring))
  else if id = 0x43 then
    some (fields [(35, 27, r.free 0x4000), (26, 18, r.inState .accepted), (17, 9, r.inState .armed),
      (8, 0, r.inState .retiring)])
  else if id = 0x46 then some 0
  else if 0x210 ≤ id ∧ id < 0x218 then some (s.ledgerWord (Fin.ofNat 4 ((id - 0x210) / 2)) (id % 2 == 1))
  else if 0x11C0 ≤ id ∧ id < 0x1200 then
    let v := s.vlv.valves[Fin.ofNat 64 (id - 0x11C0)]
    some (fields [(47, 28, unsign 20 v.dLearn), (27, 8, v.eSwell), (0, 0, b2n v.seeded)])
  else if 0x1200 ≤ id ∧ id < 0x1240 then some s.vlv.valves[Fin.ofNat 64 (id - 0x1200)].pulses
  else if 0x2030 ≤ id ∧ id < 0x2040 then some s.sw.ch[Fin.ofNat 16 (id - 0x2030)].clampHi
  else if id = 0x2301 then some (putFld (s.work id) 8 8 (b2n s.log.xspiOk))
  else if id = 0x2302 then some s.log.head
  else if id = 0x2303 then some s.log.tail
  else if id = 0x2304 then
    some (fields [(47, 24, s.log.ring.length), (23, 0, s.ringCap - s.log.ring.length - s.log.burst)])
  else if id = 0x2306 then some (word s.log.staging.length)
  else if id = 0x2500 then
    some (fields [(47, 32, s.stage.id.toNat), (31, 29, s.stage.st.num), (28, 28, b2n s.stage.force),
      (27, 26, s.stage.outcome.toNat), (25, 25, b2n s.stage.storeFailed), (24, 22, s.stage.why.toNat),
      (15, 0, s.stage.lastId.toNat)])
  else if id = 0x2503 then some (word (unsign 48 s.stage.lastAt))
  else none

/-- The value that PARAM_GET returns (R136). -/
def State.paramRead (s : State) (stage : Bool) (id : Nat) : Word :=
  if stage then tval s.stage.words id else (s.liveParam id).getD (s.work id)

/-! ### The pairs of a PARAM_SET (R137) -/

/-- One pair: its number, ID, flags and value. -/
structure Setting where
  k       : Nat
  id      : Nat
  stage   : Bool
  persist : Bool
  value   : Word
deriving DecidableEq, Repr

/-- The pairs of a payload. -/
def settings (ws : List Word) : List Setting :=
  (pairs ws).zipIdx.map fun (p, k) =>
    { k, id := fld p.1 15 0, stage := bit p.1 16, persist := bit p.1 17, value := p.2 }

/-- The pair names the parameter for a direct write. -/
def Setting.direct (x : Setting) (id : Nat) : Bool := x.id == id && !x.stage

/-- The value of an unstaged parameter with every pair of the request applied. -/
def State.after (s : State) (l : List Setting) (id : Nat) : Word :=
  l.foldl (fun w x => if x.direct id then x.value else w) (s.work id)

/-- The set in force with every direct pair applied. -/
def State.setAfter (s : State) (l : List Setting) : WTable :=
  l.foldl (fun t x => if staged x.id && !x.stage then tput t x.id x.value else t) (s.stage.setTab s.stage.force)

/-! ### Whole-value conditions -/

/-- Check code of the first condition of R226 that a map breaks (R450): none when it satisfies them all. -/
def mapCheck (t : WTable) : Option Nat :=
  let starts := ((List.range 64).filter fun n => bit (tval t (0x240 + n)) 0).map fun n => fld (tval t (0x240 + n)) 43 24
  let fin := fld (tval t 0x280) 19 0
  let ends := starts.drop 1 ++ [fin]
  let spans := (starts.zip ends).map fun (a, b) => (b : Int) - (a : Int)
  let rising := (starts.zip (starts.drop 1)).all fun (a, b) => decide (a < b)
  let half := fld (tval t 0x202) 15 0
  if starts.isEmpty then none
  else if !rising then some 1
  else if !starts.all (fun a => decide (a < fin)) then some 2
  else if spans.any (fun d => decide (d < 64)) then some 3
  else if spans.any (fun d => decide (7 * d ≤ 2 * (half : Int))) then some 4
  else none

/-- The field of a shape row that breaks DERATE_I ≤ HAIRLINE_I < SWELL_I (R110, R271). -/
def rowBad (w : Word) : Option Nat :=
  if fld w 39 32 < fld w 31 24 then some 24 else if fld w 47 40 ≤ fld w 39 32 then some 32 else none

/-- Quanta of a bit (R323). -/
def bitQuanta (w : Word) : Nat := 1 + fld w 28 24 + fld w 23 20

/-- A bit timing that R323 and R324 do not accept: the least significant field of the condition that fails (log entry
25). -/
def timingBad (w : Word) : Option Nat :=
  let sjw := fld w 19 17
  let t2 := fld w 23 20
  let t1 := fld w 28 24
  let brp := fld w 37 29
  let nq := bitQuanta w
  if fld w 16 16 = 1 ∧ brp * nq < 320 then some 16
  else if sjw = 0 ∨ 4 < sjw ∨ t2 < sjw then some 17
  else if t2 < 2 ∨ 8 < t2 ∨ nq < 8 ∨ 25 < nq ∨ brp * nq < 40 ∨ 4000 < brp * nq then some 20
  else if t1 < 2 ∨ 16 < t1 then some 24
  else none

/-- REF_PERIOD is a whole number of cycles (R341). -/
def cyclesOk (w1 : Word) : Bool := fld w1 39 30 * 1000 % (fld w1 29 24 * fld w1 23 10) == 0

/-- SLOT_LEN holds two guards and 240 bit times (R341). -/
def slotOk (w0 w1 : Word) : Bool :=
  decide (80 * fld w1 9 0 + 240 * (fld w0 37 29 * bitQuanta w0) ≤ 40 * fld w1 23 10)

/-- SLOT_MASK has bit 0 clear and no bit at or above SLOT_COUNT (R341). -/
def maskOk (w1 w3 : Word) : Bool := decide (fld w3 31 0 % 2 = 0 ∧ fld w3 31 0 < 2 ^ fld w1 29 24)

/-- The place that a Mirjan or bus parameter is refused at (R323, R324, R341, R354), with the other words as they will
be. -/
def busBad (id : Nat) (w0 w1 w2 w3 : Word) : Option Nat :=
  if id = 0x2100 then (timingBad w0).orElse fun _ => if slotOk w0 w1 then none else some 20
  else if id = 0x2101 then
    if !slotOk w0 w1 then some 0
    else if !cyclesOk w1 then some 10
    else if !maskOk w1 w3 then some 24
    else none
  else if id = 0x2102 then
    let f := fld w2 10 0
    let r := fld w2 26 16
    if 0x7FF < f + 15 ∨ (f < r + 16 ∧ r < f + 16) then some 0 else if 0x7FF < r + 15 then some 16 else none
  else if id = 0x2103 then if maskOk w1 w3 then none else some 0
  else none

/-- The place at which a value breaks a condition among its own fields, or with the other parameters (R110). -/
def State.orderBad (s : State) (l : List Setting) (x : Setting) : Option Nat :=
  let w := x.value
  if 0x1000 ≤ x.id ∧ x.id < 0x1008 then rowBad w
  else if 0x1014 ≤ x.id ∧ x.id < 0x1018 then
    if fld w 39 32 ≤ fld w 47 40 then some 40 else if fld w 31 24 ≤ fld w 39 32 then some 32 else none
  else if 0x1180 ≤ x.id ∧ x.id < 0x11C0 then if fld w 35 24 < fld w 47 36 then some 36 else none
  else if 0x2100 ≤ x.id ∧ x.id < 0x2104 then
    let f := fun id => if id = x.id then w else s.after l id
    busBad x.id (f 0x2100) (f 0x2101) (f 0x2102) (f 0x2103)
  else none

/-- The lesser of two places. -/
def lesser : Option Nat → Option Nat → Option Nat
  | some a, some b => some (min a b)
  | some a, none => some a
  | none, b => b

/-- LEAP announces a second that cannot be (R195). -/
def State.leapBad (s : State) (w : Word) : Bool :=
  let dir := fld w 17 16
  let y := fld w 15 4
  let m := fld w 3 0
  if dir ≠ 1 ∧ dir ≠ 2 then false
  else if y < 2000 ∨ 2199 < y ∨ m < 1 ∨ 12 < m then true
  else
    let e := calSeconds y m (monthDays y m) 0 0 0 + 86400
    decide ((if dir = 1 then e else e - 1) ≤ s.full / 100000000 - sfld w 31 24)

/-- The value of a pair is refused (check 6 of R109); of a pair with both flags, DETAIL names PERSIST before anything else
(R449). -/
def State.pairBad (s : State) (l : List Setting) (x : Setting) : Reject :=
  if x.stage && x.persist then badParam (2 * x.k) 17 else
  match paramFields x.id with
  | none => badParam (2 * x.k) 0
  | some fs =>
    if x.stage && !staged x.id then badParam (2 * x.k) 16
    else match lesser (badField fs x.value) (s.orderBad l x) with
      | some b => badParam (2 * x.k + 1) b
      | none => rejIf (x.id = 0x106 && s.leapBad x.value) (some (.badDate, 0))

/-- The valve map as a whole, where a direct pair changes it (R226). -/
def State.mapBad (s : State) (l : List Setting) : Reject :=
  if l.any fun x => !x.stage && (x.id == 0x202 || (decide (0x240 ≤ x.id) && decide (x.id ≤ 0x280))) then
    match mapCheck (s.setAfter l) with
    | some c => some (.badParam, 0xFE00 + c)
    | none => none
  else none

/-! ### Who and when (checks 4 and 5) -/

/-- Parameters that only the master may write (R105, R216, R453). -/
def masterOnly (id : Nat) : Bool :=
  id == 0x33 || id == 0x34 || id == 0x107 || id == 0x108 || id == 0x2501 || id == 0x2502

/-- A field of the written value differs from the working copy. -/
def State.changes (s : State) (x : Setting) (hi lo : Nat) : Bool := fld x.value hi lo != s.pf x.id hi lo

/-- The state refuses a pair (check 5 of R109); a write with STAGE in the tick in which preparation ends meets BUSY (R462). -/
def State.pairState (s : State) (x : Setting) : Reject :=
  let idle := s.dev.code == .idle
  if staged x.id then
    if x.stage then
      if !s.working then s.badState
      else rejIf (s.stage.st == .preparing || s.stage.st == .armed || s.stage.st == .settling
        || (s.stage.st == .prepared && s.stage.preparedAt == some s.clk)) (some (.busy, 0))
    else if !idle then s.badState
    else rejIf (s.stage.st != .open_) (some (.busy, 0))
  else if x.stage then none
  else if x.id = 0x10 ∨ x.id = 0x11 ∨ x.id = 0x200 ∨ x.id = 0x203 then rejIf (!idle) s.badState
  else if x.id = 0x46 then rejIf (bit x.value 0 && !idle) s.badState
  else if 0x1200 ≤ x.id ∧ x.id < 0x1240 then rejIf (!idle) s.badState
  else if x.id = 0x2011 then
    rejIf (s.dev.code == .sorting && (s.changes x 3 0 || s.changes x 5 5)) s.badState
  else if x.id = 0x2100 then rejIf (!s.working) s.badState
  else if x.id = 0x2101 ∨ x.id = 0x2102 ∨ x.id = 0x2103 then
    rejIf (!idle || (x.id = 0x2101 && s.time.source = 2 && fld x.value 47 46 != 1)) s.badState
  else if x.id = 0x2200 then rejIf s.gnss.on s.badState
  else if x.id = 0x2201 then rejIf (s.gnss.on && s.changes x 9 0) s.badState
  else none

/-! ### Ramped INHIBIT limits (R281, R463) -/

/-- The bank of an INHIBIT parameter. -/
def inhBank (id : Nat) : Option Bank :=
  if 0x1014 ≤ id ∧ id < 0x1018 then some (Fin.ofNat 4 (id - 0x1014)) else none

/-- The INHIBIT that a bank's limit moves towards: the written one. -/
def State.inhGoal (s : State) (b : Bank) : Nat := s.pf (0x1014 + b.val) 31 24

/-- A written INHIBIT starts a ramp: it lowers the limit in force to 5 K above a coil of the bank, or below (R281). -/
def State.inhRamps (s : State) (b : Bank) (v : Nat) : Bool :=
  decide (v < s.vlv.banks[b].inhibit) &&
    (List.finRange 64).any fun n => bankOf n == b && decide ((v : Rat) ≤ s.vlv.valves[n].theta + 5)

/-- A pair starts a ramp. -/
def State.pairRamps (s : State) (x : Setting) : Bool :=
  !x.stage && match inhBank x.id with
    | some b => s.inhRamps b (fld x.value 31 24)
    | none => false

/-- Handles of INHIBIT changes that are complete: OK when every bank they still name has reached its value, CANCELLED
when no bank names them (R463). -/
def State.inhSettle (s : State) (h : HandleId) : State :=
  let names (b : Bank) : Bool := s.vlv.banks[b].inhHandles.any fun x => x.1 == h
  let waits (b : Bank) : Bool := s.vlv.banks[b].inhHandles.any fun x => x.1 == h && !x.2
  let mask := maskOf 4 fun i => names (Fin.ofNat 4 i)
  if (List.finRange 4).any waits then s
  else
    let s := s.modBanks fun k => { k with inhHandles := k.inhHandles.filter fun x => x.1 != h }
    if mask = 0 then s.complete h .cancelled 0 0 [] else s.complete h .ok mask 0 []

/-- A bank's INHIBIT is written: handles still ramping there lose the bank; the limit steps or begins to ramp. -/
def State.inhWrite (s : State) (b : Bank) (v : Nat) (h : Option HandleId) : State :=
  let old := (s.vlv.banks[b].inhHandles.filter fun x => !x.2).map (·.1)
  let s := s.modBank b fun k => { k with inhHandles := k.inhHandles.filter fun x => x.2 }
  let s := if s.inhRamps b v then
      s.modBank b fun k => { k with inhAt := s.clk, inhHandles := k.inhHandles ++ (h.map fun h => (h, false)).toList }
    else s.modBank b fun k => { k with inhibit := v }
  old.foldl (fun s h => s.inhSettle h) s

/-! ### Writing -/

/-- A direct or staged shape row goes to a set of both Quills (R272, R450). -/
def State.sendShape (s : State) (set : Bool) (row : Nat) (w : Word) : State :=
  let m : D2dMsg := .shape set (Fin.ofNat 8 row) w
  (s.sendD2d 0 m).sendD2d 1 m

/-- A write of 2100h: the controller stops, and the word waits (R326). -/
def State.busWrite (s : State) (w : Word) : State :=
  ({ s with bus := { s.bus with waits := w, st := .stopping } } : State).setWork 0x2100 w

/-- A written D_LEARN and E_SWELL seed the valve (R278). -/
def State.seed (s : State) (n : Valve) (w : Word) : State :=
  let d : Int := (fld w 47 28 : Nat)
  let kappa := s.ps (0x1140 + n.val) 32 21
  let (t16, s) := s.quantise (s.vlv.valves[n].theta * 16)
  s.modValve n fun v =>
    let base : Int := d * 256 - kappa * (t16 - 320) * 16
    { v with acc := base, dLearn := d, seeded := true, eSeeded := true, eSwell := fld w 27 8, dirty := true }

/-- The channel's pulse began in a tick. -/
def Chan.began (c : Chan) (clk : Nat) : Bool :=
  match c.pulse with
  | some p => p.startAt == clk
  | none => false

/-- A write of PULSES; with a coil-on in the same tick the count is the written value + 1 (R285). -/
def State.pulsesWrite (s : State) (n : Valve) (w : Word) : State :=
  let w : Word := bif s.vlv.chans[n].began s.clk then w + 1 else w
  s.modValve n fun v => { v with pulses := w, dirty := true }

/-- A write of 0040h closes the running summary interval, and the next starts there (R128). -/
def State.reportWrite (s : State) (w : Word) : State :=
  let s := if s.mode = 2 then s.closeSummary else s
  let s := s.setWork 0x40 w
  { s with hnd := { s.hnd with counts := [], sumFrom := s.clk, sumAny := false } }

/-- A lowered SLEW_LIMIT clamps the frequency term in the tick of the write (R201). -/
def State.slewWrite (s : State) (w : Word) : State :=
  let s := s.setWork 0x100 w
  s.setRho (clampInt s.time.rhoFreq s.slewLimit) s.time.rhoPhase

/-- A write of 2000h+n: the off-state check of a channel whose OL_CHECK becomes 1 begins, and its current goes when it becomes
0 (R304). -/
def State.switchWrite (s : State) (n : Sw) (old w : Word) : State :=
  s.modSw n fun c => { c with
    checkAt := if bit w 15 && !bit old 15 then s.clk else c.checkAt
    probing := c.probing && bit w 15 }

/-- A write of 2400h+e: a wait under way keeps the SYNC_TO of its start (R418, R445). -/
def State.syncWrite (s : State) (e : Fin 10) (old : Word) : State :=
  s.modEngine e fun x => { x with syncWas := (s.time.core, fld old 16 0) :: x.syncWas }

/-- One pair is written (R137, R138, R449); `h` is the handle of the INHIBIT ramps that the request starts. -/
def State.pairWrite (s : State) (h : Option HandleId) (x : Setting) : State :=
  match paramFields x.id with
  | none => s
  | some fs =>
    let old := if x.stage then tval s.stage.words x.id else s.work x.id
    let w := mergeSeen fs old ((tget s.seenNow x.id).getD 0) x.value
    if x.stage then
      { s with stage := { s.stage with
        words := tput s.stage.words x.id w, st := if s.stage.st == .prepared then .open_ else s.stage.st } }
    else if staged x.id then
      let s := s.setWork x.id w
      let s := { s with stage := { s.stage with words := tput s.stage.words x.id w } }
      if 0x1000 ≤ x.id ∧ x.id < 0x1008 then s.sendShape s.stage.force (x.id - 0x1000) w else s
    else if x.id = 0x40 then s.reportWrite w
    else if x.id = 0x100 then s.slewWrite w
    else if x.id = 0x2100 then s.busWrite w
    else if 0x11C0 ≤ x.id ∧ x.id < 0x1200 then s.seed (Fin.ofNat 64 (x.id - 0x11C0)) x.value
    else if 0x1200 ≤ x.id ∧ x.id < 0x1240 then
      s.pulsesWrite (Fin.ofNat 64 (x.id - 0x1200)) x.value
    else
      let s := s.setWork x.id w
      match inhBank x.id with
      | some b => (s.inhWrite b (fld w 31 24) h).judgeBank b
      | none =>
        if 0x2000 ≤ x.id ∧ x.id < 0x2010 then s.switchWrite (Fin.ofNat 16 (x.id - 0x2000)) old w
        else if 0x2400 ≤ x.id ∧ x.id < 0x240A then s.syncWrite (Fin.ofNat 10 (x.id - 0x2400)) old
        else if x.id = 0x2101 ∨ x.id = 0x2102 ∨ x.id = 0x2103 then { s with bus := { s.bus with due := true } } else s

/-- Ticks of T_reach: 2 us and 0.4 us for each device after the master (section 14.4). -/
def State.tReach (s : State) : Nat := 200 + (s.chainLength - 1) * 40

/-- The decision instant of a commit instant (section 14.4). -/
def State.decideAt (s : State) (at_ : Int) : Int := at_ - s.tReach - 100

/-- COMMIT_AT and COMMIT_ID, written in one request, arm a prepared stage of that ID before D (R453). -/
def State.armStage (s : State) (l : List Setting) : State :=
  if (l.any fun x => x.direct 0x2501) && (l.any fun x => x.direct 0x2502) then
    let at_ := s.resolve (s.work 0x2501)
    if s.stage.st == .prepared && s.stage.id.toNat = s.pf 0x2502 15 0 && decide (s.full < s.decideAt at_) then
      { s with stage := { s.stage with st := .armed, at_ } }
    else s
  else s

/-- CHAIN_MARK and CHAIN_ERA, written in one request (R210). -/
def State.markWrite (s : State) (l : List Setting) : State :=
  if (l.any fun x => x.direct 0x107) && (l.any fun x => x.direct 0x108) then
    s.chainMarked ((s.pf 0x108 15 0 * 2 ^ 48 : Nat) + ((s.work 0x107).toNat : Int))
  else s

/-- Every pair of a request is written, in its order, in one tick (R137). -/
def State.pairsWrite (s : State) (h : Option HandleId) (l : List Setting) : State :=
  ((l.foldl (fun s x => s.pairWrite h x) s).armStage l).markWrite l

/-- The pair goes to the parameter store, as a whole word (R139, log entry 74); PERSIST on a counter is ignored. -/
def Setting.stores (x : Setting) : Bool :=
  !x.stage && (nextStart x.id || (x.persist && !isPulses x.id)) && match paramFields x.id with
    | some fs => storable fs
    | none => false

/-- The pair erases the parameter store (R144). -/
def Setting.erases (x : Setting) : Bool := x.direct 0x46 && bit x.value 0

/-- The request writes or erases the on-die store (R139). -/
def needsStore (l : List Setting) : Bool := l.any fun x => x.stores || x.erases

/-- The store after one pair; the learned values of a valve are stored as A and E_SWELL with SEEDED (R139, R286). -/
def State.pairStore (s : State) (x : Setting) : State :=
  if x.erases then { s with par := { s.par with store := [] } }
  else if !x.stores then s
  else match paramFields x.id with
    | none => s
    | some fs =>
      let put (k : Nat) (w : Word) (t : WTable) : WTable := tset t k w
      let st := s.par.store
      let t := if 0x11C0 ≤ x.id ∧ x.id < 0x1200 then
          let n := x.id - 0x11C0
          let v := s.vlv.valves[Fin.ofNat 64 n]
          put (seedKey n) (fields [(27, 8, v.eSwell), (1, 1, b2n v.eSeeded), (0, 0, b2n v.seeded)])
            (put (accKey n) (BitVec.ofInt 48 v.acc) st)
        else put x.id (storeWord fs x.value) st
      { s with par := { s.par with store := t } }

/-- The reply of a PARAM_SET that has been written: OK or RAMPING, with the count of pairs (R137, R463). -/
def State.setReply (s : State) (r : Request) (h : Option HandleId) : State :=
  match h with
  | some h => s.reply 0x07 r .ramping h.toNat (r.words.length / 2) []
  | none => s.reply 0x07 r .ok 0 (r.words.length / 2) []

/-- The handle of a request whose last pairs have taken every ramp back completes at once. -/
def State.rampCheck (s : State) (h : Option HandleId) : State :=
  match h with
  | some h => if s.vlv.banks.any fun k => k.inhHandles.any fun x => x.1 == h then s else s.complete h .ok 0 0 []
  | none => s

/-- The pairs of a request are written, and the reply leaves. A request that starts an INHIBIT ramp takes one handle, armed
from the start; with none free it writes nothing (R463, log entry 65). -/
def State.paramWrite (s : State) (r : Request) (l : List Setting) : State :=
  if l.any fun x => s.pairRamps x then
    match s.takeRs 0x07 r.src .armed with
    | some (h, s) => ((s.setReply r (some h)).pairsWrite (some h) l).rampCheck (some h)
    | none => s.reply 0x07 r .noHandle 0 0 []
  else (s.setReply r none).pairsWrite none l

/-- PARAM_SET, and whatever has its packet (R137-R139). A request that writes or erases the store waits for its flash
write. -/
def State.paramSet (s : State) (r : Request) : State :=
  let i : OpInfo := { opc := 0x07, urgent := false, bcast := true, fault := false, minLen := 2, maxLen := 32,
                      lenOk := fun n => n % 2 == 0 }
  let l := settings r.words
  let c4 := rejIf (l.any (fun x => masterOnly x.id) && r.src != 1) (some (.notMaster, 1))
  let c5 := firstRej (l.map s.pairState)
  let c6 := (firstRej (l.map fun x => s.pairBad l x)).orElse fun _ => s.mapBad l
  let c7 := if l.any fun x => s.pairRamps x then s.needHandle else none
  s.serve i r c4 c5 c6 c7 fun s =>
    if needsStore l then { s with par := { s.par with ops := s.par.ops ++ [{ req := r, startAt := s.clk }] } }
    else s.paramWrite r l

end Sys2Proof.Machine
end

