-- ==== Sys2Proof/Machine/NibOps.lean ====
section
/-! DEFINITION. The Nib engines: flight, drift and valve selection, insertion into the Inkwell, merging, arming, stagger
and shed (R217-R242, R277). -/

namespace Sys2Proof.Machine

/-! ### The valve map (R225) and the coarse window (R28) -/

/-- Each START with the END of its span: the START of the next mapped valve, or MAP_END (R225). -/
def spanEnds (fin : Int) : List (Valve × Int) → List (Valve × Int × Int)
  | [] => []
  | [(v, a)] => [(v, a, fin)]
  | (v, a) :: (w, z) :: r => (v, a, z) :: spanEnds fin ((w, z) :: r)

/-- The mapped valves of a set with their spans, ascending (R225). -/
def State.spans (s : State) (set : Bool) : List (Valve × Int × Int) :=
  spanEnds (s.sf set 0x280 19 0 : Nat)
    (((List.finRange 64).filter fun v => bit (s.inSet set (0x240 + v.val)) 0).map fun v =>
      (v, (s.sf set (0x240 + v.val) 43 24 : Int)))

/-- A bank's span, from the START of its lowest mapped valve to the END of its highest (R225). -/
def bankSpan (l : List (Valve × Int × Int)) (b : Bank) : Option (Int × Int) :=
  let mine := l.filter fun x => bankOf x.1 == b
  match mine.head?, mine.getLast? with
  | some x, some y => some (x.2.1, y.2.2)
  | _, _ => none

/-- Chain-wide centre x of a record [1/64 mm]. -/
def NibRec.x (r : NibRec) : Nat := fld r.w1 47 28
/-- Width [1/32 mm], which is the half width in 1/64 mm (R224). -/
def NibRec.width (r : NibRec) : Nat := fld r.w1 27 16
/-- Length [1/32 mm]. -/
def NibRec.len (r : NibRec) : Nat := fld r.w1 15 4
/-- Class. -/
def NibRec.cls (r : NibRec) : Nat := fld r.w1 3 0
/-- Fall speed [1/8 mm/s]. -/
def NibRec.v (r : NibRec) : Nat := fld r.w2 47 32
/-- Lateral speed [1/16 mm/s]. -/
def NibRec.u (r : NibRec) : Int := sfld r.w2 31 16
/-- Sequence number. -/
def NibRec.seq (r : NibRec) : Nat := fld r.w2 7 0

/-- The margin of the coarse window [1/64 mm], rounded up (R28). -/
def State.coarseMargin (s : State) (r : NibRec) : Int :=
  (r.width + ceilDiv (r.u.natAbs * s.pf 0x10 15 0 * 4) 1000 + s.pf 0x11 15 0 : Nat)

/-- The banks whose span the coarse window of a record touches, by the map of its set (R28, R456). -/
def State.touched (s : State) (r : NibRec) : List Bank :=
  let m := s.coarseMargin r
  let l := s.spans r.set
  (List.finRange 4).filter fun b =>
    match bankSpan l b with
    | some (a, z) => decide (a ≤ (r.x : Int) + m ∧ (r.x : Int) - m < z)
    | none => false

/-! ### The input queues (R219) -/

/-- The records of a packet take their numbers, and the set of their camera instants (R456). -/
def State.number (s : State) : List NibRec → List NibRec × State
  | [] => ([], s)
  | r :: t =>
    let (l, s') := ({ s with nib := { s.nib with recs := s.nib.recs + 1 } } : State).number t
    ({ r with no := s.nib.recs, set := s.setOf (s.resolve r.w0) } :: l, s')

/-- A record taken now is stale: its camera instant lies before the last commit, and SETTLING has ended (R457). -/
def State.stale (s : State) (r : NibRec) : Bool :=
  s.stage.st != .settling && s.stage.lastAt != 0 && decide (s.resolve r.w0 < s.stage.lastAt)

/-- The record was taken in this tick. -/
def State.isNew (s : State) (r : NibRec) : Bool := s.takenNow.any fun a => decide (a.first ≤ r.no) && decide (r.no < a.fin)

/-- The packet of a DETECT, when it waits in the other port, is marked with its records' numbers (R219). -/
def State.markPacket (s : State) (r : Request) (a z : Nat) : State :=
  s.modPort (otherSide r.port) fun q => q.modLane false fun l =>
    let mine (t : TxPacket) : Bool := t.holds != 0 && t.detect.isNone && fld t.header 35 28 == 0x20 && t.words == r.words
      && fld t.header 41 36 == r.src.toNat
    { l with stored := mapIf mine (fun t => { t with detect := some (a, z) }) l.stored }

/-- A record enters a Nib input queue. -/
def State.enterQueue (s : State) (b : Bank) (r : NibRec) : State :=
  let s := s.wake (nibEngine b) (s.nibHangs b 0)
  { s with nib := s.nib.setQueue b (s.nib.queue b ++ [r]) }

/-- A record is handed to the Nib engines of a list of banks. What a full queue cannot take, the link engine keeps, with
the record's words in its bulk receive buffer (R219). -/
def State.handOn (s : State) (r : NibRec) (banks : List Bank) : State :=
  let room (b : Bank) : Bool := decide ((s.nib.queue b).length < 512)
  let later := banks.filter fun b => !room b
  let s := (banks.filter room).foldl (fun s b => s.enterQueue b r) s
  if later.isEmpty then s
  else
    ({ s with nib := { s.nib with held := s.nib.held ++ [(r, later)] } } : State).recordWords r true

/-- The held records with bank `b` taken out of the first that waits for it; that record, and whether it waits for no bank
any more. -/
def takeHeld (b : Bank) : List (NibRec × List Bank) → Option ((NibRec × Bool) × List (NibRec × List Bank))
  | [] => none
  | (r, bs) :: t =>
    if bs.contains b then
      let left := bs.filter fun c => c != b
      if left.isEmpty then some ((r, true), t) else some ((r, false), (r, left) :: t)
    else
      match takeHeld b t with
      | none => none
      | some (x, t') => some (x, (r, bs) :: t')

/-- A queue with room takes the oldest record held for it; a record that has entered every queue frees its words (R219). -/
def State.refill (s : State) (b : Bank) : State :=
  if 512 ≤ (s.nib.queue b).length then s else
  match takeHeld b s.nib.held with
  | none => s
  | some ((r, done), t) =>
    let s := ({ s with nib := { s.nib with held := t } } : State).enterQueue b r
    if done then s.recordWords r false else s

/-! ### The ballistic solution (R220-R222) -/

/-- Flight time and passage time [ticks] from v, A_C, DROP and length; none when Q is 0 or the flight exceeds 250 ms. -/
def flight (v ac drop len : Nat) : Option (Nat × Nat) :=
  let r := isqrt ((v * v + ac * drop) * 4096)
  let q := 64 * v + r
  if q = 0 then none
  else
    let tf := (2 * 1600000000 * drop + q) / (2 * q)
    if 25000000 < tf then none else some (tf, (2 * 1600000000 * len + r) / (2 * r))

/-- ENERGY of a valve's next event (R277). -/
def State.energyOf (s : State) (v : Valve) : Nat := ceilDiv (s.vlv.valves[v].eSwell * (256 + s.pf 0x101C 47 40)) 256

/-! ### Merging (R231-R233) -/

/-- Two pulses on one valve meet (R231). -/
def State.meets (s : State) (x y : Event) : Bool :=
  decide (max (y.cOn - x.cOff) (x.cOn - y.cOff) < max (s.mergeGap x) (s.mergeGap y)) ||
    decide ((x.cOn - y.cOn).natAbs < 50000)

/-- The first pulse, in the order of arming, that meets a pulse of its valve. -/
def State.meeting (s : State) (x : Event) : Option Event :=
  (sortBy Event.before (s.nib.events.filter fun y => y.valve == x.valve && y.id != x.id
    && (y.st == .pending || y.st == .waiting || y.st == .armed) && s.meets x y)).head?

/-- `x`, with its passengers, rides on `y` (R231, R232, R236). -/
def State.ride (s : State) (x y : Event) : State :=
  let s := if y.st == .armed then s.armHandles x.id else s
  let s := s.modEvents (fun e => e.id == x.id || (e.carrier == some x.id && e.st != .retiring)) fun e =>
    { e with st := .passenger, carrier := some y.id }
  s.count 0x208 true 1

/-- A pulse merges with, or moves past, the pulses that meet it, until none does (R231, R232). `n` bounds the number of
meetings. -/
def State.place : Nat → HandleId → State → State
  | 0, _, s => s
  | n + 1, h, s =>
    match s.event? h with
    | none => s
    | some x =>
      match s.meeting x with
      | none => s
      | some y =>
        if y.st == .armed then
          let start := max x.cOn (max (y.cOff + max (s.mergeGap x) (s.mergeGap y)) (y.cOn + 50000))
          let d := start - x.cOn
          if x.cOff ≤ y.cOff || s.staggerTol x < d then s.ride x y
          else State.place n h (s.setEvent { x with
            cOn := start, cOff := boundPulse start (x.cOff + d), delta := x.delta + d, moved := true })
        else if y.cOn ≤ x.cOn then
          State.place n y.id ((s.ride x y).setEvent { y with cOff := boundPulse y.cOn (max y.cOff x.cOff) })
        else State.place n h ((s.ride y x).setEvent { x with cOff := boundPulse x.cOn (max y.cOff x.cOff) })

/-! ### Insertion (R230, R237) -/

/-- A late event is checked at once, with no stagger tolerance: behind an event that waits it is shed (R237, R240). -/
def State.checkLate (s : State) (h : HandleId) : State :=
  match s.event? h with
  | none => s
  | some e =>
    if e.st != .pending || s.holdsArms then s
    else if (s.bankOrder (bankOf e.valve)).any fun x => x.st == .waiting && Event.before x e then s.retire h .shed 0
    else (s.checkEvent e).2

/-- An event past its arming point when it is inserted, by λ ticks (R237). -/
def State.lateRule (s : State) (e : Event) : State :=
  let lam := s.full - (e.cOn - s.tCommit)
  if (e.fireAny || s.classField e 1 1 = 1) && lam ≤ (s.classField e 21 12 * 100 : Nat) then
    (State.place (2 * s.nib.events.length + 2) e.id (s.setEvent (s.lateEvent e s.full))).checkLate e.id
  else s.retire e.id .tooLate 0

/-- An event enters the Inkwell. -/
def State.addEvent (s : State) (e : Event) : State :=
  { s with nib := { s.nib with events := s.nib.events ++ [{ e with ins := s.nib.ins }], ins := s.nib.ins + 1 } }

/-- A new event is inserted, late or not (R230-R232, R237). -/
def State.insertEvent (s : State) (e : Event) : State :=
  let s := s.addEvent e
  let e := { e with ins := s.nib.ins - 1 }
  if e.cOn - s.tCommit < s.full then s.lateRule e else State.place (2 * s.nib.events.length + 2) e.id s

/-- A handle of the ejection pool for each of `n` events, in order (R230). -/
def State.takeMany (s : State) (dst : Addr) : Nat → List HandleId × State
  | 0 => ([], s)
  | n + 1 =>
    match s.takeEj dst with
    | none => ([], s)
    | some (h, s) =>
      let (l, s) := s.takeMany dst n
      (h :: l, s)

/-- A record is refused for want of handles (R130, R400). -/
def State.refuse (s : State) (b : Bank) (r : NibRec) (valves : Nat) : State :=
  let s := s.count 0x44 true 1
  let s := s.stageRec (mkRec [(127, 124, 6), (123, 76, r.w0.toNat), (75, 68, r.seq), (67, 64, r.cls), (63, 62, b.val),
    (61, 56, valves)])
  if s.mode = 2 then s.tally 0x14 1
  else
    let words := s.complWords .noHandle 0 (r.seq + r.cls * 2 ^ 8 + b.val * 2 ^ 12) 0x20 2 (fld r.w0 31 0)
    let c : Completion := { dst := r.src, handle := none, tag := 0, words }
    { s with hnd := { s.hnd with queue := s.hnd.queue ++ [c] } }

/-- A Nib engine solves a record with the tables of its set, selects the valves of its bank and inserts their events
(R220-R230, R456). -/
def State.solveRecord (s : State) (b : Bank) (r : NibRec) : State :=
  let cam := s.resolve r.w0
  let set := r.set
  let cw := s.inSet set (0x220 + r.cls)
  match flight r.v (fld cw 47 32) (s.sf set 0x201 15 0) r.len with
  | none => s.count 0x204 true 1
  | some (tf, tl) =>
    let u := if bit r.w2 10 then 0 else r.u
    let xe := (r.x : Int) + roundHalfAway (u * tf) 25000000
    let h : Int := (min (r.width + fld cw 7 0) (s.sf set 0x202 15 0) : Nat)
    let te := cam + tf
    let sel := (s.spans set).filter fun x => decide (x.2.1 ≤ xe + h ∧ xe - h < x.2.2)
    let pulses := sel.map fun x =>
      let v := x.1
      let d := max 0 (s.vlv.valves[v].dLearn + sfld (s.inSet set (0x240 + v.val)) 23 8)
      let on := te - (fld cw 31 20 * 100 : Nat) - d
      (v, on, boundPulse on (te + tl + (fld cw 19 8 * 100 : Nat) - d))
    if pulses.any fun p => decide (30000000 < p.2.1 - s.full) then s.count 0x204 true 1
    else if s.sf set (0x230 + r.cls) 0 0 = 0 then s.count 0x205 false 1
    else
      let mine := pulses.filter fun p => bankOf p.1 == b
      if mine.isEmpty then s
      else if !s.vlv.banks[b].en then s.count 0x205 true 1
      else if s.hnd.ej.free 0x3F00 < mine.length then s.refuse b r mine.length
      else
        let (hs, s) := s.takeMany r.src mine.length
        (hs.zip mine).foldl (fun s x =>
          let (h, v, on, off) := x
          let e : Event :=
            { id := h, valve := v, st := .pending, cOn := on, cOff := off, cOff0 := off, delta := 0, cam, seq := r.seq,
              cls := r.cls, energy := s.energyOf v, shape := 0, direct := false, fireAny := bit r.w2 8,
              noStag := bit r.w2 9, late := false, moved := false, carrier := none, ins := 0, waitAt := none,
              src := r.src, begun := false, wasArmed := false, final := none }
          s.insertEvent e) s

end Sys2Proof.Machine
end

