-- ==== Sys2Proof/Machine/Pulse.lean ====
section
/-! DEFINITION. A pulse on a Quill channel, from coil-on to turn-off, and the driver protections (R263-R274, R282-R285). -/

namespace Sys2Proof.Machine

/-- Quill of a valve. -/
def quillOfValve (v : Valve) : Fin 2 := quillOf (bankOf v)

/-- The shape row that a pulse names, as its Quill holds it (R263, R272). -/
def State.shapeRow (s : State) (f : ArmFrame) : Word :=
  let q := s.quill (quillOfValve f.valve)
  (if f.set then q.shapes1 else q.shapes0).getD f.row.val 0

/-- I_H of a pulse [16 mA]: DERATE_I for a derated coil (R263, R280). -/
def State.hairlineI (s : State) (f : ArmFrame) : Nat :=
  if f.derate then fld (s.shapeRow f) 31 24 else fld (s.shapeRow f) 39 32

/-- The hold decay mode at a switch-off: SLOW, or FAST, with which MIXED begins (R264). -/
def State.holdDecay (s : State) (f : ArmFrame) : Drive := if fld (s.shapeRow f) 9 8 = 0 then .slow else .fast

/-- A channel's pulse changed, with its drive. -/
def State.modPulse (s : State) (v : Valve) (d : Drive) (f : Pulse → Pulse) : State :=
  s.modChan v fun c => { c with drive := d, pulse := c.pulse.map f }

/-- The coil's current for the Blotter from now on (R279). -/
def State.heat (s : State) (v : Valve) (i : Nat) (swell : Bool) : State :=
  s.modValve v fun x => x.heatTo s.clk i swell

/-- The pulse's SWELL_END report (R267). -/
def Pulse.swellEnd (p : Pulse) : D2dMsg :=
  .swellEnd { valve := p.frame.valve, handle := p.frame.handle, ttp := p.ttp, sig := p.sig, drawn := p.drawn, diag := p.diag }

/-- The pulse's OFF report (R267). -/
def Pulse.off (p : Pulse) (recovered : Nat) (samples : List (BitVec 12)) : D2dMsg :=
  .off { valve := p.frame.valve, handle := p.frame.handle, recovered, diag := p.diag, outcome := p.outcome, samples }

/-- The diagnostic of a Swell that reached I_S: NO_MOTION, else time-to-peak against the valve's window (R274). -/
def State.peakDiag (s : State) (v : Valve) (ttp : Nat) (sig : Option Nat) : BitVec 3 :=
  if sig.isNone then 4
  else if ttp < s.pf (0x1180 + v.val) 47 36 then 1
  else if s.pf (0x1180 + v.val) 35 24 < ttp then 2
  else 0

/-! ### The armature signature (R273) -/

/-- Ten samples of 0.1 us: the average over 1 us, times ten. -/
def sum10 (l : List Nat) : Int := ((l.take 10).foldl (· + ·) 0 : Nat)

/-- The slope over 2 us from the first of these samples on. -/
def slopeAt (l : List Nat) : Int := sum10 (l.drop 20) - sum10 l

/-- The first slope window whose slope is at most m_max * SIG_DROP / 16: its centre in samples from C_on. `k` is the place
of the first sample and `m` the largest slope so far, this window's included; before the current has risen there is no
break to find (DEDUCED, log entry 44). The spec does not say how the averages lie in the window: the slope is the difference
of the averages over the first and over the last 1 us of 30 samples, 2 us apart, and their middle, 15 samples after the
first, is the centre (DESIGN CHOICE, log entry 76). -/
def sigSearch (drop : Nat) : Nat → Option Int → List Nat → Option Nat
  | _, _, [] => none
  | k, m, a :: t =>
    if t.length < 29 then none
    else
      let d := slopeAt (a :: t)
      let m := match m with
        | some x => max x d
        | none => d
      if 0 < m && decide (d * 16 ≤ m * drop) then some (k + 15) else sigSearch drop (k + 1) (some m) t

/-- The signature of a Swell from its current samples, one each 0.1 us from C_on: SIG_FROM and SIG_DROP of the valve
(R273). -/
def State.signature (s : State) (v : Valve) (current : List Nat) : Option Nat :=
  let skip := s.pf (0x1180 + v.val) 23 12 * 10
  sigSearch (s.pf (0x1140 + v.val) 10 7) skip none (current.drop skip)

/-- The drive at the direct entry into Hairline: BATTERY at or below the lower edge of the band, the hold decay mode at the
upper one; within the band the spec leaves it open between the two (R264, log entry 14). -/
def State.bandDrive (s : State) (f : ArmFrame) (current : Nat) : Drive × State :=
  if current + fld (s.shapeRow f) 23 16 ≤ 16 * s.hairlineI f then (.battery, s)
  else if current = 16 * s.hairlineI f + fld (s.shapeRow f) 23 16 then (s.holdDecay f, s)
  else
    let (w, s) := s.freeWord
    (if w.getLsbD 0 then .battery else s.holdDecay f, s)

/-- The pulse has left the Swell with a current [mA]: transition above I_H + B/2, else Hairline, and its SWELL_END report
(R263, R265, R267). -/
def State.leaveSwell (s : State) (v : Valve) (p : Pulse) (current : Nat) : State :=
  let aboveBand := decide (16 * s.hairlineI p.frame + fld (s.shapeRow p.frame) 23 16 < current)
  let s := s.heat v (s.hairlineI p.frame) false
  let trans : Drive := if fld (s.shapeRow p.frame) 7 7 = 1 then .slow else .fast
  let (d, s) := if aboveBand then (trans, s) else s.bandDrive p.frame current
  let p := { p with phase := if aboveBand then .transition else .hairline, swellSent := true, chopAt := s.clk, swAt := s.clk }
  (s.modPulse v d fun _ => p).report (quillOfValve v) p.swellEnd

/-- A turn-off that the next Swell of its channel meets ends with it: the channel is in one mode at any moment (R252, R263).
The pulse reports what it has; the energy recovered so far, and whether the recovery met the clamp (R270), are named by no
command and are free (log entries 14, 63). -/
def State.endEarlier (s : State) (v : Valve) : State :=
  match s.vlv.chans[v].pulse with
  | none => s
  | some p =>
    let q := quillOfValve v
    let (w, s) := s.freeWord
    let s := s.modChan v fun c => { c with drive := .off, pulse := none }
    let s := if bit w 47 then s.count (0x1018 + (bankOf v).val) true 1 else s
    let s := if p.swellSent then s else s.report q p.swellEnd
    s.report q (p.off (fld w 19 0) [])

/-- COIL_ON: at tick C_on the Quill starts the Swell of a held ARM; PULSES counts it, and the event's tokens are in coil
(R239, R263, R285). A turn-off that still runs ends then. A channel that was latched or whose Quill has become hot since
refuses the ARM (R282). -/
def execCoilOn (dt : Nat) (v : Valve) (s : State) : Result :=
  let s := s.elapse dt
  let q := quillOfValve v
  let c := s.vlv.chans[v]
  .next (match takeFirst (fun (f : ArmFrame) => (s.quill q).reached f.cOn) c.held with
    | none => s
    | some (f, rest) =>
      if (c.pulse.any fun p => p.phase != .turnOff) || (s.quill q).allOff || (s.quill q).stopped then s
      else if c.latched then (s.modChan v fun c => { c with held := rest }).reportDropped q f 6 .valveFault
      else
        let p : Pulse := { frame := f, phase := .swell, ttp := none, sig := none, drawn := 0, diag := 0, outcome := .fired
                           swellSent := false, startAt := s.clk }
        let s := (s.endEarlier v).modChan v fun c => { c with held := rest, drive := .boost, pulse := some p }
        let s := s.heat v (fld (s.shapeRow f) 47 40) true
        let s := s.modValve v fun x => { x with pulses := x.pulses + 1, dirty := true }
        let (t16, s) := s.quantise (s.vlv.valves[v].theta * 16)
        let start := (s.vlv.banks[bankOf v].v, unsign 16 t16)
        { s with
          nib := { s.nib with
            events := mapIf (fun e => e.id == f.handle && e.st == .armed) (fun e => { e with begun := true }) s.nib.events
            tokens := mapIf (fun t => t.id == f.handle) (fun t => { t with begun := true }) s.nib.tokens }
          vlv := { s.vlv with
            tests := mapIf (fun t => t.handle == f.handle) (fun t => { t with start := some start }) s.vlv.tests } })

/-- The pulse of a channel in one of the phases. -/
def State.pulseIn (s : State) (v : Valve) (l : List Phase) : Option Pulse :=
  s.vlv.chans[v].pulse.filter fun p => l.contains p.phase

/-- I_S of a pulse [mA]. -/
def State.swellI (s : State) (f : ArmFrame) : Nat := 16 * fld (s.shapeRow f) 47 40

/-- SWELL_PEAK: the last of the current samples since C_on is the first that reaches I_S (R263, R273); time-to-peak is the
time from C_on to now, to 1 us (R274). -/
def execSwellPeak (dt : Nat) (v : Valve) (current : List Nat) (drawn : Nat) (s : State) : Result :=
  let s := s.elapse dt
  .next (match s.pulseIn v [.swell] with
    | none => s
    | some p =>
      if current.getLastD 0 < s.swellI p.frame || current.dropLast.any (fun i => decide (s.swellI p.frame ≤ i)) then s
      else
        let sig := s.signature v current
        let (ttp, s) := s.quantise (((s.clk - p.startAt : Nat) : Rat) / 100)
        s.leaveSwell v { p with ttp := some ttp.toNat, sig, drawn, diag := s.peakDiag v ttp.toNat sig } (current.getLastD 0))

/-- SWELL_TO in ticks. -/
def State.swellTo (s : State) (f : ArmFrame) : Nat := fld (s.shapeRow f) 15 10 * 10000

/-- SWELL_TIMEOUT: SWELL_TO has run with every sample below I_S; TTP_LATE (R263, R265, R273). -/
def execSwellTimeout (dt : Nat) (v : Valve) (current : List Nat) (drawn : Nat) (s : State) : Result :=
  let s := s.elapse dt
  .next (match s.pulseIn v [.swell] with
    | none => s
    | some p =>
      if p.startAt + s.swellTo p.frame ≤ s.clk && current.all (fun i => decide (i < s.swellI p.frame)) then
        s.leaveSwell v { p with sig := s.signature v current, drawn, diag := 3 } (current.getLastD 0)
      else s)

/-- TRANSITION_END: the current has fallen to I_H + B/2; Hairline begins in its hold decay mode (R263, R264). -/
def execTransitionEnd (dt : Nat) (v : Valve) (s : State) : Result :=
  let s := s.elapse dt
  .next (match s.pulseIn v [.transition] with
    | none => s
    | some p => s.modPulse v (s.holdDecay p.frame) fun p =>
        { p with phase := .hairline, chopAt := s.clk, swAt := s.clk })

/-- HAIRLINE_CHOP: BATTERY at the lower edge of the band, the hold decay mode at the upper one; each on-time and each off-time
lasts at least 2 us, within which the blanking of 1 us lies; the switching of MIXED blanks for 1 us too (R264). -/
def execHairlineChop (dt : Nat) (v : Valve) (upperEdge : Bool) (s : State) : Result :=
  let s := s.elapse dt
  .next (match s.pulseIn v [.hairline] with
    | none => s
    | some p =>
      if s.clk < p.swAt + 200 || s.clk < p.mixAt + 100 || (s.vlv.chans[v].drive == .battery) != upperEdge then s
      else if upperEdge then s.modPulse v (s.holdDecay p.frame) fun p => { p with chopAt := s.clk, swAt := s.clk }
      else s.modPulse v .battery fun p => { p with swAt := s.clk })

/-- MIXED_DECAY_SWITCH: MIXED_T after a switch-off FAST becomes SLOW (R264). -/
def execMixedDecaySwitch (dt : Nat) (v : Valve) (s : State) : Result :=
  let s := s.elapse dt
  .next (match s.pulseIn v [.hairline] with
    | none => s
    | some p =>
      let w := s.shapeRow p.frame
      if fld w 9 8 = 2 && s.vlv.chans[v].drive == .fast && p.chopAt + fld w 6 1 * 100 ≤ s.clk then
        s.modPulse v .slow fun p => { p with mixAt := s.clk }
      else s)

/-- Turn-off begins: FAST (R263). -/
def State.turnOff (s : State) (v : Valve) (f : Pulse → Pulse) : State :=
  (s.heat v 0 false).modPulse v .fast fun p => { f p with phase := .turnOff }

/-- What a Swell that ends without reaching I_S leaves in the pulse: a signature and the energy drawn (R266). -/
def Pulse.inSwell (p : Pulse) (sig : Option Nat) (drawn : Nat) : Pulse :=
  if p.phase == .swell then { p with sig, drawn } else p

/-- COIL_OFF at tick C_off; `current` holds the samples of a Swell that it ends (R263, R266, R273, R274). -/
def execCoilOff (dt : Nat) (v : Valve) (current : List Nat) (drawn : Nat) (s : State) : Result :=
  let s := s.elapse dt
  .next (match s.pulseIn v [.swell, .transition, .hairline] with
    | none => s
    | some p =>
      if (s.quill (quillOfValve v)).reached p.frame.cOff then
        let sig := s.signature v current
        s.turnOff v fun p =>
          { p.inSwell sig drawn with diag := if p.phase == .swell && sig.isNone then 4 else p.diag }
      else s)

/-- TURN_OFF_END: below 20 mA the channel is OFF and reports; OVERRECOVER counts a pulse whose recovery met the clamp: `peak`,
the highest BSTC_x [1/32 V] while it recovered, reached the bank's ceiling (R257, R263, R267, R270). A channel that decays
with no pulse to report goes OFF (R48). -/
def execTurnOffEnd (dt : Nat) (v : Valve) (recovered : Nat) (peak : Nat) (samples : List (BitVec 12)) (s : State) :
    Result :=
  let s := s.elapse dt
  let q := quillOfValve v
  .next (match s.pulseIn v [.turnOff] with
    | none => if s.vlv.chans[v].pulse.isNone then s.modChan v fun c => { c with drive := .off } else s
    | some p =>
      let s := s.modChan v fun c => { c with drive := .off, pulse := none }
      let s := if s.vlv.banks[bankOf v].ceiling ≤ peak then s.count (0x1018 + (bankOf v).val) true 1 else s
      let s := if p.swellSent then s else s.report q p.swellEnd
      s.report q (p.off recovered samples))

/-! ### Driver protections (R282) -/

/-- VALVE_SHORT: FAST, and the channel is latched off; `current` holds the samples of a Swell that it ends. -/
def execValveShort (dt : Nat) (v : Valve) (current : List Nat) (drawn : Nat) (s : State) : Result :=
  let s := s.elapse dt
  .next (match s.pulseIn v [.swell, .transition, .hairline] with
    | none => s
    | some _ =>
      let s := s.turnOff v fun p => { p.inSwell (s.signature v current) drawn with diag := 6, outcome := .valveFault }
      (s.modChan v fun c => { c with latched := true }).sendD2d (linkOf (quillOfValve v)) (.alert (.short v)))

/-- VALVE_OPEN: a current below 50 mA 50 us after C_on; the channel goes OFF at once, and OPENS counts. `current` holds the
samples since C_on, in which the search of R273 has run. -/
def execValveOpen (dt : Nat) (v : Valve) (current : List Nat) (drawn : Nat) (s : State) : Result :=
  let s := s.elapse dt
  let q := quillOfValve v
  .next (match s.pulseIn v [.swell] with
    | none => s
    | some p =>
      if s.clk < p.startAt + 5000 || decide (50 ≤ current.getLastD 0) then s else
      let p := { p with diag := 5, outcome := .valveFault, sig := s.signature v current, drawn }
      let s := (s.heat v 0 false).modChan v fun c => { c with drive := .off, pulse := none }
      let s := s.count (0x1280 + v.val) false 1
      let s := (s.report q p.swellEnd).report q (p.off 0 [])
      s.sendD2d (linkOf q) (.alert (.openCoil v)))

/-- A channel of a Quill that has become too hot: FAST with code 7, unless it turns off already; held ARMs are refused. -/
def State.hotChan (s : State) (q : Fin 2) (v : Valve) : State :=
  let held := s.vlv.chans[v].held
  let s := s.modChan v fun c => { c with held := [] }
  let s := match s.pulseIn v [.swell, .transition, .hairline] with
    | none => s
    | some _ =>
      let (w, s) := s.freeWord
      s.turnOff v fun p => { p.swellFree w with diag := 7, outcome := .valveFault }
  held.foldl (fun s f => s.reportDropped q f 7 .valveFault) s

/-- QUILL_OVERTEMP: above 165 degrees. -/
def execQuillOvertemp (dt : Nat) (q : Fin 2) (s : State) : Result :=
  let s := s.elapse dt
  let s := s.modQuill q fun k => { k with hot := true }
  .next (((List.range 32).foldl (fun s c => s.hotChan q (chanValve q c)) s).sendD2d (linkOf q) (.alert .overTemp))

/-- QUILL_COOLDOWN: below 145 degrees. -/
def execQuillCooldown (dt : Nat) (q : Fin 2) (s : State) : Result :=
  let s := s.elapse dt
  .next (if (s.quill q).hot then (s.modQuill q fun k => { k with hot := false }).sendD2d (linkOf q) (.alert .cooled) else s)

end Sys2Proof.Machine
end

