-- ==== Sys2Proof/Machine/Reports.lean ====
section
/-! DEFINITION. What the Scribe does with the Quills' reports: tokens, learned delay and Swell energy, final statuses, the
Blotter and the saved counters (R247, R251, R275-R281, R285-R290, R303). -/

namespace Sys2Proof.Machine

/-- A frame that has been processed waits no more (R416). -/
def State.taken (s : State) (q : Fin 2) (m : D2dMsg) : State :=
  match takeFirst (fun w => w.is (linkOf q) m) s.d2d.wait with
  | some (_, r) => { s with d2d := { s.d2d with wait := r } }
  | none => s

/-- D_LEARN of a valve follows A and the temperature [1/16 K] (R276). -/
def State.relearn (s : State) (v : Valve) (t16 : Int) : State :=
  let kappa := s.ps (0x1140 + v.val) 32 21
  s.modValve v fun x => { x with dLearn := learnedDelay x.acc kappa t16 }

/-- DELAY_LEARNING: a measured signature [0.1 us] enters A (R275, R276). -/
def State.learnDelay (s : State) (v : Valve) (sig : Nat) : State :=
  let x := s.vlv.valves[v]
  let (t16, s) := s.quantise (x.theta * 16)
  let kappa := s.ps (0x1140 + v.val) 32 21
  let meas : Int := (sig * 10 + s.pf (0x1140 + v.val) 44 33 * 100 : Nat)
  let norm := 16 * (meas * 16 - kappa * (t16 - 320))
  let folded := x.acc + (norm - x.acc) / (2 ^ s.pf (0x1140 + v.val) 47 45 : Nat)
  let near := decide ((meas - x.dLearn).natAbs ≤ s.pf (0x1140 + v.val) 20 11 * 100)
  let s := if !x.seeded && !near then s.count (0x1280 + v.val) true 1 else s
  let s := s.modValve v fun x =>
    if x.seeded then { x with acc := norm, seeded := false, dirty := true }
    else if near then { x with acc := folded, outlier := 0, dirty := true }
    else if x.outlier = 7 then { x with acc := norm, outlier := 0, dirty := true }
    else { x with outlier := x.outlier + 1 }
  s.relearn v t16

/-- The Swell energy learns (R277). -/
def ValveSt.learnEnergy (x : ValveSt) (drawn : Nat) : ValveSt :=
  let e := if x.eSeeded then drawn else ((x.eSwell : Int) + ((drawn : Int) - x.eSwell) / 8).toNat
  { x with eSwell := e, eSeeded := false, dirty := true }

/-- A measurement is folded into the valve (R275, R277, R278). -/
def State.fold (s : State) (r : SwellReport) : State :=
  let v := r.valve
  let s := match r.sig with
    | some g =>
      if (r.diag == 0 || r.diag == 1 || r.diag == 2) && s.pf (0x1140 + v.val) 0 0 = 0 then s.learnDelay v g else s
    | none => s
  if r.diag == 0 || r.diag == 1 || r.diag == 2 || r.diag == 4 then s.modValve v fun x => x.learnEnergy (sat 20 r.drawn)
  else s

/-- A VALVE_TEST in progress. -/
def State.test? (s : State) (h : HandleId) : Option TestRun := s.vlv.tests.find? fun t => t.handle == h

/-- SWELL_END at the Scribe: the tokens leave in coil, and the measurement is folded; for a VALVE_TEST only with FOLD
(R251, R267, R275, R277, R288). An ARM dropped before its coil-on had no Swell. -/
def execSwellEnd (dt : Nat) (q : Fin 2) (r : SwellReport) (s : State) : Result :=
  let s := s.elapse dt
  .next (if !s.nibRuns then s else
    let token := s.nib.tokens.find? fun t => t.id == r.handle && t.begun
    let s := (s.taken q (.swellEnd r)).dropTokens r.handle true
    let s := match token with
      | none => s
      | some k =>
      let s := s.modValve r.valve fun x =>
        { x with ttpLast := r.ttp.getD x.ttpLast, sigLast := r.sig.getD x.sigLast, drawnLast := r.drawn }
      let note (t : TestRun) : TestRun := { t with ttp := r.ttp.getD 0, sig := r.sig.getD 0, drawn := r.drawn }
      let s := { s with vlv := { s.vlv with tests := mapIf (fun t => t.handle == r.handle) note s.vlv.tests } }
      if k.fold then s.fold r else s
    s.mark (nibEngine (bankOf r.valve)))

/-- Free words in place of measurements that were not made (log entry 14). -/
def State.freeWords (s : State) : Nat → List Word × State
  | 0 => ([], s)
  | n + 1 =>
    let (w, s) := s.freeWord
    let (l, s) := s.freeWords n
    (w :: l, s)

/-- Four samples to a word, the first in [47:36]; positions past the last sample are zero (R290). -/
def sampleWords : List Nat → List Word
  | a :: b :: c :: d :: r => fields [(47, 36, a), (35, 24, b), (23, 12, c), (11, 0, d)] :: sampleWords r
  | [] => []
  | [a] => [fields [(47, 36, a)]]
  | [a, b] => [fields [(47, 36, a), (35, 24, b)]]
  | [a, b, c] => [fields [(47, 36, a), (35, 24, b), (23, 12, c)]]

/-- The completion of a VALVE_TEST (R290). -/
def State.finishTest (s : State) (t : TestRun) (st : Status) (recovered : Nat) (diag : BitVec 3)
    (samples : List (BitVec 12)) : State :=
  let s := { s with vlv := { s.vlv with tests := s.vlv.tests.filter fun x => x.handle != t.handle } }
  let (x, s) := s.freeWord
  let (v, th) := t.start.getD (fld x 27 16, fld x 15 0)
  let got := (samples.take t.samples).map (·.toNat)
  let (more, s) := s.freeWords (t.samples - got.length)
  let words := [fields [(47, 36, sat 12 t.ttp), (35, 20, sat 16 t.sig), (19, 0, sat 20 t.drawn)],
    fields [(47, 28, sat 20 recovered), (27, 16, v), (15, 0, th)], word (unsign 48 t.cOn)]
  s.complete t.handle st (b2n t.cleared * 2 ^ 8 + diag.toNat) t.samples
    (words ++ sampleWords (got ++ more.map fun w => fld w 11 0))

/-- The status of an event whose pulse has ended (R247). -/
def Event.status (e : Event) (o : PulseOutcome) : Status :=
  match o with
  | .valveFault => .valveFault
  | .cut => .cancelled
  | .fired => if e.late then .firedLate else if e.moved then .staggered else .ok

/-- OFF at the Scribe: tokens still reserved are released (those of an armed event that a CUT ends before its Swell stay in the
ledger until then too: DESIGN CHOICE, log entry 76), the counters take the diagnostic, and the event or the
VALVE_TEST ends (R247, R267, R274, R284, R287, R290). -/
def execOffReport (dt : Nat) (q : Fin 2) (r : OffReport) (s : State) : Result :=
  let s := s.elapse dt
  .next (if !s.nibRuns then s else
    let refused := s.nib.tokens.any fun t => t.id == r.handle && !t.begun
    let s := (s.taken q (.off r)).dropTokens r.handle false
    let s := if refused then s else
      let s := s.modValve r.valve fun x => { x with lastDiag := r.diag, recovLast := r.recovered }
      if r.diag == 1 || r.diag == 2 || r.diag == 3 then s.count (0x1240 + r.valve.val) true 1
      else if r.diag == 4 then s.count (0x1240 + r.valve.val) false 1
      else s
    let s := match s.test? r.handle with
      | some t => s.finishTest t (if r.outcome == PulseOutcome.valveFault then Status.valveFault else Status.ok) r.recovered r.diag r.samples
      | none =>
        match s.event? r.handle with
        | some e => s.retire r.handle (e.status r.outcome) r.diag
        | none => s
    (s.mark (nibEngine (bankOf r.valve))).drainCheck)

/-- ALERT at the Scribe: it reports what the Quill has done or measured by itself, and changes no state of its own
(section 1.5, R282). -/
def execAlert (dt : Nat) (q : Fin 2) (a : AlertMsg) (s : State) : Result :=
  let s := s.elapse dt
  .next (s.taken q (.alert a))

/-! ### The Blotter (R279-R281) -/

/-- One coil's update over `ms` milliseconds (R276, R279, R280). -/
def State.blot (s : State) (v : Valve) (ms : Nat) : State :=
  let b := bankOf v
  let x := s.vlv.valves[v]
  let x := x.heatTo s.clk x.heatI x.heatSwell
  let t : Rat := (ms : Rat) / 1000
  let r : Rat := (s.pf (0x1100 + v.val) 47 32 : Rat) / 1000 * (1 + 393 / 100000 * (x.theta - 20))
  let p := r * x.heat / t
  let rth : Rat := (s.pf (0x1100 + v.val) 31 20 : Rat) / 10
  let delta := x.delta + (p * rth - x.delta) * t / (s.pf (0x1100 + v.val) 19 10 : Rat)
  let theta := (s.ps (0x1010 + b.val) 19 12 : Rat) + delta
  let w := s.work (0x1014 + b.val)
  let y := ({ x with heat := 0, delta, theta } : ValveSt).judge (fld w 47 40) (fld w 39 32) s.vlv.banks[b].inhibit
  let s := s.modValve v fun _ => y
  let (t16, s) := s.quantise (theta * 16)
  s.relearn v t16

/-- BLOTTER_UPDATE, every 1 ms; after a SORT recall over the elapsed milliseconds (R279, R425). -/
def execBlotterUpdate (dt : Nat) (s : State) : Result :=
  let s := s.elapse dt
  let ms := (s.clk - s.vlv.blotAt) / 100000
  .next (if !s.nibRuns || ms = 0 then s
    else
      let s := (List.finRange 64).foldl (fun s v => s.blot v ms) s
      { s with vlv := { s.vlv with blotAt := s.vlv.blotAt + ms * 100000 } })

/-! ### Saved counters (R286, R303) -/

/-- The store with the learned values and counts of every valve and the clamp energies. -/
def State.saveAll (s : State) : WTable :=
  let valve (t : WTable) (n : Fin 64) : WTable :=
    let x := s.vlv.valves[n]
    tset (tset (tset t (0x1200 + n.val) x.pulses) (accKey n.val) (BitVec.ofInt 48 x.acc)) (seedKey n.val)
      (fields [(27, 8, x.eSwell), (1, 1, b2n x.eSeeded), (0, 0, b2n x.seeded)])
  let clamp (t : WTable) (n : Fin 16) : WTable := tset t (0x2030 + n.val) s.sw.ch[n].clampHi
  (List.finRange 16).foldl clamp ((List.finRange 64).foldl valve s.par.store)

/-- Something to save has changed since the last save. -/
def State.unsaved (s : State) : Bool :=
  s.vlv.valves.any (·.dirty) ||
    (List.finRange 16).any fun n => s.sw.ch[n].clampHi != (tget s.par.store (0x2030 + n.val)).getD 0

/-- VALVE_COUNTER_SAVE: after 60 minutes, or at the end of DRAINING (R286). A save that fails leaves the store. -/
def execValveCounterSave (dt : Nat) (ok : Bool) (s : State) : Result :=
  let s := s.elapse dt
  let due := s.vlv.saveDue || (s.unsaved && s.vlv.savedAt + 360000000000 ≤ s.clk)
  .next (if !s.answers || !due then s
    else if ok then
      { s with
        par := { s.par with store := s.saveAll }
        vlv := { s.vlv with
          savedAt := s.clk, saveDue := false
          valves := s.vlv.valves.map fun x => { x with dirty := false } } }
    else { s with vlv := { s.vlv with saveDue := false } })

end Sys2Proof.Machine
end

