-- ==== Sys2Proof/Machine/Boost.lean ====
section
/-! DEFINITION. Boost banks: the voltage reports and the ledger, regulation, BOOST_SET and the ramped inhibit limit (R239,
R240, R251, R255-R262, R281, R463). -/

namespace Sys2Proof.Machine

/-- E_est [uJ], rounded towards minus infinity, from V [1/32 V] (R239, R256). -/
def State.eEst (s : State) (b : Bank) (v : Nat) : Int :=
  let c := s.pf (0x1010 + b.val) 35 27
  let f := s.pf 0x203 (8 * b.val + 7) (8 * b.val)
  (c : Int) * ((v * v : Nat) - (64 * f * f : Nat)) / 2048

/-- The completion of a BOOST_SET once each of its banks is done: OK, or PARTIAL with a bank left out (R260). -/
def State.boostSettle (s : State) (h : HandleId) : State :=
  let mine (b : Bank) : Bool := s.vlv.banks[b].goalHandle == some h
  let l := (List.finRange 4).filter mine
  if l.isEmpty || l.any fun b => s.vlv.banks[b].goalDone.isNone then s
  else
    let ok := maskOf 4 fun i => mine (Fin.ofNat 4 i) && s.vlv.banks[(Fin.ofNat 4 i : Bank)].goalDone == some true
    let all := l.all fun b => s.vlv.banks[b].goalDone == some true
    let s := s.modBanks fun k =>
      if k.goalHandle == some h then { k with goal := none, goalHandle := none, goalDone := none, reachedAt := none } else k
    s.complete h (if all then .ok else .partialDone) ok 0 []

/-- A bank of a BOOST_SET is done: in regulation, or left out. -/
def State.boostBankDone (s : State) (b : Bank) (ok : Bool) : State :=
  let k := s.vlv.banks[b]
  match k.goalHandle with
  | some h => if k.goalDone.isSome then s else (s.modBank b fun k => { k with goalDone := some ok }).boostSettle h
  | none => s

/-- A bank that has reached the VOLTAGE of its BOOST_SET and has been in regulation for 500 us is done (R260). -/
def State.boostCheck (s : State) (b : Bank) : State :=
  let k := s.vlv.banks[b]
  if k.goal == some k.target && k.reachedAt.isSome && k.ready && k.steady s.clk then s.boostBankDone b true else s

/-- BSTC_x never exceeds 75 V, and is measured to 1 % (R255, R257) [1/32 V]. -/
def maxV : Nat := 2424

/-- BSTC_REPORT: V enters the ledger, and the events that wait for energy are checked (R239, R240, R251); the converter
switches while V does not lie above the target (R255), and the band is watched (R258, R260). A V beyond R257 is none that
a Quill reports. -/
def execBstcReport (dt : Nat) (b : Bank) (v : Nat) (s : State) : Result :=
  let s := s.elapse dt
  .next (if s.dev.code == .off || decide (maxV < v) then s else
    let e := s.eEst b v
    let s := (s.modBank b fun k => ({ k with v, eEst := e } : BankSt).track s.clk s.power.vbatLow).boostCheck b
    if s.nibRuns then (State.checkWaiting s.nib.events.length b (s.joinWait b)).drainCheck else s)

/-- The ALERT with the boost status of a bank's Quill. -/
def State.boostAlert (s : State) (b : Bank) : State :=
  let q := quillOf b
  s.sendD2d (linkOf q) (.alert (.boostStatus (BitVec.ofNat 2 (s.bankReady / 4 ^ q.val))))

/-- BANK_UNREGULATED: BSTC_x has stayed outside its band for 1 ms (R258). -/
def execBankUnregulated (dt : Nat) (b : Bank) (s : State) : Result :=
  let s := s.elapse dt
  .next (if s.vlv.banks[b].ready && s.vlv.banks[b].strayed s.clk then
    ((s.modBank b fun k => { k with ready := false }).count (0x1018 + b.val) false 1).boostAlert b
  else s)

/-- BANK_REGULATED: a bank that left regulation has stayed in its band for 500 us (R258, R260). -/
def execBankRegulated (dt : Nat) (b : Bank) (s : State) : Result :=
  let s := s.elapse dt
  let k := s.vlv.banks[b]
  .next (if k.phase == .regulated && !k.ready && k.steady s.clk then
    ((s.modBank b fun k => { k with ready := true }).boostCheck b).boostAlert b
  else s)

/-- BOOST_RAMP_STEP: 0.25 V towards VOLTAGE, at BOOST_RAMP at the fastest; with the last step a bank that has been in
regulation for 500 us is done (R260). -/
def execBoostRampStep (dt : Nat) (b : Bank) (s : State) : Result :=
  let s := s.elapse dt
  let k := s.vlv.banks[b]
  .next (match k.goal with
    | none => s
    | some g =>
      if k.target = g || s.clk < k.rampAt + ceilDiv 2500000 (s.pf (0x1010 + b.val) 26 20) then s
      else
        let t := if k.target < g then k.target + 1 else k.target - 1
        (s.modBank b fun k =>
          ({ k with target := t, rampAt := s.clk, reachedAt := if t = g then some s.clk else none } : BankSt).track s.clk
            s.power.vbatLow).boostCheck b)

/-- BOOST_SET_TIMEOUT: a bank that has not reached regulation 100 ms after its target reached VOLTAGE is left out; one that
has waits for its 500 us (R260). -/
def execBoostSetTimeout (dt : Nat) (b : Bank) (s : State) : Result :=
  let s := s.elapse dt
  let k := s.vlv.banks[b]
  .next (match k.reachedAt with
    | some t =>
      if s.clk < t + 10000000 then s
      else if k.ready && k.bandAt.isSome then s.boostCheck b
      else s.boostBankDone b false
    | none => s)

/-- A bank leaves an earlier BOOST_SET, which is CANCELLED when it names no other bank still ramping (R261). -/
def State.boostLeave (s : State) (b : Bank) : State :=
  match s.vlv.banks[b].goalHandle with
  | none => s
  | some h =>
    let s := s.modBank b fun k => { k with goal := none, goalHandle := none, goalDone := none, reachedAt := none }
    let left (b : Bank) : Bool := s.vlv.banks[b].goalHandle == some h && s.vlv.banks[b].goalDone.isNone
    if (List.finRange 4).any left then s
    else
      let s := s.modBanks fun k =>
        if k.goalHandle == some h then { k with goal := none, goalHandle := none, goalDone := none, reachedAt := none }
        else k
      s.complete h .cancelled 0 0 []

/-- BOOST_SET (R259-R261). -/
def execBoostSet (dt : Nat) (r : Request) (s : State) : Result :=
  let s := s.elapse dt
  let i : OpInfo := { opc := 0x43, urgent := false, bcast := true, fault := false, minLen := 1, maxLen := 1 }
  let m := fld (arg r 0) 3 0
  let v := fld (arg r 0) 47 36
  let banks := (List.finRange 4).filter fun (b : Bank) => m.testBit b.val
  let low := banks.any fun b => decide (v < s.pf 0x203 (8 * b.val + 7) (8 * b.val) + 16)
  let c6 := firstRej [rejIf (m = 0) (badParam 0 0), rejIf (decide (v < 120) || decide (288 < v) || low) (badParam 0 36)]
  .next (s.serve i r none (rejIf (!s.working) s.badState) c6 s.needHandle fun s =>
    match s.takeRs 0x43 r.src .accepted with
    | none => s.reply 0x43 r .noHandle 0 0 []
    | some (h, s) =>
      let s := s.reply 0x43 r .ramping h.toNat 0 []
      let s := banks.foldl (fun s b => s.boostLeave b) s
      let s := banks.foldl (fun s b => s.modBank b fun k =>
        { k with goal := some v, goalHandle := some h, goalDone := if k.phase == .failed then some false else none
                 rampAt := s.clk, reachedAt := if k.target = v then some s.clk else none }) s
      banks.foldl (fun s b => s.boostCheck b) (s.boostSettle h))

/-- CANCEL of a BOOST_SET: its banks stop at their present targets (R261). -/
def State.boostCancel (s : State) (h : HandleId) : State :=
  (s.modBanks fun k =>
    if k.goalHandle == some h then { k with goal := none, goalHandle := none, goalDone := none, reachedAt := none }
    else k).complete h .cancelled 0 0 []

/-- INHIBIT_RAMP: the limit in force moves 1 K towards the written one each second (R281); at the value, the handles that
wait for the bank take it (R463). -/
def execInhibitRamp (dt : Nat) (b : Bank) (s : State) : Result :=
  let s := s.elapse dt
  let k := s.vlv.banks[b]
  .next (if s.inhGoal b < k.inhibit && k.inhAt + 100000000 ≤ s.clk then
    let n := k.inhibit - 1
    let s := (s.modBank b fun k => { k with inhibit := n, inhAt := s.clk }).judgeBank b
    if n ≠ s.inhGoal b then s
    else
      let hs := s.vlv.banks[b].inhHandles.map (·.1)
      let s := s.modBank b fun k => { k with inhHandles := k.inhHandles.map fun x => (x.1, true) }
      hs.foldl (fun s h => s.inhSettle h) s
  else s)

end Sys2Proof.Machine
end

