-- ==== Sys2Proof/Machine/Bus.lean ====
section
/-! DEFINITION. The plant-bus controller and Mirjan time (chapter 10). -/

namespace Sys2Proof.Machine

/-- The controller works: core clock, no BUS recall, and the part outside OFF and STARTING (R327, R421). -/
def State.busRuns (s : State) : Bool := s.clockRuns && !s.inState [.off, .starting] && !s.frozen 3

/-- The controller takes part in the traffic. -/
def State.busOn (s : State) : Bool := s.busRuns && (s.bus.st == .errorActive || s.bus.st == .errorPassive)

/-- The state that the error counters give (R328). -/
def Bus.confine (b : Bus) : Bus :=
  if b.st == .errorActive || b.st == .errorPassive then
    { b with st := if 128 ≤ b.tec ∨ 128 ≤ b.rec_ then .errorPassive else .errorActive }
  else b

/-- The disciplined time [10 ps] of a start-of-frame edge `ago` ticks, less `half` of one, before this tick, as the time base
read at the edge, less the synchroniser's 10 ns (R331). -/
def State.sofTime (s : State) (ago : Nat) (half : Bool) : Int :=
  (if !half then s.past10 (ago * 1000) else if ago = 0 then s.at10 500 else s.past10 (ago * 1000 - 500)) - 1000

/-- What the steps applied after a moment of `clk` have added [10 ps]. -/
def State.stepShift (s : State) (since : Nat) : Int :=
  (s.time.history.filter fun h => decide (since < h.1)).foldl (fun a h => a + h.2 * 1000 / 2 ^ 32) 0

/-- The moment of a start-of-frame edge in the scale of now (R204). -/
def State.sofNow (s : State) (ago : Nat) (half : Bool) : Int := s.sofTime ago half + s.stepShift (s.clk - ago)

/-- The slot start of an offered frame in the scale of a past moment of `clk`. -/
def Offer.startAt (o : Offer) (at_ : Nat) : Int :=
  o.start - (o.moves.filter fun m => decide (at_ < m.1)).foldl (fun a m => a + m.2) 0

/-! ### Mirjan schedule (R340, R341) -/

/-- ROLE in force. -/
def Bus.role (b : Bus) : Nat := fld b.m1 47 46
/-- RANK in force. -/
def Bus.rank (b : Bus) : Nat := fld b.m1 45 42
/-- The device acts as master. -/
def Bus.isMaster (b : Bus) : Bool := b.role = 2 || (b.role = 1 && b.acting)
/-- Ticks of a slot. -/
def Bus.slotLen (b : Bus) : Nat := fld b.m1 23 10 * 100
/-- Ticks of a cycle. -/
def Bus.cycle (b : Bus) : Nat := fld b.m1 29 24 * b.slotLen
/-- Ticks of REF_PERIOD. -/
def Bus.refPeriod (b : Bus) : Nat := fld b.m1 39 30 * 100000
/-- Ticks of GUARD. -/
def Bus.guard (b : Bus) : Nat := fld b.m1 9 0 * 100
/-- Start of the cycle that holds a full time. -/
def Bus.cycleStart (b : Bus) (x : Int) : Int := x - x % (b.cycle : Int)
/-- Start of the slot 0 that holds a full time, if one does. -/
def Bus.slot0 (b : Bus) (x : Int) : Option Int :=
  if x % (b.cycle : Int) < (b.slotLen : Int) then some (b.cycleStart x) else none

/-- An 11-bit identifier in the place of R337. -/
def baseId (n : Nat) : BitVec 29 := BitVec.ofNat 29 (n * 2 ^ 18)
/-- The 11-bit identifier of a base frame. -/
def canId11 (f : CanFrame) : Nat := f.id.toNat / 2 ^ 18

/-- Rank of a Mirjan frame whose range starts at `base`; none for another frame. -/
def rankIn (base : Nat) (f : CanFrame) : Option Nat :=
  if !f.ide && !f.rtr && decide (base ≤ canId11 f) && decide (canId11 f < base + 16) then some (canId11 f - base) else none
/-- Rank of a reference frame (R342). -/
def Bus.refRank (b : Bus) (f : CanFrame) : Option Nat := rankIn (fld b.m2 26 16) f
/-- Rank of a follow-up frame (R342). -/
def Bus.fupRank (b : Bus) (f : CanFrame) : Option Nat := rankIn (fld b.m2 10 0) f

/-- Byte `i` of a frame; bytes beyond DLC read as zero (R337). -/
def canByte (f : CanFrame) (i : Nat) : Nat := if i < f.dlc.toNat then (f.data.getD i 0).toNat else 0
/-- `n` bytes from byte `i`, the first the most significant. -/
def canBe (f : CanFrame) (i n : Nat) : Nat := (List.range n).foldl (fun a k => a * 256 + canByte f (i + k)) 0
/-- `n` bytes of a number, the most significant first. -/
def beBytes (n v : Nat) : List (BitVec 8) := (List.range n).map fun k => BitVec.ofNat 8 (v / 256 ^ (n - 1 - k))

/-! ### Follower (R344-R346, R352) -/

/-- The rank followed: the lowest one paired within the last three reference periods (R346). -/
def State.followed (s : State) : Option Nat :=
  (s.bus.paired.filter fun p => decide (s.clk ≤ p.2.1 + 3 * s.bus.refPeriod)).foldl
    (fun a p => match a with
      | none => some p.1
      | some r => some (min r p.1)) none

/-- A reference frame: a lower rank ends a backup's mastery; the frame waits for its follow-up (R344, R352). -/
def State.refFrame (s : State) (r : Nat) (f : CanFrame) (sof edge : Int) (ago : Nat) : State :=
  let s := if s.bus.acting && r < s.bus.rank then
      { s with bus := { s.bus with acting := false, ref := none, fup := none, stored := none } }
    else s
  let s := s.count 0x210D false (s.bus.refs.filter fun x => x.rank == r).length
  let x : RefSeen :=
    { rank := r, sof, edge, at_ := s.clk - ago, master := (canBe f 0 2 * 2 ^ 48 + canBe f 2 6 : Nat)
      slot0 := (s.bus.slot0 (sof / 1000)).map (· + (edge - sof) / 1000) }
  { s with bus := { s.bus with refs := (s.bus.refs.filter fun x => x.rank != r) ++ [x] } }

/-- A pair of the followed rank is stored, and disciplines the time base when the source is BUS; its reference is a sign of
life of the source from its arrival on (R200, R345, R346). The first offset after a reset or a TIME_SOURCE has an interval of
0 (R201). -/
def State.storePair (s : State) (x : RefSeen) (f : CanFrame) : State :=
  let m := x.master * 1000 + (canBe f 0 4 : Int)
  let (theta, s) := s.quantise ((x.sof - (m + s.ps 0x2104 31 0) : Int) - s.stepsSince x.at_)
  let dt := match s.bus.stored, s.time.lastOffset with
    | some p, some _ => s.clk - p.at_
    | _, _ => 0
  let flags : Nat := canByte f 4
  let p : Pair := { theta, tRef := x.sof, refAt := x.at_, holdover := flags.testBit 6, calValid := flags.testBit 7, at_ := s.clk }
  let s := { s with bus := { s.bus with stored := some p } }
  if s.time.source = 2 then ((s.sourceHeard x.at_).filter theta dt s.time.forceStep none true).2 else s

/-- A follow-up frame: it is paired with the reference of its rank in the same slot 0, or within a SLOT_LEN after it
(R344). -/
def State.fupFrame (s : State) (r : Nat) (f : CanFrame) (edge : Int) : State :=
  match s.bus.refs.find? fun x => x.rank == r with
  | none => s.count 0x210D false 1
  | some x =>
    let s := { s with bus := { s.bus with refs := s.bus.refs.filter fun x => x.rank != r } }
    let near := match x.slot0 with
      | some a => decide (a * 1000 ≤ edge) && decide (edge < (a + s.bus.slotLen) * 1000)
      | none => decide (edge - x.edge ≤ (s.bus.slotLen : Int) * 1000)
    if !near then s.count 0x210D false 2
    else
      let s := s.count 0x210D true 1
      let paired := (s.bus.paired.filter fun p => p.1 != r) ++ [(r, s.clk, x.slot0.getD (x.edge / 1000))]
      let s := { s with bus := { s.bus with paired } }
      if s.followed = some r then s.storePair x f else s

/-- A received frame taken for timing by a follower (R340, R344). -/
def State.timing (s : State) (f : CanFrame) (sof edge : Int) (ago : Nat) : State :=
  if s.bus.role ≠ 1 then s else
  match s.bus.refRank f, s.bus.fupRank f with
  | some r, _ => s.refFrame r f sof edge ago
  | none, some r => s.fupFrame r f edge
  | none, none => s

/-! ### Reception -/

/-- The receive error counter after a frame received without error (ISO 11898-1; PRESUMED, log entry 23). -/
def State.recDown (s : State) : State :=
  let r := s.bus.rec_
  if 127 < r then
    { s with bus := { s.bus with rec_ := 119 + (Config.recReturn s.freeCtr).val }, freeCtr := s.freeCtr + 1 }
  else { s with bus := { s.bus with rec_ := r - 1 } }

/-- A frame enters the ring, or is lost when it is full (R331). -/
def State.ringIn (s : State) (f : CanFrame) (sof : Int) : State :=
  if 1024 ≤ s.bus.ring.length then ({ s with bus := { s.bus with lost := true } } : State).count 0x2109 false 1
  else
    let mirjan := (s.bus.refRank f).isSome || (s.bus.fupRank f).isSome
    let x : RxFrame := { frame := f, sof, lost := s.bus.lost, mirjan, rule := 0, seq := s.bus.seq }
    { s with bus := { s.bus with ring := s.bus.ring ++ [x], lost := false, seq := s.bus.seq + 1 } }

/-- CAN_FRAME_RECEIVED (R331, R344). The bits of a frame, a stretch of idle bus or an error are progress marks of the
controller, of which the model counts the last (R416, log entry 57). Two bits in error in the scratchpad are a hang of the controller (R419). -/
def execCanFrameReceived (dt : Nat) (f : CanFrame) (sofAgo : Nat) (half : Bool) (ecc : Ecc) (s : State) : Result :=
  let s := s.elapse dt
  .next (if !s.busOn && !(s.busRuns && (s.bus.st == .listen || s.bus.st == .stopping)) then s else
    let lost (s : State) : State :=
      ({ s with bus := { s.bus with lost := true } } : State).count 0x2109 false 1
    match s.engineRead 7 ecc fun s => lost (s.count 0x2108 true 1) with
    | (false, s) => s
    | (true, s) =>
      let s := s.mark 7
      let sof := s.sofTime sofAgo half
      let s := if s.bus.st == .listen then s else s.recDown
      let s := (s.count 0x2108 true 1).ringIn f sof
      let s := { s with bus := s.bus.confine }
      s.timing f sof (s.sofNow sofAgo half) sofAgo)

/-- PROTOCOL_EXCEPTION (R321). -/
def execProtocolException (dt : Nat) (s : State) : Result :=
  let s := s.elapse dt
  .next (if s.busOn || (s.busRuns && s.bus.st == .listen) then
    ({ s.mark 7 with bus := { s.bus with st := .integrating } } : State).count 0x210B true 1
  else if s.busRuns && s.bus.st == .stopping then (s.mark 7).count 0x210B true 1
  else s)

/-- CAN_INTEGRATED (R328). -/
def execCanIntegrated (dt : Nat) (s : State) : Result :=
  let s := s.elapse dt
  .next (if s.busRuns && s.bus.st == .integrating then
    { s.mark 7 with bus := ({ s.bus with st := if fld s.bus.word 1 0 = 2 then .listen else .errorActive } : Bus).confine }
  else s)

/-- CAN_ERROR: a counter rises by the amount that ISO 11898-1 names; above 255 the controller is bus-off (R328, R329). -/
def execCanError (dt : Nat) (transmit : Bool) (amount : Nat) (s : State) : Result :=
  let s := s.elapse dt
  .next (if !s.busOn && !(s.busRuns && s.bus.st == .stopping) then s else
    let b := s.bus
    let b := if transmit then { b with tec := min 256 (b.tec + amount) } else { b with rec_ := min 255 (b.rec_ + amount) }
    let s := { s.mark 7 with bus := b.confine }
    if b.tec = 256 ∧ b.st ≠ .stopping then
      (({ s with bus := { s.bus with st := .busOff } } : State).count 0x210B false 1).flushTx true
    else s)

/-- BUS_OFF_RECOVERY under AUTO_RECOVER (R329). -/
def execBusOffRecovery (dt : Nat) (s : State) : Result :=
  let s := s.elapse dt
  .next (if s.busRuns && s.bus.st == .busOff && bit s.bus.word 2 then
    { s.mark 7 with bus := { s.bus with st := .errorActive, tec := 0, rec_ := 0 } }
  else s)

/-! ### Sending -/

/-- A frame's rank in arbitration: the lower number wins (R339, ISO 11898-1). -/
def canKey (f : CanFrame) : Nat :=
  if f.ide then canId11 f * 2 ^ 21 + 3 * 2 ^ 19 + f.id.toNat % 2 ^ 18 * 2 + b2n f.rtr
  else canId11 f * 2 ^ 21 + b2n f.rtr * 2 ^ 20

/-- Where a frame that is offered comes from. -/
inductive OfferFrom where
  | ref
  | fup
  | slot
  | queue
deriving DecidableEq, Repr

/-- The frames offered at a moment of `clk`, in the order in which equal identifiers go (R339). -/
def Bus.offers (b : Bus) (at_ : Nat) : List (OfferFrom × CanFrame) :=
  let one (k : OfferFrom) (o : Option Offer) : List (OfferFrom × CanFrame) :=
    match o with
    | some x => if x.at_ ≤ at_ then [(k, x.frame)] else []
    | none => []
  one .ref b.ref ++ one .fup b.fup ++ one .slot (b.slotOn.map (·.1)) ++
    ((b.tx.filter fun t => t.slot.isNone && decide (t.at_ ≤ at_)).map fun t => (.queue, t.frame))

/-- The offered frame that wins arbitration. -/
def winner : List (OfferFrom × CanFrame) → Option (OfferFrom × CanFrame)
  | [] => none
  | x :: r =>
    match winner r with
    | none => some x
    | some y => if canKey x.2 ≤ canKey y.2 then some x else some y

/-- The reference frame of a slot start (R342, R343). -/
def State.refFrameOf (s : State) (start : Int) : CanFrame :=
  { ide := false, rtr := false, dlc := 8, id := baseId (fld s.bus.m2 26 16 + s.bus.rank), data := beBytes 8 (unsign 64 start) }

/-- The follow-up of a reference that has been sent: DELTA, from the slot start that the reference carried to its edge, both
as the time base read at the edge, and the master's flags (R342, R343, R351). -/
def State.followUp (s : State) (o : Offer) (sof : Int) (sent : Int) : Offer :=
  let data := beBytes 4 (unsign 32 (sof - sent * 1000)) ++
    [BitVec.ofNat 8 (b2n s.time.calValid * 128 + b2n s.time.holdover * 64)]
  { frame := { ide := false, rtr := false, dlc := 5, id := baseId (fld s.bus.m2 10 0 + s.bus.rank), data },
    start := o.start, at_ := s.clk }

/-- CAN_FRAME_SENT: the offered frame that wins arbitration has gone out without error (R339, R342). A reference carries its
slot start in the scale of its start of frame (R204, R343). -/
def execCanFrameSent (dt : Nat) (sofAgo : Nat) (half : Bool) (s : State) : Result :=
  let s := s.elapse dt
  .next (if !s.busOn && !(s.busRuns && s.bus.st == .stopping) then s else
    match winner (s.bus.offers (s.clk - sofAgo)) with
    | none => s
    | some (k, f) =>
      let sent := (s.bus.ref.map fun o => o.startAt (s.clk - sofAgo)).getD 0
      let s := ((s.mark 7).count 0x210A true 1).emit (.can (if k = .ref then s.refFrameOf sent else f))
      let b := ({ s.bus with tec := s.bus.tec - 1 } : Bus).confine
      let drop (p : TxFrame → Bool) : List TxFrame := match takeFirst p b.tx with
        | some (_, r) => r
        | none => b.tx
      match k with
      | .ref =>
        let fup := b.ref.map fun o => s.followUp o (s.sofTime sofAgo half) sent
        { s with bus := { b with ref := none, fup } }
      | .fup => { s with bus := { b with fup := none } }
      | .slot =>
        let n := b.slotOn.map (·.2)
        { s with bus := { b with slotOn := none, tx := drop fun t => t.slot == n } }
      | .queue => { s with bus := { b with tx := drop fun t => t.slot.isNone && t.frame == f } })

/-- CAN_STOPPING_DONE: the queue is flushed and the waiting word applied (R326). -/
def execCanStoppingDone (dt : Nat) (s : State) : Result :=
  let s := s.elapse dt
  .next (if s.busRuns && s.bus.st == .stopping then (s.flushTx true).applyBus s.bus.waits else s)

/-! ### Filter, shadow and reading buffer (R332, R333) -/

/-- The frame matches an enabled rule (R332). -/
def State.matchesRule (s : State) (f : CanFrame) (r : Nat) : Bool :=
  let a := s.work (0x2140 + 2 * r)
  let mask := fld (s.work (0x2141 + 2 * r)) 28 0
  bit a 47 && (f.id.toNat &&& mask) == (fld a 28 0 &&& mask) && (!bit a 44 || f.ide == bit a 45)

/-- A start of frame lies within a slot's start ± GUARD of the device's own schedule (R349). -/
def Bus.inSlot (b : Bus) (sof : Int) (n : Nat) : Bool :=
  let cyc : Int := (b.cycle : Int) * 1000
  let d := (sof - (n * b.slotLen : Nat) * 1000) % cyc
  decide (n < fld b.m1 29 24) && (decide (d ≤ (b.guard : Int) * 1000) || decide (cyc - d ≤ (b.guard : Int) * 1000))

/-- RING_DRAIN: the oldest frame leaves the ring, and is kept or discarded (R16, R332, R333, R349). -/
def execRingDrain (dt : Nat) (ecc : Ecc) (s : State) : Result :=
  let s := s.elapse dt
  .next (match s.bus.ring with
    | [] => s
    | x :: rest =>
      if !s.answers || !s.clockRuns || 128 ≤ s.bus.shadow.length then s else
      let s := { s with bus := { s.bus with ring := rest } }
      match ecc with
      | .uncorrectable => s.uncorrected.count 0x2109 false 1
      | _ =>
        let s := if ecc = .corrected then s.corrected else s
        let rule := (List.range 64).find? fun r => s.matchesRule x.frame r
        let keep := match rule with
          | some r => bit (s.work (0x2140 + 2 * r)) 46
          | none => bit s.bus.m2 40
        let late := match rule with
          | some r =>
            let a := s.work (0x2140 + 2 * r)
            bit a 43 && !s.bus.inSlot x.sof (fld a 42 38)
          | none => false
        if !keep then s.count 0x2109 true 1
        else if late then (s.count 0x210E true 1).count 0x2109 true 1
        else { s with bus := { s.bus with shadow := s.bus.shadow ++ [{ x with rule := rule.getD 127 }] } })

/-- The shadow becomes the reading buffer when that is empty (R333). -/
def Bus.swap (b : Bus) : Bus := if b.reading.isEmpty then { b with reading := b.shadow, shadow := [] } else b

/-- Up to `n` frames for a BUS_READ, with a swap whenever the reading buffer is found empty or runs empty (R333, R336). -/
def Bus.take (b : Bus) : Nat → List RxFrame × Bus
  | 0 => ([], b.swap)
  | n + 1 =>
    let b := b.swap
    match b.reading with
    | [] => ([], b)
    | x :: r =>
      let (l, b) := ({ b with reading := r } : Bus).take n
      (x :: l, b)

/-- The four words of a frame record (R337). -/
def RxFrame.words (x : RxFrame) : List Word :=
  let f := x.frame
  [word (unsign 48 (x.sof / 1000)),
   fields [(47, 47, b2n f.ide), (46, 46, b2n f.rtr), (45, 42, f.dlc.toNat), (41, 41, b2n x.lost), (40, 40, b2n x.mirjan),
     (39, 33, x.rule), (28, 0, f.id.toNat)],
   word (canBe f 0 6),
   fields [(47, 32, canBe f 6 2), (25, 16, (x.sof % 1000).toNat), (15, 0, x.seq.toNat)]]

/-- The state code of the controller (R328). -/
def BusSt.num : BusSt → Nat
  | .off => 0
  | .integrating => 1
  | .errorActive => 2
  | .errorPassive => 3
  | .busOff => 4
  | .listen => 5
  | .stopping => 6

/-- BUS_READ (R336, R337). -/
def execBusRead (dt : Nat) (r : Request) (s : State) : Result :=
  let s := s.elapse dt
  let i : OpInfo := { opc := 0x62, urgent := false, bcast := false, fault := true, minLen := 1, maxLen := 1 }
  let n := fld (arg r 0) 5 0
  .next (s.serve i r none none none none fun s =>
    let (l, b) := s.bus.take n
    let s := ({ s with bus := b } : State).count 0x2108 false l.length
    let w := fields [(47, 45, b.st.num), (44, 36, b.tec), (35, 28, sat 8 b.rec_),
      (26, 16, b.ring.length + b.shadow.length + b.reading.length), (15, 0, b.seq.toNat)]
    let part := decide (l.length < n)
    s.reply 0x62 r (if part then .partialDone else .ok) 0 (if part then l.length else 0) (w :: l.flatMap (·.words)))

/-! ### Commands -/

/-- BUS_CONFIG: 2100h in the working copy (R323-R326, R341). -/
def execBusConfig (dt : Nat) (r : Request) (s : State) : Result :=
  let s := s.elapse dt
  let i : OpInfo := { opc := 0x60, urgent := false, bcast := false, fault := false, minLen := 1, maxLen := 1 }
  let fs := (paramFields 0x2100).getD []
  let w := arg r 0
  let bad := match lesser (badField fs w) (busBad 0x2100 w (s.work 0x2101) (s.work 0x2102) (s.work 0x2103)) with
    | some b => badParam 0 b
    | none => none
  .next (s.serve i r none (rejIf (!s.working) s.badState) bad none fun s =>
    (s.busWrite (mergeWrite fs (s.work 0x2100) w)).ok 0x60 r)

/-- The frame of a BUS_SEND (R338). -/
def sendFrame (r : Request) : CanFrame :=
  let w := arg r 0
  let ide := bit w 47
  let id := fld w 28 0
  let dlc := fld w 45 42
  let bytes := beBytes 6 (arg r 1).toNat ++ beBytes 2 (fld (arg r 2) 47 32)
  { ide, rtr := bit w 46, dlc := BitVec.ofNat 4 dlc, id := BitVec.ofNat 29 (if ide then id else id / 2 ^ 18 * 2 ^ 18)
    data := if bit w 46 then [] else bytes.take dlc }

/-- The identifier lies in a Mirjan range (R338). -/
def Bus.mirjanId (b : Bus) (f : CanFrame) : Bool :=
  let g : CanFrame := { f with rtr := false }
  (b.refRank g).isSome || (b.fupRank g).isSome

/-- BUS_SEND (R330, R338). SLOT has a range, and R338 declares it ignored nowhere: it is judged whatever IN_SLOT holds (R487,
log entry 66). -/
def execBusSend (dt : Nat) (r : Request) (s : State) : Result :=
  let s := s.elapse dt
  let i : OpInfo := { opc := 0x61, urgent := false, bcast := false, fault := false, minLen := 3, maxLen := 3 }
  let w := arg r 0
  let f := sendFrame r
  let slot := fld w 40 36
  let st := s.bus.st
  let c5 := firstRej [rejIf (!s.working) s.badState, rejIf (st == .busOff) (some (.busOff, 0)),
    rejIf (st == .off || st == .listen || st == .stopping || (st == .integrating && decide (fld s.bus.word 1 0 = 2))) s.badState]
  let c7 := rejIf (decide (256 ≤ s.bus.tx.length)) (some (.busy, 0))
  let slotBad := slot = 0 || decide (fld s.bus.m1 29 24 ≤ slot) || !(fld s.bus.m3 31 0).testBit slot
  let c6 := firstRej [rejIf (s.bus.mirjanId f) (badParam 0 0), rejIf slotBad (badParam 0 36),
    rejIf (decide (8 < fld w 45 42)) (badParam 0 42)]
  .next (s.serve i r none c5 c6 c7 fun s =>
    let t : TxFrame := { frame := f, slot := if bit w 41 then some slot else none, at_ := s.clk }
    ({ s with bus := { s.bus with tx := s.bus.tx ++ [t] } } : State).reply 0x61 r .ok 0 (255 - s.bus.tx.length) [])

/-- BUS_FILTER: every rule is written in one tick (R335). -/
def execBusFilter (dt : Nat) (r : Request) (s : State) : Result :=
  let s := s.elapse dt
  let i : OpInfo := { opc := 0x63, urgent := false, bcast := false, fault := false, minLen := 3, maxLen := 129,
                      lenOk := fun n => n % 2 == 1 }
  let first := fld (arg r 0) 5 0
  let n := (r.words.length - 1) / 2
  .next (s.serve i r (rejIf (decide (64 < first + n)) (some (.badLength, 129 * 256 + 3))) (rejIf (!s.working) s.badState)
    none none fun s =>
    let write (s : State) (x : Word × Nat) : State :=
      let id := 0x2140 + 2 * first + x.2
      s.setWork id (mergeWrite ((paramFields id).getD []) 0 x.1)
    ((r.words.drop 1).zipIdx.foldl write s).reply 0x63 r .ok 0 n [])

/-! ### Master and slots -/

/-- The offer of the reference frame of a slot (R342). -/
def State.refOffer (s : State) (start : Int) : Offer := { frame := s.refFrameOf start, start, at_ := s.clk }

/-- A backup takes over at a reference slot start: the last paired reference of a lower rank lies (2 + RANK) reference
periods back; with none paired since the reset, the model counts from when the configuration took effect (log entry 39). A reference counts from the start of the own slot 0 that holds it, as the row for 300 ms of section 10.13
has it, and from its own edge outside one (R351). -/
def State.takesOver (s : State) (start : Int) : Bool :=
  let b := s.bus
  let last := match b.paired.filter fun p => decide (p.1 < b.rank) with
    | [] => b.origin
    | p :: r => r.foldl (fun a p => max a p.2.2) p.2.2
  b.role = 1 && bit b.m1 41 && 1 ≤ b.rank && !b.acting
    && decide (last + ((2 + b.rank) * b.refPeriod : Nat) ≤ start)

/-- The controller may offer frames. -/
def State.busOffers (s : State) : Bool :=
  s.busOn || (s.busRuns && s.bus.st == .integrating && decide (fld s.bus.word 1 0 = 1))

/-- REFERENCE_SLOT_START, once in its tick (R181, R341, R342, R351). -/
def execReferenceSlotStart (dt : Nat) (s : State) : Result :=
  let s := s.elapse dt
  let start := s.bus.cycleStart s.full
  .next (if !s.busRuns || s.bus.cycle = 0 || !s.reached start || start % (s.bus.refPeriod : Int) ≠ 0
      || s.bus.cycleAt = some s.clk then s
    else
      let s := { s with bus := { s.bus with cycleAt := some s.clk } }
      let s := if s.takesOver start then { s with bus := { s.bus with acting := true } } else s
      if s.bus.isMaster && s.busOffers then { s with bus := { s.bus with ref := some (s.refOffer start) } } else s)

/-- FOLLOW_UP_WITHDRAW: slot 0 has ended (R342). -/
def execFollowUpWithdraw (dt : Nat) (s : State) : Result :=
  let s := s.elapse dt
  .next (match s.bus.fup with
    | some o =>
      if s.busRuns && o.start + (s.bus.slotLen : Int) ≤ s.full then
        ({ s with bus := { s.bus with fup := none } } : State).count 0x210C false 1
      else s
    | none => s)

/-- SLOT_GUARD_EXPIRY: a reference or a slot frame has not started by its slot start + GUARD (R342, R348). -/
def execSlotGuardExpiry (dt : Nat) (s : State) : Result :=
  let s := s.elapse dt
  let late (o : Offer) : Bool := s.busRuns && decide (o.start + (s.bus.guard : Int) ≤ s.full)
  .next (if (s.bus.ref.map late).getD false then
      ({ s with bus := { s.bus with ref := none } } : State).count 0x210C false 1
    else if (s.bus.slotOn.map fun o => late o.1).getD false then
      ({ s with bus := { s.bus with slotOn := none } } : State).count 0x210C false 1
    else s)

/-- The projected error e at a slot start [10 ps]; none when it is unbounded (R347). -/
def State.project (s : State) (start : Int) : Option Rat :=
  if s.bus.isMaster then some 0
  else match s.bus.stored with
    | none => none
    | some p =>
      if p.at_ ≤ s.bus.since then none
      else
        let res : Rat := (p.theta : Rat) + (phaseAdded p.refAt s.clk s.time.phases : Int) * 1000 / 2 ^ 32 + s.stepsSince p.refAt
        let age : Int := start * 1000 - p.tRef
        some ((if res < 0 then -res else res) + (fld s.bus.m2 39 32 : Rat) * (age : Rat) / 1000000 + 500)

/-- SLOT_START: an owned slot begins; its oldest frame is offered, or the slot skipped, once in its tick (R181, R339, R347). -/
def execSlotStart (dt : Nat) (s : State) : Result :=
  let s := s.elapse dt
  let b := s.bus
  let in_ := s.full - b.cycleStart s.full
  let n := if b.slotLen = 0 then 0 else (in_ / b.slotLen).toNat
  let start := b.cycleStart s.full + (n * b.slotLen : Nat)
  .next (if !s.busOffers || b.slotLen = 0 || !s.reached start || !(fld b.m3 31 0).testBit n || b.slotAt = some s.clk then s
    else match b.tx.find? fun t => t.slot == some n with
      | none => s
      | some t =>
        let b := { b with slotAt := some s.clk }
        let s := { s with bus := b }
        let within := match s.project start with
          | some e => decide (2 * e ≤ (b.guard : Rat) * 1000)
          | none => false
        if within then { s with bus := { b with slotOn := some ({ frame := t.frame, start, at_ := s.clk }, n) } }
        else ({ s with health := { s.health with slotMargin := true } } : State).count 0x210C true 1)

/-- MIRJAN_CONFIG_APPLY: the next cycle start of the new configuration, while the controller works (R421); the slot frames of
the transmit queue are flushed, and counted nowhere (R354). -/
def execMirjanConfigApply (dt : Nat) (s : State) : Result :=
  let s := s.elapse dt
  let w := s.work 0x2101
  let cyc : Int := (fld w 29 24 * fld w 23 10 * 100 : Nat)
  .next (if !s.bus.due || !s.busRuns || cyc = 0 || !s.reached (s.full - s.full % cyc) then s
    else
      let b := s.bus
      let keep := b.tx.filter fun t => t.slot.isNone
      { s with bus := { b with
        m1 := w, m2 := s.work 0x2102, m3 := s.work 0x2103, since := s.clk, origin := s.full - s.full % cyc, due := false
        tx := keep, slotOn := none, ref := none, fup := none
        acting := b.acting && decide (fld w 47 46 = 1) && bit w 41 } })

/-- The next start after now of a slot of SLOT_MASK; none with an empty mask (R353). -/
def State.nextSlot (s : State) : Option Int :=
  let b := s.bus
  let base := b.cycleStart s.full
  let at_ (n : Nat) : Int :=
    let x := base + (n * b.slotLen : Nat)
    if x ≤ s.full then x + b.cycle else x
  ((bitsOf 32 (fld b.m3 31 0)).map at_).foldl (fun a x => match a with
    | none => some x
    | some y => some (min x y)) none

/-- BUS_TIME (R353); e between two units of 10 ps, or past its unsigned field, is a free value (log entries 12, 14). -/
def execBusTime (dt : Nat) (r : Request) (s : State) : Result :=
  let s := s.elapse dt
  let i : OpInfo := { opc := 0x64, urgent := false, bcast := false, fault := false, minLen := 0, maxLen := 0 }
  .next (s.serve i r none (rejIf (!s.working) s.badState) none none fun s =>
    let b := s.bus
    let f := if b.role = 1 then s.followed else none
    let p := b.stored
    let w1 := fields [(47, 46, b.role), (45, 45, b2n b.isMaster), (44, 41, b.rank), (40, 37, f.getD 0), (36, 36, b2n f.isSome),
      (35, 35, b2n ((p.map (·.holdover)).getD false)), (34, 34, b2n ((p.map (·.calValid)).getD false))]
    let (th, s) := s.wordOf ((p.map (·.theta)).getD 0)
    let next := s.nextSlot
    let (e, s) := match next with
      | none => (-1#48, s)
      | some x =>
        match s.project x with
        | none => (-1#48, s)
        | some q =>
          let (v, s) := s.quantise q
          if 0 ≤ v ∧ v < 2 ^ 48 then (BitVec.ofInt 48 v, s) else s.freeWord
    s.reply 0x64 r .ok 0 0 [w1, th, word (unsign 48 (((p.map (·.tRef)).getD 0) / 1000)), e,
      word (unsign 48 (next.getD 0))])

end Sys2Proof.Machine
end

