-- ==== Sys2Proof/Machine/Regs.lean ====
section
/-! DEFINITION. The twelve registers, the service port and the serial watchdog (chapter 5). -/

namespace Sys2Proof.Machine

/-- STATE (R158). -/
def State.regState (s : State) : Word :=
  fields [(18, 16, s.time.source.toNat), (15, 12, s.bankReady), (11, 8, s.bankEn), (7, 4, s.dev.startStep),
    (3, 0, s.dev.code.num)]

/-- CAUSE (R37, R159). -/
def State.regCause (s : State) : Word :=
  fields [(9, 9, b2n s.power.cause.1), (8, 8, b2n s.power.cause.2.1), (7, 0, s.power.cause.2.2)]

/-- CHAIN (R160). -/
def State.regChain (s : State) : Word :=
  fields [(21, 16, s.pf 0x34 5 0), (11, 11, b2n s.clocks.refin), (10, 10, b2n s.dev.cutOff),
    (9, 9, b2n (s.portUp .down)), (8, 8, b2n (s.portUp .up)), (6, 6, b2n s.dev.master), (5, 0, s.dev.addr.toNat)]

/-- FAULTS (R166). -/
def State.regFaults (s : State) : Word :=
  fields [(47, 40, s.faults.priorFirst.toNat), (31, 24, s.faults.priorBits.toNat), (23, 16, s.faults.first.toNat),
    (7, 0, s.faults.bits.toNat)]

/-- HEALTH (R168). -/
def State.regHealth (s : State) : Word :=
  fields [(47, 40, s.health.ce.toNat), (39, 36, s.health.ue.toNat), (23, 23, b2n s.calLimit),
    (22, 22, b2n s.health.slotMargin), (21, 21, b2n (s.vlv.valves.any (·.warn))), (20, 20, b2n s.dev.cutOff),
    (19, 19, b2n s.health.linkNew), (18, 18, b2n s.clocks.rfLoss), (17, 17, b2n s.clocks.holdSince.isSome),
    (16, 16, b2n s.power.vbatHigh), (15, 15, b2n s.power.vbatLow), (11, 8, s.bankMask (·.startFail))]

/-- WATCH; write-only fields read zero (R170). -/
def State.regWatch (s : State) : Word :=
  fields [(47, 47, b2n s.watch.enable), (46, 46, b2n s.watch.expired), (45, 44, s.watch.why.toNat),
    (41, 32, s.watch.period)]

/-- KENNEL (R176). -/
def State.regKennel (s : State) : Word :=
  fields [(34, 33, s.kennel.reason.toNat), (32, 32, b2n s.kennel.active), (31, 0, s.kennel.stored.toNat)]

/-- CONTROL; FORCE_FAULT and RESET_REQ read zero (R161). -/
def State.regControl (s : State) : Word :=
  fields [(3, 3, b2n s.regs.svcOnly), (2, 2, b2n s.regs.faultNHold)]

/-- The value of a register, with the era to return for ERA (R155, R157, R164); addresses above 11 read zero (R148). -/
def State.reg (s : State) (era : BitVec 16) (a : Nat) : Word :=
  match a with
  | 0 => fields [(47, 32, 0x0A3D), (31, 16, 0x6416), (15, 8, 0x10)]
  | 1 => s.regState
  | 2 => s.regCause
  | 3 => s.regChain
  | 4 => s.regControl
  | 5 => s.time.n
  | 6 => word era.toNat
  | 7 => s.regFaults
  | 8 => s.regHealth
  | 9 => s.regWatch
  | 10 => s.regKennel
  | 11 => s.regs.mailbox
  | _ => 0

/-- SORTING ends as at SORT_STOP: the part stops taking records and drains; a pending restart is cancelled (R174, R246,
R434). -/
def State.stopSorting (s : State) (cause : Nat) : State :=
  let s := { s with dog := { s.dog with restartAt := none, auto := some false } }
  if s.dev.code == .sorting then (s.drain cause).drainCheck else s

/-- Expiry of the serial watchdog: the Kennel states are entered, enabled banks disabled, SORTING ends and a restart that
waits, or that the drain after an abort would bring, is cancelled (R174, R312, R434). All-off prevails over the Kennel states
(R25). -/
def State.expire (s : State) (why : BitVec 2) : State :=
  let s := { s with watch := { s.watch with enable := false, expired := true, why } }
  if s.dev.dead.isSome then s else
  let before := (s.bankEn, s.kennel.active)
  let s := s.kennelEnter 1
  let s := s.disableBanks s.bankEn (s.pf 0x50 3 0) false
  if s.dev.code == .sorting then s.stopSorting 2
  else
    let s := { s with dog := { s.dog with restartAt := none, auto := some false } }
    (if (s.bankEn, s.kennel.active) != before then s.stateRec s.dev.code 2 else s).drainCheck

/-- T in ticks (R173). -/
def State.watchT (s : State) : Nat := s.watch.period * 100000

/-- Token after `t` (R171). -/
def nextToken (t : BitVec 8) : BitVec 8 := 5 * t + 0x3B

/-- EXPIRED 1 in a write clears EXPIRED and WHY, whatever its OP (R170). -/
def State.clearExpired (s : State) (clear : Bool) : State :=
  if clear then { s with watch := { s.watch with expired := false, why := 0 } } else s

/-- A CONFIGURE with ENABLE 1 is refused (R172). -/
def State.configRefused (s : State) (clear : Bool) : Bool := s.watch.enable || (s.watch.expired && !clear)

/-- CONFIGURE (R172). Of two enabling ones in one WRITE_REG, which are both judged by the state before it (R153), the first
stands (DESIGN CHOICE, log entry 74). -/
def State.watchConfigure (s : State) (enable clear : Bool) (period : Nat) (seed token : BitVec 8) : State :=
  if enable then
    if s.configRefused clear then s
    else
      let s := s.clearExpired clear
      { s with watch := { s.watch with enable := true, period, next := seed, fedAt := s.time.core } }
  else
    let s := s.clearExpired clear
    if !s.watch.enable then s
    else if token = s.watch.next then { s with watch := { s.watch with enable := false } }
    else s.expire 3

/-- FEED: the window is [T/2, T) (R172, R173). A wrong token in the very tick in which T ends shows WHY 11b, as one that comes
at any other moment (DESIGN CHOICE, log entry 74). -/
def State.watchFeed (s : State) (clear : Bool) (token : BitVec 8) : State :=
  let s := s.clearExpired clear
  if !s.watch.enable then s
  else if token ≠ s.watch.next then s.expire 3
  else if 2 * (s.time.core - s.watch.fedAt) < s.watchT then s.expire 2
  else if s.watch.fedAt + s.watchT ≤ s.time.core then s.expire 1
  else { s with watch := { s.watch with fedAt := s.time.core, next := nextToken token } }

/-- A write to WATCH by its OP (R170-R172). -/
def State.watchWrite (s : State) (w : Word) : State :=
  let clear := bit w 46
  match fld w 31 28 with
  | 0 => s.watchFeed clear (BitVec.ofNat 8 (fld w 7 0))
  | 1 => s.watchConfigure (bit w 47) clear (fld w 41 32) (BitVec.ofNat 8 (fld w 23 16)) (BitVec.ofNat 8 (fld w 7 0))
  | 2 => s.clearExpired true
  | _ => s

/-- A register that a path may write (R155). -/
def writable (a : Nat) : Bool := a == 4 || a == 8 || a == 9 || a == 11

/-- The place of a reserved field value in a written value; the fields that WATCH's OP ignores are not judged (R149,
R153, R170). -/
def regBadField (a : Nat) (w : Word) : Option Nat :=
  if a = 9 then
    if 2 < fld w 31 28 then some 28
    else if fld w 31 28 = 1 ∧ bit w 47 ∧ ¬(10 ≤ fld w 41 32 ∧ fld w 41 32 ≤ 1000) then some 32
    else none
  else none

/-- The present state refuses the write: an enabling CONFIGURE that R172 refuses, a RESET_REQ outside IDLE and FAULT
without FORCE_FAULT (R153, R162). -/
def State.regRefused (s : State) (a : Nat) (w : Word) : Bool :=
  (a = 9 && fld w 31 28 = 1 && bit w 47 && s.configRefused (bit w 46)) ||
  (a = 4 && bit w 0 && !bit w 1 && !s.inState [.idle, .fault])

/-- FORCE_FAULT, then RESET_REQ, in one write (R161-R163). -/
def State.controlActs (s : State) (force reset : Bool) : State :=
  let s := if force then s.enterFault 7 else s
  if reset && s.inState [.idle, .fault] then s.ferruleReset else s

/-- The corrected and the uncorrectable errors counted in this tick: what a clear of the counts in the same tick leaves
(R169). -/
def State.eccNow (s : State) (corrected : Bool) : Nat :=
  let w := (tget s.seenNow 0x51).getD 0
  if corrected then fld w 47 24 else fld w 23 0

/-- The link's register writes of this tick, in their order. -/
def State.linkNow (s : State) : List (Nat × Word) := if s.regs.linkAt = s.clk then s.regs.linkWrote else []

/-- A register write of the link is noted for its tick (R154). -/
def State.noteLink (s : State) (a : Nat) (w : Word) : State :=
  { s with regs := { s.regs with
      linkAt := s.clk, linkWrote := s.linkNow ++ [(a, w)]
      watchWas := if s.linkNow.isEmpty then s.watch else s.regs.watchWas } }

/-- An accepted write of a register by a path (R154, R155, R161, R168, R169, R177). -/
def State.regApply (s : State) (p : Path) (a : Nat) (w : Word) : State :=
  let s := if p = Path.link then s.noteLink a w else s
  match a with
  | 4 =>
    let s := { s with regs := { s.regs with
      svcOnly := if p = Path.svc then bit w 3 else s.regs.svcOnly, faultNHold := bit w 2 } }
    s.controlActs (bit w 1) (bit w 0)
  | 8 => { s with health :=
      { ce := if fld w 47 40 = 0 then s.health.ce else BitVec.ofNat 8 (sat 8 (s.eccNow true))
        ue := if fld w 39 36 = 0 then s.health.ue else BitVec.ofNat 4 (sat 4 (s.eccNow false))
        slotMargin := s.health.slotMargin && !bit w 22
        linkNew := s.health.linkNew && !bit w 19 } }
  | 9 => s.watchWrite w
  | 11 => { s with regs := { s.regs with
      mailbox := w, mbNew := s.regs.mbNew || p == Path.link, mbSince := s.regs.mbSince || p == Path.link } }
  | _ => s

/-- WATCH as the service port's write of this tick meets it: before the link's (R154, R175). -/
def State.beforeLink (s : State) : State :=
  if s.linkNow.any fun x => x.1 == 9 then { s with watch := s.regs.watchWas } else s

/-- An accepted write of the service port. It comes before the link's writes of its tick, whichever stands first in the
queue: those of WATCH are taken after it, and in CONTROL and MAILBOX the link's values stand (R154, R175). -/
def State.svcApply (s : State) (a : Nat) (w : Word) : State :=
  let l := (s.linkNow.filter fun x => x.1 == a).map (·.2)
  if a = 9 then l.foldl (fun s w => s.watchWrite w) (s.beforeLink.regApply .svc 9 w)
  else
    let t := s.regApply .svc a w
    match l.getLast? with
    | none => t
    | some v =>
      if a = 4 && t.dev.code != .off then { t with regs := { t.regs with faultNHold := bit v 2 } }
      else if a = 11 then { t with regs := { t.regs with mailbox := v } }
      else t

/-- The service port answers: from the end of step 1b on, while the Scribe has its supply and clock (R150, R491). -/
def State.svcAlive (s : State) : Bool := s.dev.code != .off && s.clockRuns

/-- The status byte of the service port (R147). -/
def State.svcStatus (s : State) : BitVec 8 :=
  BitVec.ofNat 8 (b2n (s.dev.code == .fault) * 128 + b2n s.watch.expired * 64 + b2n s.regs.mbNew * 32
    + b2n s.regs.rejected * 16 + s.dev.code.num)

/-- The write is refused: a read-only or absent register, a reserved value, a state that refuses it; over the link also
SVC_ONLY; on the service port any write while the command processor hangs (R149, R153, R156, R491). -/
def State.writeRefused (s : State) (p : Path) (a : Nat) (w : Word) : Bool :=
  !writable a || (regBadField a w).isSome || s.regRefused a w ||
  (p == Path.link && s.regs.svcOnly && a != 11) || (p == Path.svc && s.dev.dead == some .hung)

/-- A service-port frame begins: REJECTED tells of the frame before it (R147). -/
def State.svcFrame (s : State) (refused : Bool) : State :=
  { s with regs := { s.regs with rejected := s.regs.refusing, refusing := refused } }

/-- One register write through a path: carried out or refused; a refusal on the service port shows in REJECTED of the next
frame (R147, R149). -/
def State.regWrite (s : State) (p : Path) (a : Nat) (w : Word) : State :=
  match p with
  | .svc =>
    if !s.svcAlive then s
    else if s.beforeLink.writeRefused .svc a w then { s with regs := { s.regs with refusing := true } }
    else s.svcApply a w
  | .link =>
    if !s.answers then s else if s.writeRefused .link a w then s else s.regApply .link a w

/-- The command byte of a service-port write frame: the status byte goes out; ADDR 12-15 is refused (R147, R149). -/
def State.svcWriteFrame (s : State) (a : Nat) : State :=
  if !s.svcAlive then s
  else
    let s := s.svcFrame (decide (11 < a))
    s.emit (.service s.svcStatus [])

/-- REGISTER_WRITE: any write that has no row of its own (R149, R155). On the service port a frame begins with its command
byte, which names ADDR and carries no value yet; each value is written in the tick of its last bit (R147, R148). -/
def execRegisterWrite (dt : Nat) (path : Path) (addr : BitVec 4) (value : Option Word) (s : State) : Result :=
  let s := s.elapse dt
  .next (match value, path with
    | some w, _ => s.regWrite path addr.toNat w
    | none, .svc => s.svcWriteFrame addr.toNat
    | none, .link => s)

/-- FORCE_FAULT: a write of CONTROL that sets it, FAULT_N_HOLD and SVC_ONLY as they are (R161). -/
def execForceFault (dt : Nat) (path : Path) (s : State) : Result :=
  let s := s.elapse dt
  .next (s.regWrite path 4 (s.regControl ||| 2))

/-- RESET_REQ (R162). -/
def execResetReq (dt : Nat) (path : Path) (s : State) : Result :=
  let s := s.elapse dt
  .next (s.regWrite path 4 (s.regControl ||| 1))

/-- FORCE_FAULT_AND_RESET (R163). -/
def execForceFaultAndReset (dt : Nat) (path : Path) (s : State) : Result :=
  let s := s.elapse dt
  .next (s.regWrite path 4 (s.regControl ||| 3))

/-- MAILBOX_WRITE (R177). -/
def execMailboxWrite (dt : Nat) (path : Path) (value : Word) (s : State) : Result :=
  .next ((s.elapse dt).regWrite path 11 value)

/-- MAILBOX_READ on the service port: MB_NEW clears, unless the link has written since the capture (R177). -/
def execMailboxRead (dt : Nat) (s : State) : Result :=
  let s := s.elapse dt
  .next (if s.svcAlive && !s.regs.mbSince then { s with regs := { s.regs with mbNew := false } } else s)

/-- INSTANT_READ: the path's era latch is loaded; on the service port with the era captured with INSTANT (R148, R164). -/
def execInstantRead (dt : Nat) (path : Path) (s : State) : Result :=
  let s := s.elapse dt
  .next (match path with
    | .svc => if s.svcAlive then { s with regs := { s.regs with eraSvc := s.regs.eraCapt } } else s
    | .link => if s.answers then { s with regs := { s.regs with eraLink := s.shown.time.e } } else s)

/-- SERVICE_READ_FRAME: the status byte and the values of one capture; a frame that names INSTANT returns the captured
era for ERA (R147, R148, R165). -/
def execServiceReadFrame (dt : Nat) (addr : BitVec 4) (values : Nat) (s : State) : Result :=
  let s := s.elapse dt
  .next (if !s.svcAlive then s
    else
      let as := (List.range values).map (addr.toNat + ·)
      let era := if as.contains 5 then s.shown.time.e else s.regs.eraSvc
      let s := s.svcFrame false
      let s' := { s with regs := { s.regs with eraCapt := s.shown.time.e, mbSince := false } }
      s'.emit (.service s.svcStatus (as.map (s.shown.reg era))))

/-- WATCH_CONFIGURE (R172). -/
def execWatchConfigure (dt : Nat) (path : Path) (enable clearExpired : Bool) (period : BitVec 10)
    (seed token : BitVec 8) (s : State) : Result :=
  .next ((s.elapse dt).regWrite path 9 (fields [(47, 47, b2n enable), (46, 46, b2n clearExpired),
    (41, 32, period.toNat), (31, 28, 1), (23, 16, seed.toNat), (7, 0, token.toNat)]))

/-- WATCH_FEED (R172). -/
def execWatchFeed (dt : Nat) (path : Path) (clearExpired : Bool) (token : BitVec 8) (s : State) : Result :=
  .next ((s.elapse dt).regWrite path 9 (fields [(46, 46, b2n clearExpired), (7, 0, token.toNat)]))

/-- WATCH_CLEAR (R172). -/
def execWatchClear (dt : Nat) (path : Path) (s : State) : Result :=
  .next ((s.elapse dt).regWrite path 9 (fields [(46, 46, 1), (31, 28, 2)]))

/-- WATCHDOG_EXPIRY: the tick in which T ends (R173, R174). The watchdog is core 0's (log entry 16). -/
def execWatchdogExpiry (dt : Nat) (s : State) : Result :=
  let s := s.elapse dt
  .next (if s.watch.enable && s.clockRuns && s.watch.fedAt + s.watchT ≤ s.time.core then s.expire 1 else s)

/-- KENNEL_SWITCH_ON: the next channel, START_INTERVAL after the previous one (R312). -/
def execKennelSwitchOn (dt : Nat) (s : State) : Result :=
  let s := s.elapse dt
  .next (match s.kennel.queue with
    | [] => s
    | n :: r =>
      if s.kennel.active && s.ferruleLive && s.kennel.lastAt + s.startInterval ≤ s.clk then
        let s := s.swKennelOn n
        { s with kennel := { s.kennel with queue := r, lastAt := s.clk } }
      else s)

/-! ### Requests on registers -/

/-- READ_REG (R152, R165). -/
def execReadReg (dt : Nat) (r : Request) (s : State) : Result :=
  let s := s.elapse dt
  let i : OpInfo := { opc := 0x04, urgent := true, bcast := false, fault := true, minLen := 1, maxLen := 12 }
  let bad := firstRej (r.words.zipIdx.map fun (w, k) => rejIf (decide (11 < fld w 3 0)) (badParam k 0))
  .next (s.serve i r none none bad none fun s =>
    let as := r.words.map fun w => fld w 3 0
    let s := if as.contains 5 then { s with regs := { s.regs with eraLink := s.shown.time.e } } else s
    s.reply 0x04 r .ok 0 0 (as.map (s.shown.reg s.regs.eraLink)))

/-- A reply that leaves before a reset takes the port, with the class's next link sequence number and its CRC (R70, R71,
R143, R162). -/
def State.emitReply (s : State) (opc : Nat) (r : Request) (detail : Nat) : State :=
  if r.dst == 62 || r.noreply || !s.portUp r.port then s
  else
    let header := mkHeader r.src s.dev.addr opc r.tag 1 true false r.urgent
    s.emit (.packet r.port header [word detail] (crcWord header [word detail] ((s.port r.port).lane r.urgent).txSeq))

/-- WRITE_REG: every pair is checked before any is written (R109, R153, R156). After a RESET_REQ nothing more is written: the
registers hold their reset values. -/
def execWriteReg (dt : Nat) (r : Request) (s : State) : Result :=
  let s := s.elapse dt
  let i : OpInfo := { opc := 0x05, urgent := false, bcast := false, fault := true, minLen := 2, maxLen := 24,
                      lenOk := fun n => n % 2 == 0 }
  let ps := pairs r.words
  let st := rejIf (ps.any fun (a, w) => (s.regs.svcOnly && fld a 3 0 != 11) || s.regRefused (fld a 3 0) w) s.badState
  let bad := firstRej (ps.zipIdx.map fun ((a, w), k) =>
    if !writable (fld a 3 0) then badParam (2 * k) 0
    else match regBadField (fld a 3 0) w with
      | some b => badParam (2 * k + 1) b
      | none => none)
  .next (s.serve i r none st bad none fun s =>
    let t := ps.foldl (fun s (a, w) => if s.dev.code == .off then s else s.regApply .link (fld a 3 0) w) s
    if t.dev.code == .off then
      let e := s.emitReply 0x05 r ps.length
      { t with out := e.out }
    else t.reply 0x05 r .ok 0 ps.length [])

/-- PING (R133). -/
def execPing (dt : Nat) (r : Request) (s : State) : Result :=
  let s := s.elapse dt
  let i : OpInfo := { opc := 0x00, urgent := true, bcast := true, fault := true, minLen := 0, maxLen := 0 }
  .next (s.serve i r none none none none fun s => s.reply 0x00 r .ok 0 0 [s.regState])

/-- IDENTIFY (R134). -/
def execIdentify (dt : Nat) (r : Request) (s : State) : Result :=
  let s := s.elapse dt
  let i : OpInfo := { opc := 0x02, urgent := false, bcast := false, fault := true, minLen := 0, maxLen := 0 }
  .next (s.serve i r none none none none fun s =>
    let a := s.fw.active
    let active := if a then s.fw.version1 else s.fw.version0
    let other := if a then (if s.fw.valid0 then s.fw.version0 else 0) else (if s.fw.valid1 then s.fw.version1 else 0)
    s.reply 0x02 r .ok 0 0 [s.reg 0 0,
      fields [(47, 32, active.toNat), (31, 16, other.toNat), (0, 0, b2n a)], Config.serial])

/-- A disciplined time [10 ps] as an instant and its fraction (R183). -/
def stampWords (x : Int) : List Word := [BitVec.ofInt 48 (x / 1000), BitVec.ofInt 48 (x % 1000)]

/-- ECHO: the request arrived `ago` [10 ps] before the start of this tick, and the reply departs `sub` after it; both
stamps are the device's disciplined time of those moments (R95, R183). -/
def execEcho (dt : Nat) (r : Request) (ago sub : Nat) (s : State) : Result :=
  let s := s.elapse dt
  let i : OpInfo := { opc := 0x03, urgent := true, bcast := false, fault := true, minLen := 0, maxLen := 16 }
  .next (s.serve i r none none none none fun s =>
    s.reply 0x03 r .ok 0 0 (stampWords (s.past10 ago) ++ stampWords (s.at10 sub) ++ r.words))

end Sys2Proof.Machine
end

