-- ==== Sys2Proof/Machine/Firmware.lean ====
section
/-! DEFINITION. Loading and activating a firmware image (R140-R143). -/

namespace Sys2Proof.Machine

/-- The inactive slot becomes valid with a version, or invalid (R140, R142). -/
def Firmware.setOther (f : Firmware) (valid : Bool) (version : BitVec 16) : Firmware :=
  if f.active then { f with valid0 := valid, version0 := version } else { f with valid1 := valid, version1 := version }

/-- FW_BEGIN (R140). -/
def execFwBegin (dt : Nat) (r : Request) (s : State) : Result :=
  let s := s.elapse dt
  let i : OpInfo := { opc := 0xF0, urgent := false, bcast := false, fault := false, minLen := 2, maxLen := 2 }
  let len := fld (arg r 0) 20 0
  let c5 := firstRej [rejIf (!s.working) s.badState, rejIf (s.hnd.rs.live.any fun l => l.opc == 0xF0) (some (.busy, 0))]
  .next (s.serve i r none c5 (rejIf (decide (len < 4096) || decide (1048576 < len)) (badParam 0 0)) s.needHandle fun s =>
    s.accept 0xF0 r .accepted fun h s =>
      { s with fw := { s.fw.setOther false 0 with load := some { handle := h, len, crc := BitVec.ofNat 32 (fld (arg r 1) 31 0) } } })

/-- FW_ERASE_DONE (R140). -/
def execFwEraseDone (dt : Nat) (s : State) : Result :=
  let s := s.elapse dt
  .next { s with fw := { s.fw with load := s.fw.load.map fun l => { l with erased := true } } }

/-- The load that a handle ID names. -/
def State.loadOf (s : State) (r : Request) : Option Load :=
  s.fw.load.filter fun l => l.handle.toNat == fld (arg r 0) 15 0

/-- NO_SUCH_HANDLE with the handle ID received (R110). -/
def noSuch (r : Request) : Reject := some (.noSuchHandle, fld (arg r 0) 15 0)

/-- The next block is written: words beyond the image length are ignored (R141). -/
def Load.write (l : Load) (off : Nat) (data : List Word) : Load :=
  { l with words := (l.words ++ data).take ((l.len + 5) / 6), bytes := l.bytes + 6 * data.length
           lastOff := some off, last := data }

/-- FW_BLOCK: the next block is written, the last one again is answered OK (R141). -/
def execFwBlock (dt : Nat) (r : Request) (s : State) : Result :=
  let s := s.elapse dt
  let i : OpInfo := { opc := 0xF1, urgent := false, bcast := false, fault := false, minLen := 2, maxLen := 255 }
  let off := fld (arg r 0) 35 16
  let data := r.words.drop 1
  .next (match s.loadOf r with
    | none => s.serve i r none (noSuch r) none none id
    | some l =>
      let again := l.lastOff = some off ∧ l.last = data
      s.serve i r none (rejIf (!l.erased) (some (.busy, 0))) (rejIf (decide (off ≠ l.bytes ∧ ¬again)) (badParam 0 16)) none
        fun s =>
        let l' := if off = l.bytes then l.write off data else l
        ({ s with fw := { s.fw with load := some l' } } : State).ok 0xF1 r)

/-- The bytes of the image received: no byte beyond its length (R141). -/
def Load.image (l : Load) : List (BitVec 8) := (l.words.flatMap wordBytes).take l.len

/-- The CRC-32 of the image bytes (R71, R140). -/
def Load.crcOf (l : Load) : BitVec 32 := ~~~(l.image.foldl crcByte 0xFFFFFFFF)

/-- DETAIL of IMAGE_BAD: 1 length, 2 CRC, 3 header; 0 for a good image (R142). -/
def Load.verdict (l : Load) : Nat :=
  if l.bytes < l.len then 1 else if l.crcOf ≠ l.crc then 2 else if Config.imageHeaderOk l.image then 0 else 3

/-- FW_END: OK, and then the completion of the FW_BEGIN (R142). -/
def execFwEnd (dt : Nat) (r : Request) (s : State) : Result :=
  let s := s.elapse dt
  let i : OpInfo := { opc := 0xF2, urgent := false, bcast := false, fault := false, minLen := 1, maxLen := 1 }
  .next (match s.loadOf r with
    | none => s.serve i r none (noSuch r) none none id
    | some l => s.serve i r none none none none fun s =>
      let v := l.verdict
      let s := s.ok 0xF2 r
      let fw := { s.fw with load := none }
      let s := { s with fw := if v = 0 then fw.setOther true (Config.imageVersion l.image) else fw }
      s.complete l.handle (if v = 0 then .ok else .imageBad) v 0 [])

/-- FW_SWITCH: OK, the other slot, and a reset (R36, R143). -/
def execFwSwitch (dt : Nat) (r : Request) (s : State) : Result :=
  let s := s.elapse dt
  let i : OpInfo := { opc := 0xF3, urgent := false, bcast := false, fault := true, minLen := 1, maxLen := 1 }
  let other := if s.fw.active then s.fw.valid0 else s.fw.valid1
  let c5 := rejIf (!s.inState [.idle, .fault] || !other) s.badState
  .next (s.serve i r none c5 (rejIf (!bit (arg r 0) 0) (badParam 0 0)) none fun s =>
    let s := s.emitReply 0xF3 r 0
    ({ s with fw := { s.fw with active := !s.fw.active } } : State).ferruleReset)

end Sys2Proof.Machine
end

