-- ==== Sys2Proof/Machine/GnssOps.lean ====
section
/-! DEFINITION. The GNSS baseband's shared operations: the sample clock and the NCO models, the start of a channel, the
dump path, bits, frames and parity, the loops, and the Retriever's queue (R58-R62, R366, R374-R390). -/

namespace Sys2Proof.Machine

/-! ### Sample counts and instants (R61) -/

/-- The sample count at a disciplined time [10 ps], with its fraction; the counter stands while RF_CLK is absent (R358). -/
def State.sampleAt (s : State) (x : Rat) : Rat :=
  let x := match s.clocks.still with
    | some y => min x (s.noted y)
    | none => x
  (s.clocks.sample.toNat : Rat) + (x - s.edge10) * sampleRate

/-- The difference of two counts of the 48-bit sample counter. -/
def sampleDiff (a b : Rat) : Rat := a - b - 2 ^ 48 * ((a - b) / 2 ^ 48 + 1 / 2).floor

/-- The disciplined time [10 ps] of a sample count. -/
def State.timeOf (s : State) (n : Rat) : Rat := s.edge10 + sampleDiff n (s.clocks.sample.toNat : Rat) / sampleRate

/-- The present sample count. -/
def State.sampleNow (s : State) : Rat := s.sampleAt (s.now10 : Rat)

/-- The present sample count has come to `n`. Between two captures the count is taken at the nominal rate, from which
RF_CLK may differ by 200 ppm, 4 samples in an epoch (R57). -/
def State.samplePast (s : State) (n : Nat) : Bool := decide (0 ≤ sampleDiff (s.sampleNow + 4) (n : Rat))

/-- A phase in chips brought into one code period. -/
def wrapChips (x : Rat) : Rat := x - 1023 * (x / 1023).floor

/-! ### Channels and their NCO models (R374, R377, R379) -/

/-- A channel changed. -/
def State.modPtr (s : State) (c : PChan) (f : Pointer → Pointer) : State :=
  { s with gnss := { s.gnss with chans := s.gnss.chans.set c (f s.gnss.chans[c]) } }

/-- CH_STATE (R392). -/
def ChSt.num : ChSt → Nat
  | .free => 0
  | .pullIn => 1
  | .track => 2
  | .reacquire => 3
  | .lost => 4
  | .stopped => 5

/-- A channel correlates and closes dumps. -/
def ChSt.runs : ChSt → Bool
  | .pullIn | .track | .reacquire => true
  | _ => false

/-- The sign s of R357. -/
def Gnss.sgn (g : Gnss) : Rat := if g.invert then -1 else 1

/-- UPDATE in milliseconds (R365). -/
def updateMs (u : Nat) : Nat := [1, 2, 5, 10, 20].getD u 1

/-- Code phase [chips] and carrier phase [cycles] of the model at a sample count; a stopped channel's model is held. -/
def State.nco (s : State) (p : Pointer) (n : Rat) : Rat × Rat :=
  let d := if p.st == .stopped then 0 else sampleDiff n (p.at_ : Rat)
  let d := if d < 0 && p.epoch = 0 then 0 else d
  (p.code + d * p.codeInc / 2 ^ 32, p.car + d * ((p.carInc : Rat) / 2 ^ 32 - (s.gnss.ifFreq : Rat) / 16368000))

/-- The last counted sample: the present sample count as a number of 48 bits. -/
def State.lastSample (s : State) : Nat := (s.sampleNow.floor % 2 ^ 48).toNat

/-- The model of a channel moved to the last counted sample. -/
def State.advance (s : State) (c : PChan) : State :=
  let p := s.gnss.chans[c]
  let n := s.lastSample
  let k := (sampleDiff (n : Rat) (p.at_ : Rat)).floor.toNat
  let x := s.nco p (n : Rat)
  if k = 0 then s
  else s.modPtr c fun p =>
    { p with at_ := n, code := x.1, car := x.2, carNco := p.carNco + BitVec.ofNat 32 (k * p.carInc), taken := p.taken + k }

/-- A stopped channel's model goes on from the last counted sample, with the phases it held (R364). -/
def State.goOn (s : State) (c : PChan) : State :=
  let n := s.lastSample
  s.modPtr c fun p => { p with at_ := n }

/-- Samples from `at_` to the first one at or past chip 0 of the next code period (R374, R375). -/
def Pointer.left (p : Pointer) : Int := ((1023 - p.code) * 2 ^ 32 / p.codeInc).ceil

/-- The count of a dump whose EPOCH field is `e`, which lies near the present update period (R376). -/
def Pointer.dumpNo (p : Pointer) (e : BitVec 12) : Nat :=
  let d := (e.toNat + 4096 - p.next % 4096) % 4096
  if d < 2048 then p.next + d else p.next + d - 4096

/-- An NCO increment for a frequency [Hz] (R374). -/
def State.increment (s : State) (f : Rat) : Nat × State :=
  let (x, s) := s.nearest (f * 2 ^ 32 / 16368000)
  (unsign 32 x, s)

/-- The code phase [chips] that the code NCO can hold next to one (R374). -/
def State.codeStep (s : State) (x : Rat) : Rat × State :=
  let (n, s) := s.nearest (x * 2 ^ 32)
  ((n : Rat) / 2 ^ 32, s)

/-- A channel starts on a PRN from a code phase [chips] and a Doppler [Hz] that hold at a disciplined time [10 ps] (R371,
R379). Of the code epochs within 3 ms of the reply a free value picks the one (log entry 26); the carrier NCO starts anywhere
(log entry 14). -/
def State.startChannel (s : State) (c : PChan) (prn : Fin 32) (update spacing : Nat) (dopp code x10 : Rat) : State :=
  let rate := (1023000 + dopp / 1540) / 16368000
  let n := s.sampleNow
  let now := wrapChips (code + (n - s.sampleAt x10) * rate)
  let k := (Config.startEpochs s.freeCtr).val
  let e := n + (1023 * (k + 1 : Nat) - now) / rate
  let s := { s with freeCtr := s.freeCtr + 1 }
  let f := (s.gnss.ifFreq : Rat) + s.gnss.sgn * dopp
  let (ci, s) := s.increment f
  let (ki, s) := s.increment (1023000 + dopp / 1540)
  let (code, s) := s.codeStep (((e.ceil : Rat) - e) * rate)
  let (w, s) := s.freeWord
  let p : Pointer :=
    { st := if s.clocks.rfLoss then .stopped else .pullIn
      prn, update, spacing, carInc := ci, codeInc := ki, at_ := (e.ceil % 2 ^ 48).toNat, code, carNco := w.setWidth 32
      fInt := f, dopp, cn0At := s.clk, clearAt := s.clk }
  s.modPtr c fun _ => p

/-- The lowest FREE channel. -/
def State.freeChan (s : State) : Option PChan := (List.finRange 16).find? fun (c : PChan) => s.gnss.chans[c].st == .free

/-- A channel but `c` holds a PRN. -/
def State.prnHeld (s : State) (prn : Nat) (c : Option PChan) : Bool :=
  (List.finRange 16).any fun (d : PChan) => s.gnss.chans[d].st != .free && s.gnss.chans[d].prn.val == prn && some d != c

/-- A channel enters REACQUIRE (R384). -/
def State.reacquire (s : State) (c : PChan) : State :=
  (s.modPtr c fun p =>
    { p with st := .reacquire, reacqs := p.reacqs + 1, reacqNew := true, run := 0, tries := 0, failedAt := none }).count
    0x2209 true 1

/-! ### The Retriever's queue (R366, R385) -/

/-- The Retriever is busy. -/
def State.retrBusy (s : State) : Bool := s.gnss.running.isSome || s.gnss.reacqOn.isSome

/-- An idle Retriever takes up the next work: reacquisition searches before queued ACQUIREs (R366, R385). `wasBusy`: it
was busy until this tick. -/
def State.retrNext (s : State) (wasBusy : Bool) : State :=
  if s.retrBusy || !s.gnss.on || s.frozen 1 then s else
  match s.gnss.reacqs with
  | c :: r => { s.wake 4 wasBusy with gnss := { s.gnss with reacqOn := some c, reacqs := r, reacqFrom := s.lastSample } }
  | [] =>
    match s.gnss.queued with
    | a :: r => { s.wake 4 wasBusy with gnss := { s.gnss with running := some (a, .waits s.full), queued := r } }
    | [] => s

/-- The searches of a set of channels are dropped (R361, R364, R380). -/
def State.dropSearches (s : State) (p : PChan → Bool) : State :=
  let on := match s.gnss.reacqOn with
    | some c => if p c then none else some c
    | none => none
  let s' := { s with gnss := { s.gnss with reacqs := s.gnss.reacqs.filter fun c => !p c, reacqOn := on } }
  s'.retrNext s.retrBusy

/-- Channels are released: their dumps and searches are dropped, and they become FREE (R380). -/
def State.releaseChans (s : State) (p : PChan → Bool) : State :=
  let chans := s.gnss.chans.mapFinIdx fun i x h => if p ⟨i, h⟩ then {} else x
  ({ s with gnss := { s.gnss with
      chans, fifo := s.gnss.fifo.filter fun d => !p d.chan, ring := s.gnss.ring.filter fun d => !p d.chan } } :
    State).dropSearches p

/-! ### The dump path (R59, R375) -/

/-- Records of three entries that the dump FIFO holds. -/
def fifoDepth : Nat := 42

/-- System DMA moves the records that can be read to the dump ring of 128 KiB: 8 ticks after their write at the latest
(R12, R59). -/
def State.drainDumps (s : State) : State :=
  let ready := s.gnss.fifo.takeWhile fun d => decide (d.at_ + 8 ≤ s.clk)
  let n := min ready.length (5461 - s.gnss.ring.length)
  if n = 0 then s else
  let s := s.wake 5 (!s.gnss.ring.isEmpty)
  { s with gnss := { s.gnss with fifo := s.gnss.fifo.drop n, ring := s.gnss.ring ++ s.gnss.fifo.take n } }

/-! ### Parity, words and frames (R388-R390) -/

/-- Numbers of the data bits in each parity equation of IS-GPS-200, D25 to D30, and whether it takes D29* (else D30*). -/
def parityTerms : List (Bool × List Nat) :=
  [(true, [1, 2, 3, 5, 6, 10, 11, 12, 13, 14, 17, 18, 20, 23]),
    (false, [2, 3, 4, 6, 7, 11, 12, 13, 14, 15, 18, 19, 21, 24]),
    (true, [1, 3, 4, 5, 7, 8, 12, 13, 14, 15, 16, 19, 20, 22]),
    (false, [2, 4, 5, 6, 8, 9, 13, 14, 15, 16, 17, 20, 21, 23]),
    (false, [1, 3, 5, 6, 7, 9, 10, 14, 15, 16, 17, 18, 21, 22, 24]),
    (true, [3, 5, 6, 8, 9, 10, 11, 13, 15, 19, 22, 23, 24])]

/-- The number that bits spell, the first the most significant. -/
def bitsNum (l : List Bool) : Nat := l.foldl (fun n b => 2 * n + b2n b) 0

/-- A received word of 30 bits: its data bits d1-d24, complemented when D30* is 1, and whether its parity holds (R389). -/
def checkWord (d29 d30 : Bool) (w : List Bool) : Nat × Bool :=
  let d := (w.take 24).map fun b => b != d30
  let sum (t : Bool × List Nat) : Bool := t.2.foldl (fun b i => b != d.getD (i - 1) false) (if t.1 then d29 else d30)
  (bitsNum d, (w.drop 24).take 6 == parityTerms.map sum)

/-- The LNAV preamble. -/
def preamble : List Bool := [true, false, false, false, true, false, true, true]

/-- Polarity of a preamble at the head of a list: inverted or not; none without one. -/
def preambleAt (l : List Bool) : Option Bool :=
  if l.take 8 == preamble then some false else if l.take 8 == preamble.map (!·) then some true else none

/-- The TOW count of a HOW's data. -/
def howTow (w : Nat) : Nat := w / 2 ^ 7
/-- The subframe ID of a HOW's data. -/
def howId (w : Nat) : Nat := w / 4 % 8

/-- A TLM and a HOW that both pass parity, after the two bits before them: their data, and the polarity of the preamble. -/
def tlmHow (l : List Bool) : Option (Nat × Nat × Bool) :=
  let t := l.drop 2
  match preambleAt t with
  | none => none
  | some inv =>
    let a := checkWord (l.getD 0 false) (l.getD 1 false) (t.take 30)
    let b := checkWord (t.getD 28 false) (t.getD 29 false) ((t.drop 30).take 30)
    if a.2 && b.2 then some (a.1, b.1, inv) else none

/-- The last 362 bits, oldest first, give frame synchronisation: two preambles 300 bits apart, each with a TLM and a HOW
that pass parity, and TOW counts one apart (R388). Answers the second TLM and HOW and its preamble's polarity. -/
def findFrame (l : List Bool) : Option (Nat × Nat × Bool) :=
  if l.length < 362 then none
  else
    match tlmHow l, tlmHow (l.drop 300) with
    | some (_, h, _), some (t, h', inv) => if howTow h' = (howTow h + 1) % 100800 then some (t, h', inv) else none
    | _, _ => none

/-- Milliseconds of GPS week at the end of a subframe's second word: the TOW count names the start of the next subframe. -/
def howMs (w : Nat) : Nat := (howTow w + 100799) % 100800 * 6000 + 1200

/-- A subframe is complete: its record enters the NEW queue and, with ten good words, the STORED table (R390). -/
def State.storeFrame (s : State) (c : PChan) : State :=
  let p := s.gnss.chans[c]
  let f := p.frame
  let how := (f.words.getD 1 (0, false)).1
  let ok := maskOf 10 fun i => (f.words.getD i (0, false)).2
  let (start, s) := s.quantise (f.start / 1000)
  let rec_ : NavRec :=
    { prn := p.prn, id := howId how
      rec_ := fields [(47, 42, p.prn.val + 1), (41, 39, howId how), (38, 22, howTow how), (21, 12, ok), (11, 8, c.val),
          (7, 7, b2n f.inverted)] :: word (unsign 48 start) ::
        (pairs (f.words.map (·.1))).map fun x => fields [(47, 24, x.1), (23, 0, x.2)] }
  let s := if 256 ≤ s.gnss.nav.length then
      ({ s with gnss := { s.gnss with nav := s.gnss.nav.drop 1 } } : State).count 0x220A true 1
    else s
  let keep := ok = 1023 ∧ 1 ≤ howId how ∧ howId how ≤ 5
  let table := if keep then
      (s.gnss.table.filter fun x => !(x.prn == rec_.prn && x.id == rec_.id)) ++ [rec_]
    else s.gnss.table
  { s with gnss := { s.gnss with nav := s.gnss.nav ++ [rec_], table } }

/-- Half a cycle joins the carrier phase with a preamble that arrives complemented: after the polarity found before, or, with
HALF_CYCLE 0, as received (R388). -/
def Pointer.addHalf (p : Pointer) (turn : Bool) : Rat :=
  if (if p.halfCycle then turn else p.frame.inverted != turn) then p.half + 1 / 2 else p.half

/-- What follows the second word of a subframe: FRAME_SYNC goes at the second position in a row without a good preamble,
TLM and HOW. A preamble resolves the polarity where HALF_CYCLE is 0 (R388). `closed`: dumps closed since the word's end. -/
def State.framePosition (s : State) (c : PChan) (tlm how : Nat × Bool) (closed : Nat) : State :=
  let p := s.gnss.chans[c]
  let found := preambleAt p.frame.head
  let turn := found == some true && !p.halfCycle
  let good := (found == some false || turn) && tlm.2 && how.2
  if good then
    s.modPtr c fun p => { p with
      halfCycle := true, half := p.addHalf turn
      txMs := (howMs how.1 + closed) % 604800000
      frame := { p.frame with inverted := p.frame.inverted != turn, misses := 0, d29 := p.frame.d29 != turn
                              d30 := p.frame.d30 != turn } }
  else if p.frame.misses = 0 then s.modPtr c fun p => { p with frame := { p.frame with misses := 1 } }
  else s.modPtr c fun p => { p with frameSync := false, bits := [], frame := { inverted := p.frame.inverted } }

/-- A bit received with FRAME_SYNC: words are checked and stored, ten make a subframe (R389, R390). -/
def State.frameBit (s : State) (c : PChan) (b : Bool) (from_ : Rat) (closed : Nat) : State :=
  let p := s.gnss.chans[c]
  let f := p.frame
  let start := if f.words.isEmpty && f.bits.isEmpty then from_ else f.start
  let w := f.bits ++ [b]
  if w.length < 30 then s.modPtr c fun p => { p with frame := { f with bits := w, start } }
  else
    let x := checkWord f.d29 f.d30 w
    let s := if x.2 then s else s.count 0x2209 false 1
    let s := s.modPtr c fun p =>
      { p with frame := { f with bits := [], start, words := f.words ++ [x], d29 := w.getD 28 false, d30 := w.getD 29 false
                                 head := if f.words.isEmpty then w.take 8 else f.head } }
    if f.words.length = 1 then
      s.framePosition c (f.words.getD 0 (0, false)) x closed
    else if f.words.length = 9 then
      let s := s.storeFrame c
      s.modPtr c fun p => { p with frame := { p.frame with words := [] } }
    else s

/-- A data bit with the moment of its first edge [10 ps]; it takes the polarity found so far (R388). -/
def State.dataBit (s : State) (c : PChan) (raw : Bool) (from_ : Rat) (closed : Nat) : State :=
  let p := s.gnss.chans[c]
  let b := raw != p.frame.inverted
  if p.frameSync then s.frameBit c b from_ closed
  else
    let bits := ((b, from_) :: p.bits).take 362
    let s := s.modPtr c fun p => { p with bits }
    let old := bits.reverse
    match findFrame (old.map (·.1)) with
    | none => s
    | some (t, h, inv) =>
      let start := match (old.drop 302).head? with
        | some x => x.2
        | none => from_
      let last (i : Nat) : Bool := match (bits.drop i).head? with
        | some x => x.1 != inv
        | none => false
      s.modPtr c fun p => { p with
        frameSync := true, halfCycle := true, half := p.addHalf inv
        txMs := (howMs h + closed) % 604800000
        frame := { words := [(t, true), (h, true)], bits := [], d29 := last 1, d30 := last 0
                   inverted := p.frame.inverted != inv, start, misses := 0 } }

/-! ### Dumps at the loop core (R386, R387) -/

/-- The sign of a sum: 1 below zero; of zero a free value (log entry 14). -/
def State.signOf (s : State) (x : Int) : Bool × State :=
  if x = 0 then
    let (w, s) := s.freeWord
    (bit w 0, s)
  else (decide (x < 0), s)

/-- The next `n` bits are complete: the sign of the PI sum (R387). A bit without a dump has sum 0. -/
def State.closeBits : Nat → PChan → State → State
  | 0, _, s => s
  | n + 1, c, s =>
    let p := s.gnss.chans[c]
    let (b, s) := s.signOf p.bitSum
    let s := s.modPtr c fun p => { p with bitSum := 0, bitFrom := p.bitFrom + 2000000000, bitN := p.bitN + 1 }
    State.closeBits n c (s.dataBit c b p.bitFrom (p.epoch - (p.bitEdge + 20 * (p.bitN + 1))))

/-- The PI of one dump enters the bit in progress (R387). `k`: the dump's count since the start. -/
def State.bitDump (s : State) (c : PChan) (k : Nat) (d : Dump) : State :=
  let p := s.gnss.chans[c]
  if !p.bitSync || k < p.bitEdge then s else
  let pos := k - p.bitEdge
  let s := State.closeBits (pos / 20 - p.bitN) c s
  let s := s.modPtr c fun p =>
    { p with bitSum := p.bitSum + d.pI, bitFrom := if pos % 20 = 0 then d.edge else p.bitFrom }
  if pos % 20 = 19 then State.closeBits 1 c s else s

/-- A channel in TRACK counts sign changes of PI by EPOCH mod 20, and sets BIT_SYNC at the change that makes the count stand
out; the first whole bit begins 20 dumps on (R387). `k`: the dump's count since the start. -/
def State.syncDump (s : State) (c : PChan) (k : Nat) (d : Dump) : State :=
  let p := s.gnss.chans[c]
  let (sg, s) := s.signOf d.pI
  let s := s.modPtr c fun p => { p with lastPI := some (k, sg) }
  let change := p.st == .track && !p.bitSync && (match p.lastPI with
    | some (e, x) => e + 1 == k && x != sg
    | none => false)
  if !change then s else
  let i : Fin 20 := Fin.ofNat 20 d.epoch.toNat
  let ch := p.changes.set i (p.changes[i] + 1)
  let found := decide (10 ≤ ch[i]) && (List.finRange 20).all fun (j : Fin 20) => j == i || decide (4 * ch[j] ≤ ch[i])
  let s := s.modPtr c fun p => { p with changes := ch }
  if found then s.modPtr c fun p => { p with bitSync := true, bitSum := 0, bitN := 0, bitEdge := k + 20, bits := [] } else s

/-- One dump at the loop core: powers, bits, and the search for the bit edge (R386, R387). -/
def State.takeDump (s : State) (c : PChan) (d : Dump) : State :=
  let sq (a b : Int) : Nat := (a * a + b * b).toNat
  let s := s.modPtr c fun p =>
    { p with pSum := p.pSum + sq d.pI d.pQ, nSum := p.nSum + sq d.nI d.nQ, powers := p.powers + 1 }
  let k := s.gnss.chans[c].dumpNo d.epoch
  (s.bitDump c k d).syncDump c k d

/-! ### The loops (R381-R383) -/

/-- Length [ms] of the update period that begins at the present EPOCH (R381). -/
def Pointer.period (p : Pointer) : Nat :=
  let u := updateMs p.update
  if p.bitSync && decide (p.bitEdge ≤ p.next) then u - (p.next - p.bitEdge) % u else 1

/-- An overrun counts; the fifth in a row is the reason for REACQUIRE (R383, R384). -/
def State.overrun (s : State) (c : PChan) : State :=
  let s := (s.modPtr c fun p => { p with overruns := p.overruns + 1, run := p.run + 1 }).count 0x2208 true 1
  if 5 ≤ s.gnss.chans[c].run then s.reacquire c else s

/-- A free rational where a quotient has divisor 0 (R382; log entry 14). -/
def State.ratio (s : State) (a b : Rat) : Rat × State :=
  if b = 0 then (Config.openRat s.freeCtr, { s with freeCtr := s.freeCtr + 1 }) else (a / b, s)

/-- The lock indicators of the last 100 ms, newest first. -/
def lastLocks (room : Nat) : List (Rat × Nat) → List (Rat × Nat)
  | [] => []
  | (x, t) :: r => if t ≤ room then (x, t) :: lastLocks (room - t) r else []

/-- The channel's move after an update (R382): the mean of the lock indicators over 100 ms of updates. -/
def State.lockMove (s : State) (c : PChan) (ind : Rat) (ms : Nat) : State :=
  let p := s.gnss.chans[c]
  let l := lastLocks 100 ((ind, ms) :: p.locks)
  let s := s.modPtr c fun p => { p with locks := l }
  if l.foldl (fun a x => a + x.2) 0 < 100 then s
  else
    let avg := l.foldl (fun a x => a + x.1) 0 / (l.length : Rat)
    if p.st == .pullIn && decide (4 / 5 ≤ avg) then
      s.modPtr c fun p => { p with st := .track, trackAt := s.clk, clearAt := s.clk }
    else if p.st == .track && decide (avg < 2 / 5) then
      (s.advance c).modPtr c fun p => { p with
        st := .pullIn, slip := true, car := 0, half := 0, frameSync := false, bits := [], frame := {} }
    else s

/-- The two most recent 1 ms prompt sums (R382): those of the period and, before them, the last of the period before. -/
def lastTwo (before : Option (Int × Int)) (ds : List Dump) : Option ((Int × Int) × (Int × Int)) :=
  match (before.toList ++ ds.map fun d => (d.pI, d.pQ)).reverse with
  | b :: a :: _ => some (a, b)
  | _ => none

/-- A phase error in cycles as the loop core holds it: within 2^-32 cycle of its exact value (log entry 13). -/
def State.cycles (s : State) (x : Rat) : Rat × State :=
  let (n, s) := s.quantise (x * 2 ^ 32)
  ((n : Rat) / 2 ^ 32, s)

/-- The frequency error [cycles in 1 ms] of the two most recent prompt sums (R382); without them, or with both arguments 0, it
is free (log entry 14). -/
def State.freqError (s : State) : Option ((Int × Int) × (Int × Int)) → Rat × State
  | some (a, b) =>
    let y := a.1 * b.2 - a.2 * b.1
    let x := a.1 * b.1 + a.2 * b.2
    if x = 0 ∧ y = 0 then (Config.openRat s.freeCtr, { s with freeCtr := s.freeCtr + 1 }) else s.cycles (atan2Cycles y x)
  | none => (Config.openRat s.freeCtr, { s with freeCtr := s.freeCtr + 1 })

/-- The loop update of a complete period (R382). Answers the increments. -/
def State.closeLoops (s : State) (c : PChan) (ds : List Dump) : (Nat × Nat) × State :=
  let p := s.gnss.chans[c]
  let t : Rat := (ds.length : Rat) / 1000
  let sum (f : Dump → Int) : Int := ds.foldl (fun a d => a + f d) 0
  let ip := sum (·.pI)
  let qp := sum (·.pQ)
  let e : Int := sum (·.eI) * sum (·.eI) + sum (·.eQ) * sum (·.eQ)
  let l : Int := sum (·.lI) * sum (·.lI) + sum (·.lQ) * sum (·.lQ)
  let fll : Rat := (s.pf 0x2202 19 10 : Rat) / 10
  let pll : Rat := (s.pf 0x2202 9 0 : Rat) / 10
  let dll : Rat := (s.pf 0x2202 29 20 : Rat) / 100
  let (eP, s) := if ip = 0 then (0, s) else s.cycles (atanCycles qp ip)
  let (f0, s) := if p.st == .pullIn then
      let (eF, s) := s.freqError (lastTwo p.lastP ds)
      (p.fInt + 4 * fll * t * (eF * 1000), s)
    else (p.fInt, s)
  let w0 := pll / (53 / 100)
  let fInt := f0 + w0 * w0 * t * eP
  let fCar := fInt + 1414 / 1000 * w0 * eP
  let dopp := s.gnss.sgn * (fCar - (s.gnss.ifFreq : Rat))
  let (q, s) := s.ratio ((e - l : Int) : Rat) ((e + l : Int) : Rat)
  let eC := (1 - (p.spacing : Rat) / 40) * q
  let fCode := 1023000 + dopp / 1540 + 4 * dll * eC
  let (ci, s) := s.increment fCar
  let (ki, s) := s.increment fCode
  let last := (ds.getLast?.map fun d => (d.pI, d.pQ))
  let s := s.modPtr c fun p => { p with fInt, dopp, lastP := last }
  let (ind, s) := s.ratio ((ip * ip - qp * qp : Int) : Rat) ((ip * ip + qp * qp : Int) : Rat)
  ((ci, ki), s.lockMove c ind ds.length)

/-- The NCO update for the period that ends with dump `k` names boundary `k` + 1; one that is late applies at the next
boundary it can reach (R60, R377, R383). -/
def State.sendUpdate (s : State) (c : PChan) (k : Nat) (inc : Nat × Nat) (late : Bool) : State :=
  let p := s.gnss.chans[c]
  let missed := late || decide (k + 1 < p.epoch)
  let target := if k + 1 < p.epoch then p.epoch else if late then k + 2 else k + 1
  let s := (s.modPtr c fun p => { p with waiting := some (target, inc.1, inc.2) }).mark 5
  if missed then s.overrun c else s.modPtr c fun p => { p with run := 0 }

/-! ### The acquisition search (R368, R369) -/

/-- What a search reports of one PRN found (R368): METRIC in quarters, the code phase in 1/16 chip and the Doppler in Hz
at the interpolated peak. -/
structure SearchHit where
  prn     : Fin 32
  metric  : Nat
  code    : Nat
  doppler : Int
deriving DecidableEq, Repr

/-- The bins centre + k w for every |k| up to `m`, in ascending Doppler. -/
def binsAt (centre : Rat) (w m : Nat) : List Rat :=
  (List.range (2 * m + 1)).map fun (i : Nat) => centre + ((((i : Int) - (m : Int)) * (w : Int) : Int) : Rat)

/-- Doppler bin width [Hz] of the BIN field (R365). -/
def binWidth (b : Nat) : Nat := [250, 500, 1000].getD b 250

/-- The bins of a PRN: about the aiding entry that is valid at t_cap, or else unaided (R368). -/
def State.searchBins (s : State) (a : Acquire) (prn : Fin 32) : List Rat :=
  let w := binWidth a.bin
  let aid := if a.aided then s.gnss.aids.find? fun x => x.1 == prn && decide ((a.tCap.getD 0) / 1000 ≤ x.2.until_) else none
  match aid with
  | some (_, x) => binsAt (x.doppler : Rat) w (ceilDiv x.span w)
  | none => binsAt 0 w (10000 / w)

/-- The peak of a parabola through three values in a row, in steps from the middle one; through three equal values the peak is
free (R368; log entry 14). -/
def State.parabola (s : State) (l m r : Nat) : Rat × State :=
  s.ratio (((l : Int) - (r : Int) : Int) : Rat) ((2 * ((l : Int) - 2 * (m : Int) + (r : Int)) : Int) : Rat)

/-- The search of one PRN over a list of bins `w` Hz apart, NC and NNC, in the sample buffer (R368). Of cells of equal
greatest power a free value picks the peak; at the end of the grid, where the peak has one neighbour in Doppler, its place
between the bins is free (log entry 14). -/
def State.searchPrn (s : State) (prn : Fin 32) (nc nnc w : Nat) (bins : List Rat) : Option SearchHit × State :=
  let power (d : Rat) (c : Fin 4096) : Nat := Config.cellPower s.gnss.buffer (s.gnss.ifFreq, s.gnss.invert, nc, nnc) prn d c
  let cells : List (Nat × Fin 4096 × Nat) := bins.zipIdx.flatMap fun x => (List.finRange 4096).map fun c => (x.2, c, power x.1 c)
  let top : Nat := cells.foldl (fun m x => max m x.2.2) 0
  let sum : Nat := cells.foldl (fun n x => n + x.2.2) 0
  let (metric, s) := s.ratio ((top * cells.length : Nat) : Rat) (sum : Rat)
  if metric * 4 < s.pf 0x2201 23 16 then (none, s) else
  let peaks := cells.filter fun x => x.2.2 == top
  let (pick, s) := if peaks.length ≤ 1 then ((0 : Word), s) else s.freeWord
  match peaks[pick.toNat % peaks.length]? with
  | none => (none, s)
  | some (i, c, _) =>
    let d := bins.getD i 0
    let (dc, s) := s.parabola (power d (c - 1)) top (power d (c + 1))
    let (dd, s) := if i = 0 || i + 1 = bins.length then
        (Config.openRat s.freeCtr, { s with freeCtr := s.freeCtr + 1 })
      else s.parabola (power (bins.getD (i - 1) 0) c) top (power (bins.getD (i + 1) 0) c)
    let (m, s) := s.quantise (metric * 4)
    let (code, s) := s.quantise (((c.val : Rat) + dc) * 16368 / 4096)
    let (dopp, s) := s.quantise (d + dd * (w : Rat))
    (some { prn, metric := m.toNat, code := (code % 16368).toNat, doppler := dopp }, s)

/-- The PRNs found of those that an ACQUIRE searches, in ascending order (R368). -/
def State.searchAll (s : State) (a : Acquire) : List SearchHit × State :=
  (List.finRange 32).foldl (fun x prn =>
    if a.mask.getLsbD prn.val then
      let (h, s) := x.2.searchPrn prn a.nc a.nnc (binWidth a.bin) (x.2.searchBins a prn)
      (x.1 ++ h.toList, s)
    else x) ([], s)

/-- A capture of `n` samples at the sample-block FIFO: with as many samples, the buffer that it leaves (R59, R367). -/
def State.captured (s : State) (n : Nat) (l : List BlockStep) : Option State :=
  let x := l.foldl blockStep (s.gnss.blocks, s.gnss.buffer)
  if x.1.next = n then some { s with gnss := { s.gnss with blocks := {}, buffer := lastBlocks x } } else none

/-- What the Retriever's reads of the sample buffer and of its scratchpad find: a word of the buffer with two bits in error
counts as zero samples, and the search goes on; a scratchpad error is a hang (R16, R17). -/
def State.retrieverRead (s : State) (ecc : Ecc) (block : Nat) : Bool × State :=
  let r := s.engineRead 4 ecc fun s => { s with gnss := { s.gnss with buffer := zeroBlock s.gnss.buffer block } }
  (r.1 || ecc == .uncorrectable, r.2)

end Sys2Proof.Machine
end

