-- ==== Sys2Proof/Machine/Gnss.lean ====
section
/-! DEFINITION. GNSS power, acquisition, aiding, tracking, and what NAV_READ and MEAS_READ return (chapter 11, R57). -/

namespace Sys2Proof.Machine

/-! ### RF_CLK and power (R57, R359-R364) -/

/-- RF_CLK_LOSS: RF_CLK is absent for 10 us or out of limits while GNSS is in use; the channels stop with their NCO models
held (R56, R57, R364). With RF_CLK absent the sample counter stands since 10 us ago, whether RF_CLK_LOSS was set before or
not (R358). -/
def execRfClkLoss (dt : Nat) (absent : Bool) (s : State) : Result :=
  let s := s.elapse dt
  let stands := absent && s.gnss.on && (!s.clocks.rfLoss || s.clocks.still.isNone)
  let s := if stands then { s with clocks := { s.clocks with still := some (s.past10 1000000, s.clk) } } else s
  .next (if !s.gnss.on || s.clocks.rfLoss then s else
    let runs (c : PChan) : Bool := s.gnss.chans[c].st.runs
    let s := (List.finRange 16).foldl (fun s c =>
      if runs c then (s.advance c).modPtr c fun p => { p with st := .stopped } else s) s
    ({ s with clocks := { s.clocks with rfLoss := true } } : State).dropSearches runs)

/-- RF_CLK_RECOVER: each stopped channel enters REACQUIRE, and an incomplete capture starts again (R57, R364, R384). -/
def execRfClkRecover (dt : Nat) (s : State) : Result :=
  let s := s.elapse dt
  .next (if !s.clocks.rfLoss then s else
    let s := { s with clocks := { s.clocks with rfLoss := false } }
    let s := (List.finRange 16).foldl (fun s c =>
      if s.gnss.chans[(c : PChan)].st == .stopped then ((s.goOn c).reacquire c) else s) s
    let running := match s.gnss.running with
      | some (a, .captures) => some ({ a with tCap := none }, AcqPhase.waits s.full)
      | some (a, .waits _) => some (a, AcqPhase.waits s.full)
      | x => x
    { s with gnss := { s.gnss with running } })

/-- GNSS_POWER (R359-R362). The sample counter restarts at 0 and stands there while RF_CLK is still absent (R358). -/
def execGnssPower (dt : Nat) (r : Request) (s : State) : Result :=
  let s := s.elapse dt
  let i : OpInfo := { opc := 0x70, urgent := false, bcast := false, fault := false, minLen := 1, maxLen := 1 }
  let on := bit (arg r 0) 0
  let c5 := firstRej [rejIf (!s.working) s.badState,
    rejIf (!on && s.hnd.rs.live.any fun l => l.opc == 0x71) (some (.busy, 0))]
  .next (s.serve i r none c5 none none fun s =>
    let s :=
      if on && s.gnss.on then s
      else if on then
        { s with
          power := { s.power with rfEn := true }
          clocks := { s.clocks with
            sample := 0, start := some (s.now10, s.clk), still := s.clocks.still.map fun _ => (s.now10, s.clk) }
          gnss := { s.gnss with
            on := true, ready := false, onAt := s.clk, onCap := s.clocks.captures, ifFreq := s.pf 0x2200 22 0
            invert := s.pf 0x2200 24 24 = 1, settle := s.pf 0x2201 9 0 } }
      else
        let s := { s with gnss := { s.gnss with on := false, ready := false }
                          power := { s.power with rfEn := bit (arg r 0) 1 } }
        let s := s.releaseChans fun _ => true
        { s with gnss := { s.gnss with running := none, queued := [] } }
    s.ok 0x70 r)

/-- BASEBAND_READY: RF_SETTLE has passed and one complete epoch found RF_CLK within limits (R360). -/
def execBasebandReady (dt : Nat) (s : State) : Result :=
  let s := s.elapse dt
  .next (if s.gnss.on && !s.clocks.rfLoss && decide (s.gnss.onAt + s.gnss.settle * 100000 ≤ s.clk)
      && decide (s.gnss.onCap + 2 ≤ s.clocks.captures) then { s with gnss := { s.gnss with ready := true } }
  else s)

/-- What TRACK_ASSIGN and ACQUIRE need of the baseband (R360, R364, R365, R378). -/
def State.gnssReject (s : State) : Reject :=
  firstRej [rejIf (!s.working) s.badState, rejIf (!s.gnss.on || s.clocks.rfLoss) s.badState,
    rejIf (!s.gnss.ready) (some (.busy, 0))]

/-! ### ACQUIRE (R365-R372) -/

/-- The reserved values of UPDATE and SPACING, at their places in a word. -/
def loopReject (word spacing sp update up : Nat) : List Reject :=
  [rejIf (decide (spacing < 2) || decide (20 < spacing)) (badParam word sp), rejIf (decide (4 < update)) (badParam word up)]

/-- ACQUIRE (R365, R366). -/
def execAcquire (dt : Nat) (r : Request) (s : State) : Result :=
  let s := s.elapse dt
  let i : OpInfo := { opc := 0x71, urgent := false, bcast := false, fault := false, minLen := 2, maxLen := 2 }
  let w := arg r 1
  let nc := fld w 11 8
  let nnc := fld w 6 0
  let spacing := fld w 20 16
  let update := fld w 26 24
  let c6 := firstRej ([rejIf (fld (arg r 0) 31 0 = 0) (badParam 0 0),
    rejIf (nnc = 0 || decide (64 < nnc) || decide (256 < nc * nnc)) (badParam 1 0),
    rejIf (nc = 0 || decide (10 < nc)) (badParam 1 8), rejIf (fld w 15 14 = 3) (badParam 1 14)]
    ++ loopReject 1 spacing 16 update 24)
  let full := decide (4 ≤ s.gnss.queued.length + b2n s.gnss.running.isSome)
  let c7 := firstRej [s.needHandle, rejIf full (some (.busy, 0))]
  .next (s.serve i r none s.gnssReject c6 c7 fun s =>
    s.accept 0x71 r .accepted fun h s =>
      let a : Acquire :=
        { handle := h, mask := BitVec.ofNat 32 (fld (arg r 0) 31 0), update, spacing, bin := fld w 15 14, auto := bit w 13,
          aided := bit w 12, nc, nnc }
      ({ s with gnss := { s.gnss with queued := s.gnss.queued ++ [a] } } : State).retrNext s.retrBusy)

/-- CAPTURE_START: the first RF_CLK edge at or after the first instant divisible by 100,000 after the ACQUIRE started to run,
within one sample period of it; the bridge's capture of that instant places it: the captured edge where Δ is 0, or else the
next one (R61, R367; log entry 70). -/
def execCaptureStart (dt : Nat) (s : State) : Result :=
  let s := s.elapse dt
  .next (match s.gnss.running with
    | some (a, .waits since) =>
      if s.frozen 1 || s.clocks.rfLoss || !s.gnss.on || s.clocks.captures = 0 || s.clocks.start.isSome
          || decide (s.resolve s.clocks.epoch < nextEpoch since) || decide (s.clocks.capAt + 7 < s.clk) then s
      else
        let k := if s.clocks.delta = 0 then 0 else 1
        let (t, s) := s.quantise (s.edge10 + (k : Nat) / sampleRate)
        { s with gnss := { s.gnss with
            running := some ({ a with tCap := some t, first := (s.clocks.sample.toNat + k) % 2 ^ 48 }, .captures)
            blocks := {}, buffer := [] } }
    | _ => s)

/-- CAPTURE_COMPLETE: NC NNC 16,368 samples have been captured, the last block of them a progress mark; `l` is what happened at
the sample-block FIFO (R59, R367, R416). -/
def execCaptureComplete (dt : Nat) (l : List BlockStep) (s : State) : Result :=
  let s := s.elapse dt
  .next (match s.gnss.running with
    | some (a, .captures) =>
      let n := a.nc * a.nnc * 16368
      if s.frozen 1 || s.clocks.rfLoss || !s.samplePast (a.first + n) then s
      else match s.captured n l with
        | none => s
        | some s => ({ s with gnss := { s.gnss with running := some (a, .searches) } } : State).mark 4
    | _ => s)

/-- The assignment of one PRN found (R371). -/
def State.autoAssign (s : State) (a : Acquire) (h : SearchHit) : Option PChan × State :=
  if !a.auto || s.prnHeld h.prn.val none then (none, s) else
  match s.freeChan with
  | none => (none, s)
  | some c =>
    (some c, s.startChannel c h.prn a.update a.spacing (h.doppler : Rat) ((h.code % 16368 : Nat) / 16) ((a.tCap.getD 0 : Int) : Rat))

/-- The assignments and the result words of the PRNs found, in order (R370, R371). -/
def State.acquireWords (s : State) (a : Acquire) : List SearchHit → List Word × State
  | [] => ([], s)
  | h :: r =>
    let (c, s) := s.autoAssign a h
    let w := fields [(47, 43, h.prn.val), (42, 42, b2n c.isSome), (41, 38, (c.map (·.val)).getD 0), (37, 24, h.code % 16368),
      (23, 8, unsign 16 h.doppler), (7, 0, sat 8 h.metric)]
    let (ws, s) := s.acquireWords a r
    (w :: ws, s)

/-- Words 3 and 4 of an ACQUIRE's completion (R370); before the capture the spec gives t_cap no value, and they are free
(log entry 14). -/
def State.capWords (s : State) (a : Acquire) : List Word × State :=
  match a.tCap with
  | some t => ([word (unsign 48 (t / 1000)), fields [(47, 32, unsign 16 (t / 1000 / 2 ^ 48)), (9, 0, (t % 1000).toNat)]], s)
  | none =>
    let (x, s) := s.freeWord
    let (y, s) := s.freeWord
    ([x, fields [(47, 32, fld y 47 32), (9, 0, fld y 9 0)]], s)

/-- ACQUIRE_DONE: the last correlation has ended, a progress mark (R368-R371, R416). `ecc`: what the Retriever's reads found, in word `block` of the
sample buffer (R16, R17). -/
def execAcquireDone (dt : Nat) (ecc : Ecc) (block : Nat) (s : State) : Result :=
  let s := s.elapse dt
  .next (match s.gnss.running with
    | some (a, .searches) =>
      if s.frozen 1 then s else
      let (go, s) := s.retrieverRead ecc block
      if !go then s else
      let (l, s) := (s.mark 4).searchAll a
      let mask := maskOf 32 fun i => l.any fun (h : SearchHit) => h.prn.val == i
      let st : Status := if l.isEmpty then .notFound else if mask = a.mask.toNat then .ok else .partialDone
      let (cap, s) := s.capWords a
      let (ws, s) := s.acquireWords a l
      let s := s.complete a.handle st l.length mask (cap ++ ws)
      ({ s with gnss := { s.gnss with running := none } } : State).retrNext true
    | _ => s)

/-- An ACQUIRE ends without a result (R372, R425). -/
def State.dropAcquire (s : State) (h : HandleId) (st : Status) : State :=
  let a := match s.gnss.running with
    | some (a, _) => if a.handle == h then some a else none
    | none => none
  match a with
  | some a =>
    let (cap, s) := s.capWords a
    ({ s with gnss := { s.gnss with running := none } } : State).complete h st 0 0 cap
  | none =>
    match s.gnss.queued.find? fun (a : Acquire) => a.handle == h with
    | none => s
    | some a =>
      let (cap, s) := s.capWords a
      ({ s with gnss := { s.gnss with queued := s.gnss.queued.filter fun (a : Acquire) => a.handle != h } } : State).complete h
        st 0 0 cap

/-! ### AIDING (R373) -/

/-- The checks of an entry whose first payload word is `k`. -/
def State.aidReject (s : State) (k : Nat) (a w : Word) : List Reject :=
  [rejIf (decide (s.resolve a < s.full)) (badParam k 0), rejIf (decide (10000 < fld w 23 10)) (badParam (k + 1) 10),
    rejIf (decide (10000 < (sfld w 41 24).natAbs)) (badParam (k + 1) 24),
    rejIf (fld w 47 42 = 0 || decide (32 < fld w 47 42)) (badParam (k + 1) 42)]

/-- AIDING (R373). -/
def execAiding (dt : Nat) (r : Request) (s : State) : Result :=
  let s := s.elapse dt
  let i : OpInfo := { opc := 0x76, urgent := false, bcast := false, fault := false, minLen := 1, maxLen := 65
                      lenOk := fun n => n % 2 == 1 }
  let l := pairs (r.words.drop 1)
  let c6 := firstRej (l.zipIdx.flatMap fun (x, k) => s.aidReject (2 * k + 1) x.1 x.2)
  .next (s.serve i r none (rejIf (!s.working) s.badState) c6 none fun s =>
    let t := if bit (arg r 0) 0 then [] else s.gnss.aids
    let aids := l.foldl (fun (t : List (Fin 32 × Aid)) x =>
      let p := Fin.ofNat 32 (fld x.2 47 42 - 1)
      let a : Aid := { until_ := s.resolve x.1, doppler := sfld x.2 41 24, span := fld x.2 23 10 }
      (t.filter fun y => y.1 != p) ++ [(p, a)]) t
    ({ s with gnss := { s.gnss with aids } } : State).reply 0x76 r .ok 0 l.length [])

/-! ### Tracking (R374-R388) -/

/-- The channel that a TRACK_ASSIGN names. -/
def State.assignChan (s : State) (w : Word) : Option PChan :=
  if bit w 43 then s.freeChan
  else
    let c : PChan := Fin.ofNat 16 (fld w 47 44)
    if s.gnss.chans[c].st == .free || s.gnss.chans[c].st == .lost then some c else none

/-- TRACK_ASSIGN (R378, R379). -/
def execTrackAssign (dt : Nat) (r : Request) (s : State) : Result :=
  let s := s.elapse dt
  let i : OpInfo := { opc := 0x72, urgent := false, bcast := false, fault := false, minLen := 3, maxLen := 3 }
  let w := arg r 1
  let x := arg r 2
  let prn := fld w 42 37
  let ref := s.resolve (arg r 0)
  let dopp := sfld x 47 24
  let named : Option PChan := if bit w 43 then none else some (Fin.ofNat 16 (fld w 47 44))
  let c6 := firstRej ([rejIf (decide (s.full < ref)) (badParam 0 0),
      rejIf (decide (100000000 < s.full - ref)) (some (.tooLate, 0))]
    ++ loopReject 1 (fld w 33 29) 29 (fld w 36 34) 34
    ++ [rejIf (prn = 0 || decide (32 < prn)) (badParam 1 37), rejIf (decide (261887 < fld x 17 0)) (badParam 2 0),
      rejIf (decide (320000 < dopp.natAbs)) (badParam 2 24), rejIf (s.prnHeld (prn - 1) named) s.badState])
  .next (s.serve i r none s.gnssReject c6 (rejIf (s.assignChan w).isNone (some (.busy, 0))) fun s =>
    match s.assignChan w with
    | none => s
    | some c =>
      (s.startChannel c (Fin.ofNat 32 (prn - 1)) (fld w 36 34) (fld w 33 29) ((dopp : Rat) / 16) ((fld x 17 0 : Nat) / 256)
        ((ref * 1000 : Int) : Rat)).reply 0x72 r .ok 0 c.val [])

/-- TRACK_RELEASE (R380). -/
def execTrackRelease (dt : Nat) (r : Request) (s : State) : Result :=
  let s := s.elapse dt
  let i : OpInfo := { opc := 0x73, urgent := false, bcast := false, fault := false, minLen := 1, maxLen := 1 }
  .next (s.serve i r none (rejIf (!s.working) s.badState) none none fun s =>
    (s.releaseChans fun c => (fld (arg r 0) 15 0).testBit c.val).ok 0x73 r)

/-- DUMP_CLOSE: the prompt code passes chip 0, as the code NCO has it, with the samples of the integration that ends. The NCO
update that names this boundary, or an earlier one, applies, and the dump record enters the dump FIFO (R59, R60, R356,
R374-R376). A scratchpad error is a hang of the Pointer correlators; two bits in error in the dump ring cost the dump (R16,
R17). -/
def execDumpClose (dt : Nat) (c : PChan) (rf : List RfPair) (ecc : Ecc) (s : State) : Result :=
  let s := s.elapse dt
  let p := s.gnss.chans[c]
  let n := (((p.at_ : Int) + p.left) % 2 ^ 48).toNat
  .next (if !s.gnss.on || s.clocks.rfLoss || !p.st.runs || (rf.length : Int) ≠ p.taken + p.left || !s.samplePast n then s else
    let (go, s) := s.engineRead 5 ecc fun s => s
    if ecc == .scratchpad then s else
    let s := s.drainDumps
    let x := p.code + (p.left : Rat) * p.codeInc / 2 ^ 32
    let car := p.car + (p.left : Rat) * ((p.carInc : Rat) / 2 ^ 32 - (s.gnss.ifFreq : Rat) / 16368000)
    let nco (k : Int) : BitVec 32 := p.carNco + BitVec.ofInt 32 (k * p.carInc)
    let a := correlate (caCode p.prn) ((p.spacing : Rat) / 40) ((p.codeInc : Rat) / 2 ^ 32) (BitVec.ofNat 32 p.carInc) rf
      (p.code - (p.taken : Rat) * p.codeInc / 2 ^ 32) (nco (-(p.taken : Int))) {}
    let begun := (n : Rat) - x * 2 ^ 32 / (p.codeInc : Rat)
    let e : Dump :=
      { chan := c, at_ := s.clk, epoch := BitVec.ofNat 12 p.epoch, sample := n, edge := s.timeOf begun
        pI := quarter a.pI, pQ := quarter a.pQ, eI := quarter a.eI, eQ := quarter a.eQ, lI := quarter a.lI
        lQ := quarter a.lQ, nI := quarter a.nI, nQ := quarter a.nQ }
    let (inc, waiting) := match p.waiting with
      | some (t, a, b) => if t ≤ p.epoch then ((a, b), none) else ((p.carInc, p.codeInc), p.waiting)
      | none => ((p.carInc, p.codeInc), none)
    let s := s.modPtr c fun p =>
      { p with at_ := n, code := x - 1023, car, carNco := nco p.left, taken := 0, carInc := inc.1, codeInc := inc.2, waiting
               epoch := p.epoch + 1, txMs := (p.txMs + 1) % 604800000 }
    if fifoDepth ≤ s.gnss.fifo.length then s.count 0x2208 false 1
    else if !go then s
    else { s with gnss := { s.gnss with fifo := s.gnss.fifo ++ [e] } })

/-- LOOP_UPDATE: the period's dumps are taken from the dump ring. A period with a dump missing makes no update and counts an
overrun (R381-R384). -/
def execLoopUpdate (dt : Nat) (c : PChan) (late : Bool) (s : State) : Result :=
  let s := s.elapse dt
  .next (if s.frozen 1 || !s.gnss.chans[c].st.runs then s else
    let s := s.drainDumps
    let p := s.gnss.chans[c]
    let n := p.period
    let fin := p.next + n
    let mine (d : Dump) : Bool := d.chan == c && decide (p.dumpNo d.epoch < fin)
    if p.epoch < fin || s.gnss.fifo.any mine then s
    else
      let all := s.gnss.ring.filter mine
      let ds := all.filter fun d => decide (p.next ≤ p.dumpNo d.epoch)
      let s := { s with gnss := { s.gnss with ring := s.gnss.ring.filter fun d => !mine d } }
      let s := s.modPtr c fun p => { p with next := fin }
      let s := ds.foldl (fun s d => s.takeDump c d) s
      if p.st == .reacquire then s
      else if ds.length < n then s.overrun c
      else
        let (inc, s) := s.closeLoops c ds
        s.sendUpdate c (fin - 1) inc late)

/-- BIT_SYNC_COUNT_CLEAR: every 10 s in TRACK until BIT_SYNC (R387). -/
def execBitSyncCountClear (dt : Nat) (c : PChan) (s : State) : Result :=
  let s := s.elapse dt
  let p := s.gnss.chans[c]
  .next (if !s.frozen 1 && p.st == .track && !p.bitSync && decide (p.clearAt + 1000000000 ≤ s.clk) then
    s.modPtr c fun p => { p with changes := Vector.replicate 20 0, clearAt := s.clk }
  else s)

/-- The estimate of C/N0 from the sums of the powers of prompt and noise dumps over 1 s, in 0.25 dB-Hz (R386). The spec names
no rounding; without a dump or without noise the quotient has no value, and past the field of R392 no estimate is stated: both
are free (log entries 13, 14). -/
def State.cn0Of (s : State) (p : Pointer) : BitVec 8 × State :=
  if p.powers ≠ 0 && decide (p.pSum ≤ p.nSum) then (0, s)
  else
    let x : Rat := 1000 * ((p.pSum : Rat) - p.nSum) / p.nSum
    match if p.nSum = 0 then none else quarterDb x with
    | some n =>
      if x ^ 40 = 10 ^ n then (BitVec.ofNat 8 n, s)
      else
        let (n, s) := s.quantise ((n : Rat) + 1 / 2)
        (BitVec.ofNat 8 (min n.toNat 255), s)
    | none =>
      let (w, s) := s.freeWord
      (w.setWidth 8, s)

/-- The estimate of C/N0 lies below LOSS_CN0 (R384). The field of R392 holds no estimate below 0 or past 63.75 dB-Hz: the one
is below every LOSS_CN0, the other below none. -/
def State.lowCn0 (s : State) (p : Pointer) (v : BitVec 8) : Bool :=
  let x : Rat := 1000 * ((p.pSum : Rat) - p.nSum) / p.nSum
  if p.nSum ≠ 0 && decide (p.nSum < p.pSum) && (quarterDb x).isNone then decide (x < 1)
  else decide (v.toNat < s.pf 0x2203 7 0)

/-- CN0_ESTIMATE: every 1 s; below LOSS_CN0 in that second, a tracking channel enters REACQUIRE (R384, R386). -/
def execCn0Estimate (dt : Nat) (c : PChan) (s : State) : Result :=
  let s := s.elapse dt
  let p := s.gnss.chans[c]
  .next (if s.frozen 1 || !p.st.runs || decide (s.clk < p.cn0At + 100000000) then s else
    let (v, s) := s.cn0Of p
    let s := s.modPtr c fun p => { p with cn0 := v, pSum := 0, nSum := 0, powers := 0, cn0At := s.clk }
    if p.st != .reacquire && s.lowCn0 p v then s.reacquire c else s)

/-- REACQ_SEARCH_REQUEST: at once in REACQUIRE, then REACQ_INTERVAL after each failed search (R385). -/
def execReacqSearchRequest (dt : Nat) (c : PChan) (s : State) : Result :=
  let s := s.elapse dt
  let p := s.gnss.chans[c]
  let waits := s.gnss.reacqs.contains c || s.gnss.reacqOn == some c
  let due := match p.failedAt with
    | some t => decide (t + s.pf 0x2203 25 16 * 100000 ≤ s.clk)
    | none => true
  .next (if p.st != .reacquire || waits || !due || s.frozen 1 || !s.gnss.on then s
    else ({ s with gnss := { s.gnss with reacqs := s.gnss.reacqs ++ [c] } } : State).retrNext s.retrBusy)

/-- The channel restarts in PULL_IN from a search whose first sample is `first`: `off` chips from the predicted code phase
there, `pred` (R385). -/
def State.restartChan (s : State) (c : PChan) (h : SearchHit) (first : Nat) (pred off : Rat) : State :=
  let dopp : Rat := (h.doppler : Rat)
  let f := (s.gnss.ifFreq : Rat) + s.gnss.sgn * dopp
  let n := s.lastSample
  let (ci, s) := s.increment f
  let (ki, s) := s.increment (1023000 + dopp / 1540)
  let (code, s) := s.codeStep (pred + off + sampleDiff (n : Rat) (first : Rat) * ((1023000 + dopp / 1540) / 16368000))
  let keep := decide (-(1 / 2 : Rat) ≤ off) && decide (off ≤ 1 / 2)
  (s.advance c).modPtr c fun p =>
    let q := { p with
      st := .pullIn, carInc := ci, codeInc := ki, waiting := none, at_ := n, code, taken := 0, car := 0, half := 0
      halfCycle := false, fInt := f, dopp, lastP := none, locks := [], run := 0, tries := 0, failedAt := none }
    if keep then q
    else { q with bitSync := false, frameSync := false, bits := [], frame := {}, lastPI := none
                  changes := Vector.replicate 20 0 }

/-- REACQ_SEARCH_DONE: the channel's PRN alone, NC 4 and NNC 4, 250 Hz bins for the predicted Doppler ± 500 Hz, in the 16 ms
captured from sample `first` on; `l` is what happened at the sample-block FIFO (R59, R385). -/
def execReacqSearchDone (dt : Nat) (c : PChan) (first : BitVec 48) (l : List BlockStep) (ecc : Ecc) (block : Nat)
    (s : State) : Result :=
  let s := s.elapse dt
  let n := 16 * 16368
  let from_ := first.toNat
  .next (if s.gnss.reacqOn != some c || s.frozen 1 || s.clocks.rfLoss || decide (sampleDiff (from_ : Rat) (s.gnss.reacqFrom : Rat) < 0)
      || !s.samplePast (from_ + n) then s else
    match ({ s with gnss := { s.gnss with blocks := {}, buffer := [] } } : State).captured n l with
    | none => s
    | some s =>
      let (go, s) := s.retrieverRead ecc block
      if !go then s else
      let s := ({ s with gnss := { s.gnss with reacqOn := none } } : State).mark 4
      let p := s.gnss.chans[c]
      let pred := (s.nco p (from_ : Rat)).1
      let (hit, s) := s.searchPrn p.prn 4 4 250 (binsAt p.dopp 250 2)
      let peak := (hit.map fun (h : SearchHit) => (h, wrapChips ((h.code : Rat) / 16 - pred + 1023 / 2) - 1023 / 2)).filter
        fun (h : SearchHit × Rat) => decide (-2 ≤ h.2) && decide (h.2 ≤ 2)
      let s := match peak with
        | some (h, off) => s.restartChan c h from_ pred off
        | none =>
          let tries := p.tries + 1
          s.modPtr c fun p =>
            { p with tries, failedAt := some s.clk, st := if s.pf 0x2203 15 8 ≤ tries then .lost else p.st }
      s.retrNext true)

/-! ### NAV_READ and MEAS_READ (R390-R393) -/

/-- The four words of a channel in an epoch record (R392), at sample count `n`. -/
def State.measWords (s : State) (c : PChan) (n : Rat) : List Word × State :=
  let p := s.gnss.chans[c]
  let x := s.nco p n
  let turns := (x.1 / 1023).floor
  let ms : Nat := if p.frameSync then (((p.txMs : Int) + turns) % 604800000).toNat
    else if p.bitSync then (((p.epoch : Int) + turns - p.bitEdge) % 20).toNat else 0
  let (lock, s) := if p.st == .track then s.quantise (((s.clk - p.trackAt : Nat) : Rat) / 10000000) else (0, s)
  let (code, s) := s.quantise (wrapChips x.1 * 256)
  let (adr, s) := s.quantise ((s.gnss.sgn * x.2 + p.half) * 256)
  let (adr, s) := s.wordOf adr
  let (dopp, s) := s.quantise (p.dopp * 16)
  ([fields [(47, 44, c.val), (43, 38, p.prn.val + 1), (37, 35, p.st.num), (34, 34, b2n p.bitSync), (33, 33, b2n p.frameSync),
      (32, 32, b2n p.halfCycle), (31, 31, b2n p.reacqNew), (30, 30, b2n p.slip), (23, 16, p.cn0.toNat),
      (15, 0, sat 16 lock.toNat)],
    fields [(47, 18, ms), (17, 0, min 261887 code.toNat)], adr,
    fields [(47, 24, unsign 24 dopp), (23, 12, sat 12 p.overruns), (11, 0, sat 12 p.reacqs)]], s)

/-- The records of a list of channels, in order. -/
def State.measList (s : State) (n : Rat) : List PChan → List Word × State
  | [] => ([], s)
  | c :: r =>
    let (a, s) := s.measWords c n
    let (b, s) := s.measList n r
    (a ++ b, s)

/-- MEASUREMENT_EPOCH: at the instants divisible by MEAS_PERIOD, in the tick of the time bridge's capture of that instant
(R391, R392). -/
def execMeasurementEpoch (dt : Nat) (s : State) : Result :=
  let s := s.elapse dt
  let period := s.pf 0x2204 9 0 * 100000
  let cs := (List.finRange 16).filter fun (c : PChan) => s.gnss.chans[c].st.runs || s.gnss.chans[c].st == .stopped
  let t := s.resolve s.clocks.epoch
  .next (if s.frozen 1 || period = 0 || cs.isEmpty || s.clocks.captures = s.gnss.measCap
      || decide (s.clocks.epoch.toNat % period ≠ 0) || decide (s.clocks.capAt ≠ s.clk) || s.clocks.start.isSome then s
    else
      let n := s.sampleAt ((t * 1000 : Int) : Rat)
      let mask := maskOf 16 fun i => cs.any fun c => c.val == i
      let head := [s.clocks.epoch, fields [(47, 32, unsign 16 (t / 2 ^ 48)), (31, 31, b2n s.clocks.stepped),
        (30, 30, b2n s.time.holdover), (29, 27, s.time.source.toNat), (25, 16, s.fraction), (15, 0, mask)]]
      let (ws, s) := s.measList n cs
      let s := cs.foldl (fun s c => s.modPtr c fun p => { p with reacqNew := false, slip := false }) s
      let s := if 16 ≤ s.gnss.meas.length then
          ({ s with gnss := { s.gnss with meas := s.gnss.meas.drop 1 } } : State).count 0x220A false 1
        else s
      { s with gnss := { s.gnss with meas := s.gnss.meas ++ [head ++ ws], measCap := s.clocks.captures } })

/-- NAV_READ (R390). -/
def execNavRead (dt : Nat) (r : Request) (s : State) : Result :=
  let s := s.elapse dt
  let i : OpInfo := { opc := 0x74, urgent := false, bcast := false, fault := true, minLen := 1, maxLen := 1 }
  let w := arg r 0
  let mode := fld w 47 46
  let prn := fld w 45 40
  let n := fld w 5 0
  let c6 := firstRej [rejIf (mode = 0 && (n = 0 || decide (36 < n))) (badParam 0 0),
    rejIf (mode = 1 && (prn = 0 || decide (32 < prn))) (badParam 0 40), rejIf (decide (1 < mode)) (badParam 0 46)]
  .next (s.serve i r none none c6 none fun s =>
    if mode = 0 then
      let l := s.gnss.nav.take n
      let s := { s with gnss := { s.gnss with nav := s.gnss.nav.drop n } }
      let part := decide (l.length < n)
      s.reply 0x74 r (if part then .partialDone else .ok) 0 (if part then l.length else 0) (l.flatMap (·.rec_))
    else
      let l := (List.range 5).filterMap fun k => s.gnss.table.find? fun (x : NavRec) => x.prn.val + 1 == prn && x.id == k + 1
      let part := decide (l.length < 5)
      s.reply 0x74 r (if part then .partialDone else .ok) 0 (if part then l.length else 0) (l.flatMap (·.rec_)))

/-- MEAS_READ (R393). -/
def execMeasRead (dt : Nat) (r : Request) (s : State) : Result :=
  let s := s.elapse dt
  let i : OpInfo := { opc := 0x75, urgent := false, bcast := false, fault := true, minLen := 1, maxLen := 1 }
  let w := arg r 0
  let latest := bit w 8
  let n := if latest then 1 else fld w 1 0
  .next (s.serve i r none none (rejIf (n = 0) (badParam 0 0)) none fun s =>
    let l := if latest then s.gnss.meas.getLast?.toList else s.gnss.meas.take n
    let s := if latest then s else { s with gnss := { s.gnss with meas := s.gnss.meas.drop n } }
    let part := decide (l.length < n)
    s.reply 0x75 r (if part then .partialDone else .ok) 0 (if part then l.length else 0) l.flatten)

end Sys2Proof.Machine
end

