-- ==== Sys2Proof/Machine/Cancel.lean ====
section
/-! DEFINITION. CANCEL (R131, R132, R142, R233, R261, R372). -/

namespace Sys2Proof.Machine

/-- The oldest of a list of events. -/
def oldest : List Event → Option Event
  | [] => none
  | e :: r =>
    match oldest r with
    | none => some e
    | some f => if f.ins < e.ins then some f else some e

/-- The pulse of an unarmed carrier stays, with the span it had, and its oldest passenger becomes its carrier (R233). -/
def State.promote (s : State) (x own : Event) : State :=
  let s := s.setEvent { own with
    st := x.st, carrier := none, cOn := x.cOn, cOff := x.cOff, delta := x.cOn - (own.cOn - own.delta), ins := x.ins
    waitAt := x.waitAt, moved := x.moved, late := x.late }
  s.modEvents (fun e => e.carrier == some x.id && e.id != own.id) fun e => { e with carrier := some own.id }

/-- CANCEL of an accepted ejection handle (R131, R233). -/
def State.cancelEvent (s : State) (l : Live) : State :=
  match s.event? l.id with
  | none => s.retireOrphan l .cancelled
  | some x =>
    if x.carrier.isSome then s.retireOne x .cancelled x.cOn x.cOff 0
    else
      match oldest (s.riders x.id) with
      | none => s.retire x.id .cancelled 0
      | some own => (s.promote x own).retireOne x .cancelled x.cOn x.cOff 0

/-- CANCEL of an accepted FW_BEGIN: the slot stays invalid (R142). -/
def State.cancelLoad (s : State) (h : HandleId) : State :=
  ({ s with fw := { s.fw with load := s.fw.load.filter fun l => l.handle != h } } : State).complete h .cancelled 0 0 []

/-- CANCEL of an ACQUIRE: the Retriever takes up its next work (R372). -/
def State.cancelAcquire (s : State) (h : HandleId) : State := (s.dropAcquire h .cancelled).retrNext s.retrBusy

/-- What CANCEL of an accepted handle does (R131); an ejection handle that an abort of this tick has ended is cancelled
(R429). -/
def State.cancelLive (s : State) (l : Live) : State :=
  if l.st == .retiring then s.recancel fun e => e.id == l.id
  else if isEj l.id then s.cancelEvent l
  else if l.opc = 0xF0 then s.cancelLoad l.id
  else if l.opc = 0x71 then s.cancelAcquire l.id
  else s.boostCancel l.id

/-- The answer to a handle that CANCEL cannot end (R110, R131). -/
def State.cancelReject (s : State) (h : HandleId) : Reject :=
  match s.live? h with
  | none => some (.noSuchHandle, h.toNat)
  | some l =>
    match l.st with
    | .accepted => none
    | .armed => some (.locked, h.toNat)
    | .retiring =>
      if !(s.abortedNow fun e => e.id == h).isEmpty then none else
      some (.badState, (l.final.map Status.num).getD 0 * 2 ^ 16 + s.dev.code.num)

/-- CANCEL, after the arming of its tick (R131, R132, R489). -/
def execCancel (dt : Nat) (r : Request) (s : State) : Result :=
  let s := s.elapse dt
  let i : OpInfo := { opc := 0x0E, urgent := true, bcast := false, fault := true, minLen := 1, maxLen := 1 }
  let h := BitVec.ofNat 16 (fld (arg r 0) 15 0)
  .next (s.serve i r none (s.armDue.cancelReject h) none none fun s =>
    let s := s.armDue
    match s.live? h with
    | none => s
    | some l => ((s.cancelLive l).drainCheck).ok 0x0E r)

end Sys2Proof.Machine
end

