-- ==== Sys2Proof/Machine/StageCmds.lean ====
section
/-! DEFINITION. Staging and COMMIT AT (R450-R461), and the requests that a device sends for itself (R108). -/

namespace Sys2Proof.Machine

/-- A request of this device's own leaves with the next tag, and its reply is awaited (R108). Answers whether its port
takes packets; on a port that is down it meets LINK_FAULT (R73). -/
def State.ask (s : State) (kind : OwnKind) (dst : Addr) (opc : Nat) (urgent : Bool) (words : List Word) : Bool × State :=
  match s.ownWay dst.toNat with
  | none => (false, s)
  | some p =>
    if s.portIsDown p then (false, s)
    else
      let o : Own := { kind, tag := s.tagNext, dst, opc := BitVec.ofNat 8 opc, atClk := s.clk }
      let s := s.modPort p fun q => q.modLane urgent fun l => { l with stored := l.stored ++
        [{ header := mkHeader dst s.dev.addr opc s.tagNext words.length false false urgent, words }] }
      (true, { s with own := s.own ++ [o], tagNext := s.tagNext + 1 })

/-- The set that is not in force takes the stage (R450). -/
def Stage.fill (g : Stage) : Stage := if g.force then { g with set0 := g.words } else { g with set1 := g.words }

/-- STAGE_PREPARE: the check, then the copy into the set not in force, with its rows in both Quills (R450). -/
def execStagePrepare (dt : Nat) (r : Request) (s : State) : Result :=
  let s := s.elapse dt
  let i : OpInfo := { opc := 0x08, urgent := false, bcast := true, fault := false, minLen := 1, maxLen := 1 }
  let st := s.stage.st
  let id := fld (arg r 0) 15 0
  let rows := (List.range 8).any fun k => (rowBad (tval s.stage.words (0x1000 + k))).isSome
  let c5 := firstRej [rejIf (!s.working) s.badState,
    rejIf (st == .preparing || st == .armed || st == .settling) (some (.busy, 0))]
  let c6 := firstRej [rejIf (id = 0) (badParam 0 0),
    match mapCheck s.stage.words with
      | some c => some (.badParam, 0xFE00 + c)
      | none => none,
    rejIf rows (some (.badParam, 0xFE05))]
  .next (s.serve i r none c5 c6 s.needHandle fun s =>
    s.accept 0x08 r .armed fun h s =>
      let g := { s.stage.fill with st := .preparing, id := BitVec.ofNat 16 id, persist := bit (arg r 0) 16
                                   handle := some (h, r.src) }
      let set := !g.force
      (List.range 8).foldl (fun s k => s.sendShape set k (tval g.words (0x1000 + k))) { s with stage := g })

/-- STAGE_PREPARE_DONE (R450). -/
def execStagePrepareDone (dt : Nat) (s : State) : Result :=
  let s := s.elapse dt
  .next (if s.stage.st == .preparing && s.answers then
    let h := s.stage.handle
    let s := { s with stage := { s.stage with st := .prepared, handle := none, preparedAt := some s.clk } }
    match h with
    | some (h, _) => s.complete h .ok 0 s.stage.id.toNat []
    | none => s
  else s)

/-- The devices from 2 to CHAIN_LENGTH that a mask does not name. -/
def State.others (s : State) (mask : BitVec 32) : List Addr :=
  ((List.range s.chainLength).drop 1).filterMap fun k =>
    if mask.getLsbD k then none else some (BitVec.ofNat 6 (k + 1))

/-- A PARAM_GET of 2500h and 2503h to each device of a list (R452). -/
def State.pollStage (s : State) (l : List Addr) (kind : Addr → OwnKind) : State :=
  l.foldl (fun s a => (s.ask (kind a) a 0x06 false [word 0x2500, word 0x2503]).2) s

/-- STAGE_COMMIT_AT at the master (R451, R452). -/
def execStageCommitAt (dt : Nat) (r : Request) (s : State) : Result :=
  let s := s.elapse dt
  let i : OpInfo := { opc := 0x09, urgent := false, bcast := false, fault := false, minLen := 2, maxLen := 2 }
  let at_ := s.resolve (arg r 0)
  let id := fld (arg r 1) 15 0
  let c4 := rejIf (r.src != 0 || !s.dev.master) (some (.notMaster, 1))
  let c5 := firstRej [rejIf (!s.working || !s.dev.chainOk) s.badState,
    rejIf (decide (6000000000 < at_ - s.full)) (badParam 0 0),
    rejIf (decide (at_ - s.full < 2 * (s.tReach : Int))) (some (.tooLate, 0)),
    rejIf (s.stage.st != .prepared || s.stage.id.toNat != id) s.badState,
    rejIf (s.hnd.rs.live.any fun l => l.opc == 0x09) (some (.busy, 0))]
  .next (s.serve i r c4 c5 none s.needHandle fun s =>
    s.accept 0x09 r .armed fun h s =>
      let w : Word := word (unsign 48 at_)
      let run : CommitRun :=
        { handle := h, dst := r.src, at_, id := BitVec.ofNat 16 id, armed := 0, committed := 0, answered := 0,
          polledAt := s.clk, decided := false, abandonedBefore := false, abandonedAtD := false, lastSent := false }
      let s := (s.setWork 0x2501 w).setWork 0x2502 (word id)
      let s := { s with stage := { s.stage with st := .armed, at_, commit := some run } }
      let s := s.broadcast 0x07 false [word 0x2501, w, word 0x2502, word id]
      s.pollStage (s.others 0) .stagePoll)

/-- STAGE_ARM: a PARAM_SET of COMMIT_AT and COMMIT_ID (R453). -/
def execStageArm (dt : Nat) (r : Request) (s : State) : Result := .next ((s.elapse dt).paramSet r)

/-- STAGE_READINESS_POLL: every 1 ms, until D (R452). -/
def execStageReadinessPoll (dt : Nat) (s : State) : Result :=
  let s := s.elapse dt
  .next (match s.stage.commit with
    | some c =>
      if !c.decided && s.answers && c.polledAt + 100000 ≤ s.clk && s.full < s.decideAt c.at_ then
        ({ s with stage := { s.stage with commit := some { c with polledAt := s.clk } } } : State).pollStage
          (s.others c.armed) .stagePoll
      else s
    | none => s)

/-- The mask of every device of the chain. -/
def State.chainMask (s : State) : BitVec 32 := BitVec.ofNat 32 (2 ^ s.chainLength - 1)

/-- STAGE_DECISION at D: the commit stands only if every device, the master included, has been found ARMED (R452). -/
def execStageDecision (dt : Nat) (s : State) : Result :=
  let s := s.elapse dt
  .next (match s.stage.commit with
    | some c =>
      if c.decided || !s.answers || s.full < s.decideAt c.at_ then s
      else
        let own := s.stage.st == .armed && s.stage.id == c.id
        let c := { c with decided := true, armed := if own then c.armed ||| 1 else c.armed }
        if c.armed &&& s.chainMask = s.chainMask then { s with stage := { s.stage with commit := some c } }
        else
          let s := { s with stage := { s.stage with commit := some { c with abandonedAtD := true } } }
          let s := s.broadcast 0x0A true [word c.id.toNat]
          if s.stage.id == c.id then s.abandonStage 1 else s
    | none => s)

/-- COMMIT: in the tick of AT an ARMED device switches sets (R455). -/
def execCommit (dt : Nat) (s : State) : Result :=
  let s := s.elapse dt
  .next (if s.commitDue then s.commitNow else s)

/-- The status of a STAGE_COMMIT_AT (R454). -/
def State.commitStatus (s : State) (c : CommitRun) : Status :=
  if c.committed &&& s.chainMask = s.chainMask then .ok
  else if c.committed ≠ 0 then .partialDone
  else if c.abandonedBefore || !c.abandonedAtD then .abandoned
  else .notReady

/-- The completion is fixed once every device has answered (R454). -/
def State.commitCheck (s : State) : State :=
  match s.stage.commit with
  | some c => if c.lastSent && c.answered &&& s.chainMask = s.chainMask then s.finishCommit c (s.commitStatus c) else s
  | none => s

/-- STAGE_CONFIRM_READ, after AT: this device's own outcome, and a read of every other device (R452). -/
def execStageConfirmRead (dt : Nat) (s : State) : Result :=
  let s := s.elapse dt
  .next (match s.stage.commit with
    | some c =>
      if c.lastSent || !s.answers || s.full < c.at_ || s.stage.st == .armed then s
      else
        let own := s.stage.outcome = 1 ∧ s.stage.lastId = c.id ∧ s.stage.lastAt = c.at_
        let c := { c with lastSent := true, answered := c.answered ||| 1
                          committed := if own then c.committed ||| 1 else c.committed }
        (({ s with stage := { s.stage with commit := some c } } : State).pollStage (s.others 0) .stageConfirm).commitCheck
    | none => s)

/-- STAGE_COMMIT_TIMEOUT: AT + 10 ms (R454). -/
def execStageCommitTimeout (dt : Nat) (s : State) : Result :=
  let s := s.elapse dt
  .next (match s.stage.commit with
    | some c => if s.answers && c.at_ + 1000000 ≤ s.full then s.finishCommit c (s.commitStatus c) else s
    | none => s)

/-- The reply to a read of 2500h and 2503h (R452): a device found ARMED before D, or committed after AT. -/
def State.stageReply (s : State) (a : Addr) (confirm : Bool) (w1 w2 : Word) : State :=
  match s.stage.commit with
  | none => s
  | some c =>
    let m : BitVec 32 := BitVec.ofNat 32 (2 ^ (a.toNat - 1))
    if confirm then
      let done := fld w1 27 26 = 1 ∧ fld w1 15 0 = c.id.toNat ∧ w2 = word (unsign 48 c.at_)
      let c := { c with answered := c.answered ||| m, committed := if done then c.committed ||| m else c.committed }
      ({ s with stage := { s.stage with commit := some c } } : State).commitCheck
    else if !c.decided && decide (s.full ≤ s.decideAt c.at_) && fld w1 31 29 = 3 && fld w1 47 32 = c.id.toNat then
      { s with stage := { s.stage with commit := some { c with armed := c.armed ||| m } } }
    else s

/-- STAGE_PERSIST_DONE: the committed tables are stored, or the store stays as it is (R458). -/
def execStagePersistDone (dt : Nat) (ok : Bool) (s : State) : Result :=
  let s := s.elapse dt
  .next (if !s.stage.persistDue then s
    else if ok then
      let put (t : WTable) (id : Nat) : WTable :=
        tset t id (storeWord ((paramFields id).getD []) (s.inSet s.stage.force id))
      { s with stage := { s.stage with persistDue := false }
               par := { s.par with store := stagedIds.foldl put s.par.store } }
    else ({ s with stage := { s.stage with persistDue := false, storeFailed := true } } : State).count 0x2505 false 1)

/-- SETTLING_END: 400 ms after the commit instant (R457). -/
def execSettlingEnd (dt : Nat) (s : State) : Result :=
  let s := s.elapse dt
  .next (if s.stage.st == .settling && s.clockRuns && s.stage.lastAt + 40000000 ≤ s.full then
    { s with stage := { s.stage with st := .open_, words := s.stage.setTab s.stage.force } }
  else s)

/-- STAGE_ABANDON (R459). Where the link engine has acted on an urgent one at its EOF, core 0 sends the reply alone. -/
def execStageAbandon (dt : Nat) (r : Request) (s : State) : Result :=
  let s := s.elapse dt
  let i : OpInfo := { opc := 0x0A, urgent := true, bcast := true, fault := true, minLen := 1, maxLen := 1 }
  let acted := (if r.urgent then s.urgentQ.find? (·.is 0x0A r) else none).bind (·.acted)
  let hit := acted.getD (s.abandons (arg r 0))
  .next (s.serve i r none none none none fun s =>
    (if hit && acted.isNone then s.abandonStage 1 else s).reply 0x0A r .ok 0 (b2n hit) [])

end Sys2Proof.Machine
end

