-- ==== Sys2Proof/Machine/Enum.lean ====
section
/-! DEFINITION. Enumeration, path delays, and the replies to a device's own requests (R90-R98, R108). -/

namespace Sys2Proof.Machine

/-- ENUM_TIMEOUT in ticks (R105). -/
def State.enumTimeout (s : State) : Nat := s.pf 0x32 13 0 * 100000

/-- ENUM_EXPECT (R105). -/
def State.enumExpect (s : State) : Nat := s.pf 0x38 5 0

/-! ### The master's run -/

/-- The end of a CHAIN: its completion, CHAIN_LENGTH in every device, and the duties that start with it (R92, R94, R96,
R98, R209). `stop` is the position at which the master stopped, or 0. -/
def State.enumFinish (s : State) (run : EnumRun) (n stop : Nat) (ended tooLong : Bool) : State :=
  let ok := ended && !tooLong && decide (s.enumExpect ≤ n)
  let s := ({ s with enumRun := none } : State).complete run.handle (if ok then .ok else .partialDone)
    (n + stop * 256 + b2n tooLong * 2 ^ 16) 0 []
  let s := (s.broadcast 0x07 false [word 0x34, word n]).setWork 0x34 (word n)
  { s with dev := { s.dev with chainOk := s.dev.chainOk || ok, echoAt := s.clk }
           time := { s.time with markDue := true } }

/-- The end of a CHAIN before its chain has ended: device k is addressed once its ECHOs run (R92). -/
def State.enumStop (s : State) (run : EnumRun) : State :=
  match run.phase with
  | .echo _ _ => s.enumFinish run run.k (run.k + 1) false false
  | .pinging => s.enumFinish run 32 0 false false
  | _ => s.enumFinish run (run.k - 1) run.k false false

/-- LINK_FAULT from a device, for ASSIGN k (R92). One from a device other than k - 1 has no row of the table and is taken as
BUSY (DESIGN CHOICE, log entry 37). -/
def State.enumLinkFault (s : State) (run : EnumRun) (src : Nat) : State :=
  if src + 1 = run.k && (s.enumExpect = 0 || s.enumExpect < run.k) then s.enumFinish run (run.k - 1) 0 true false
  else { s with enumRun := some { run with phase := .retry, sentAt := s.clk } }

/-- ASSIGN k leaves for the next device without an address (R92). -/
def State.assignSend (s : State) (run : EnumRun) : State :=
  let k : Addr := BitVec.ofNat 6 run.k
  let run := { run with phase := .assigning, sentAt := s.clk }
  let (sent, s) := s.ask (.assign k) 63 0x01 false [word run.k]
  if sent then { s with enumRun := some run } else s.enumLinkFault run 1

/-- The next address, or beyond 32 the urgent PING (R92); on a down port that is down it meets this device's own LINK_FAULT
in this tick (R73). -/
def State.enumNext (s : State) (run : EnumRun) : State :=
  if run.k < 32 then s.assignSend { run with k := run.k + 1 }
  else
    let (sent, s) := s.ask .ping 63 0x00 true []
    if sent then { s with enumRun := some { run with phase := .pinging, sentAt := s.clk } }
    else s.enumFinish run 32 0 true false

/-- An ECHO to device k leaves, `sub` [10 ps] after the start of its tick (R96). -/
def State.echoSend (s : State) (k : Addr) (sub : Nat) : State := (s.ask (.echo k sub) k 0x03 true []).2

/-- The delay of one exchange, to 10 ps (R96). -/
def State.echoDelay (s : State) (t1 t4 : Int) (w : List Word) : Int × State :=
  let t (i : Nat) : Word := w.getD i 0
  let stay : Int := signed 48 (t 3 - t 1).toNat * 1000 + (fld (t 4) 9 0 : Int) - (fld (t 2) 9 0 : Int)
  s.nearest (((t4 - t1 - stay : Int) : Rat) / 2)

/-- The smaller delay. -/
def better (best : Option Int) (d : Int) : Int :=
  match best with
  | none => d
  | some b => min b d

/-- The smallest of eight delays is written into PATH_DELAY of device k (R96). -/
def State.delayWrite (s : State) (k : Addr) (d : Int) : State :=
  (s.ask .write k 0x07 false [word 0x33, word (unsign 32 d)]).2

/-- The reply to an ECHO to device k: the next of eight exchanges, or the end of the measurement. `next` is the offset of
the next departure in its tick [10 ps]. -/
def State.echoReply (s : State) (k : Addr) (t1 t4 : Int) (w : List Word) (next : Nat) : State :=
  match s.enumRun, s.echoRun with
  | some run, _ =>
    match run.phase with
    | .echo left best =>
      if run.k ≠ k.toNat then s else
      let (d, s) := s.echoDelay t1 t4 w
      let d := better best d
      if 1 < left then
        ({ s with enumRun := some { run with phase := .echo (left - 1) (some d) } } : State).echoSend k next
      else (s.delayWrite k d).enumNext run
    | _ => s
  | none, some e =>
    if e.k != k then s else
    let (d, s) := s.echoDelay t1 t4 w
    let d := better e.best d
    if 1 < e.left then ({ s with echoRun := some { e with left := e.left - 1, best := some d } } : State).echoSend k next
    else ({ s with echoRun := none } : State).delayWrite k d
  | none, none => s

/-- The answer to ASSIGN k (R92). A status that the table does not name ends the enumeration as BAD_STATE does (DESIGN CHOICE,
log entry 37). -/
def State.assignReply (s : State) (k : Addr) (src st next : Nat) : State :=
  match s.enumRun with
  | none => s
  | some run =>
    if run.k ≠ k.toNat || !(run.phase == .assigning || run.phase == .retry) then s
    else if st = Status.ok.num then
      ({ s with enumRun := some { run with phase := .echo 8 none } } : State).echoSend k next
    else if st = Status.linkFault.num then s.enumLinkFault run src
    else if st = Status.busy.num then { s with enumRun := some { run with phase := .retry, sentAt := s.clk } }
    else s.enumFinish run (run.k - 1) run.k false false

/-- The answer to the PING beyond position 32 (R92). -/
def State.pingReply (s : State) (st : Nat) : State :=
  match s.enumRun with
  | some run =>
    if run.phase == .pinging then s.enumFinish run 32 0 true (st != Status.linkFault.num) else s
  | none => s

/-- A reply to a broadcast of the master's own, or to a relay packet of it, which carry tag 0, has no effect (R431). No other
device requests replies to those (R108). -/
def State.ownBroadcast (s : State) (h : Word) : Bool :=
  s.dev.master && hTag h == 0 && s.own.any fun o => o.kind == .broadcast && o.opc.toNat == hOpc h

/-- REPLY_RECEIVED (R108): `sub` holds the arrival's offset in its tick [10 ps] below 1,000, and above it the offset of
the departure that may follow (log entry 2). -/
def execReplyReceived (dt : Nat) (_side : Side) (p : Packet) (sub : Nat) (s : State) : Result :=
  let s := s.elapse dt
  let h := p.header
  let w := p.words
  let st := fld (w.getD 0 0) 47 40
  .next (if !s.answers || !hReply h then s else
    match takeFirst (fun (o : Own) => o.kind != .broadcast && o.tag == hTag h && o.opc.toNat == hOpc h) s.own with
    | none => if s.ownBroadcast h then s else s.count 0x45 true 1
    | some (o, rest) =>
      let s := { s with own := rest }
      match o.kind with
      | .assign k => s.assignReply k (hSrc h) st (sub / 1000)
      | .echo k t1 => if st = 0 then s.echoReply k t1 (s.at10 (sub % 1000)) w (sub / 1000) else s
      | .ping => s.pingReply st
      | .write => s
      | .broadcast => s
      | .stagePoll a => if st = 0 && 3 ≤ w.length then s.stageReply a false (w.getD 1 0) (w.getD 2 0) else s
      | .stageConfirm a => if st = 0 && 3 ≤ w.length then s.stageReply a true (w.getD 1 0) (w.getD 2 0) else s)

/-- ASSIGN_RETRY: 1 ms after BUSY or a waiting LINK_FAULT, or without a reply within 1 ms (R92). -/
def execAssignRetry (dt : Nat) (s : State) : Result :=
  let s := s.elapse dt
  .next (match s.enumRun with
    | some run =>
      if s.answers && (run.phase == .retry || run.phase == .assigning) && run.sentAt + 100000 ≤ s.clk then
        s.assignSend run
      else s
    | none => s)

/-- ENUM_TIMEOUT: the enumeration stops, and a SORT_START held too long is answered BUSY (R92, R98). -/
def execEnumTimeout (dt : Nat) (s : State) : Result :=
  let s := s.elapse dt
  let stop (s : State) : State := match s.enumRun with
    | some run =>
      if run.startAt + s.enumTimeout ≤ s.clk && run.phase != .pinging then s.enumStop run else s
    | none => s
  let free (s : State) : State :=
    if s.dev.chainOk then s else
    let old := s.dev.heldStarts.filter fun (h : Request × Nat) => decide (h.2 + s.enumTimeout ≤ s.clk)
    let rest := s.dev.heldStarts.filter fun (h : Request × Nat) => !decide (h.2 + s.enumTimeout ≤ s.clk)
    old.foldl (fun s h => s.reply 0x24 h.1 .busy 0 0 []) { s with dev := { s.dev with heldStarts := rest } }
  .next (if s.answers then free (stop s) else s)

/-- CHAIN_PING_TIMEOUT: no reply within 1 ms (R92). -/
def execChainPingTimeout (dt : Nat) (s : State) : Result :=
  let s := s.elapse dt
  .next (match s.enumRun with
    | some run =>
      if s.answers && run.phase == .pinging && run.sentAt + 100000 ≤ s.clk then s.enumFinish run 32 0 true false else s
    | none => s)

/-- ECHO_MEASURE: the round starts with device 2 every ECHO_PERIOD (R96). -/
def execEchoMeasure (dt : Nat) (k : Addr) (sub : Nat) (s : State) : Result :=
  let s := s.elapse dt
  let p := s.pf 0x30 13 0 * 100000
  .next (if s.dev.master && s.answers && s.enumRun.isNone && 2 ≤ k.toNat && k.toNat ≤ s.chainLength && p ≠ 0
      && (k ≠ 2 || decide (s.dev.echoAt + p ≤ s.clk)) then
    ({ s with
      echoRun := some { k, left := 8, best := none }
      dev := { s.dev with echoAt := if k = 2 then s.clk else s.dev.echoAt } } : State).echoSend k sub
  else s)

/-! ### ENUMERATE (R90, R91) -/

/-- ASSIGN: the device takes its address and enters IDLE. -/
def State.takeAddress (s : State) (r : Request) : State :=
  let a := fld (arg r 0) 5 0
  let s := ({ s with dev := { s.dev with addr := BitVec.ofNat 6 a, master := a == 1 } } : State).enter .idle 0
  s.reply 0x01 r .ok 0 a [s.reg 0 0]

/-- CHAIN: the master starts with ASSIGN 2. -/
def State.startChain (s : State) (r : Request) : State :=
  s.accept 0x01 r .armed fun h s =>
    s.assignSend { handle := h, dst := r.src, k := 2, startAt := s.clk, phase := .assigning, sentAt := s.clk }

/-- CLEAR: address 63 and UNADDRESSED; a running enumeration ends where it stands. -/
def State.clearAddress (s : State) (r : Request) : State :=
  let s := match s.enumRun with
    | some run => s.enumStop run
    | none => s
  let s := { s with echoRun := none, dev := { s.dev with addr := 63, master := false, chainOk := false } }
  (if s.dev.code == .unaddressed then s else s.enter .unaddressed 0).ok 0x01 r

/-- ENUMERATE, by its MODE (R90, R91, R113). `sorts`: a device of the chain other than this one is in SORTING or
DRAINING. A CHAIN while an enumeration runs is answered BUSY (log entry 37). -/
def State.enumerate (s : State) (r : Request) (sorts : Bool) : State :=
  let i : OpInfo := { opc := 0x01, urgent := false, bcast := true, fault := false, minLen := 1, maxLen := 1 }
  let w := arg r 0
  let a := fld w 5 0
  let dst := badParam 0xFF 42
  match fld w 47 40 with
  | 0 =>
    let c4 := rejIf ((a = 1 && r.src != 0) || (2 ≤ a && a ≤ 32 && r.src != 1)) (some (.notMaster, 1))
    let c5 := firstRej [rejIf (s.dev.code == .starting) (some (.busy, s.dev.startStep)),
      rejIf (s.dev.code != .unaddressed) s.badState]
    s.serve i r c4 c5 (firstRej [rejIf (r.dst != 63) dst, rejIf (a = 0 || decide (32 < a)) (badParam 0 0)]) none
      fun s => s.takeAddress r
  | 1 =>
    let c5 := firstRej [rejIf (!s.dev.master || s.dev.code != .idle || sorts) s.badState,
      rejIf s.enumRun.isSome (some (.busy, 0))]
    s.serve i r (rejIf (r.src != 0) (some (.notMaster, 1))) c5
      (firstRej [rejIf (r.dst == 62) dst, rejIf (a != 0) (badParam 0 0)]) s.needHandle fun s => s.startChain r
  | 2 =>
    s.serve i r none (rejIf (!s.inState [.idle, .unaddressed]) s.badState)
      (firstRej [rejIf (r.dst != 62) dst, rejIf (a != 0) (badParam 0 0)]) none fun s => s.clearAddress r
  | _ => s.serve i r none none (firstRej [rejIf (r.dst == 62) dst, badParam 0 40]) none id

/-- ENUMERATE with MODE ASSIGN. -/
def execEnumerateAssign (dt : Nat) (r : Request) (s : State) : Result := .next ((s.elapse dt).enumerate r false)

/-- ENUMERATE with MODE CHAIN; `sorts` tells of the other devices of the chain (R91). -/
def execEnumerateChain (dt : Nat) (r : Request) (sorts : Bool) (s : State) : Result :=
  .next ((s.elapse dt).enumerate r sorts)

/-- ENUMERATE with MODE CLEAR. -/
def execEnumerateClear (dt : Nat) (r : Request) (s : State) : Result := .next ((s.elapse dt).enumerate r false)

end Sys2Proof.Machine
end

