-- ==== Sys2Proof/Machine/Link.lean ====
section
/-! DEFINITION. Packets, ordered sets and port events of the Lingaris link (chapter 3). -/

namespace Sys2Proof.Machine

/-- Smallest and largest LEN of each opcode that a device consumes (R113 and the owner chapters). -/
def opLengths (opc : Nat) : Option (Nat × Nat) :=
  match opc with
  | 0x00 => some (0, 0)
  | 0x01 => some (1, 1)
  | 0x02 => some (0, 0)
  | 0x03 => some (0, 16)
  | 0x04 => some (1, 12)
  | 0x05 => some (2, 24)
  | 0x06 => some (1, 32)
  | 0x07 => some (2, 32)
  | 0x08 => some (1, 1)
  | 0x09 => some (2, 2)
  | 0x0A => some (1, 1)
  | 0x0E => some (1, 1)
  | 0x20 => some (3, 255)
  | 0x21 => some (2, 2)
  | 0x22 => some (1, 1)
  | 0x23 => some (1, 1)
  | 0x24 => some (1, 1)
  | 0x25 => some (1, 1)
  | 0x26 => some (1, 1)
  | 0x40 => some (2, 2)
  | 0x41 => some (1, 1)
  | 0x42 => some (1, 1)
  | 0x43 => some (1, 1)
  | 0x50 => some (1, 1)
  | 0x51 => some (0, 0)
  | 0x52 => some (1, 1)
  | 0x53 => some (2, 2)
  | 0x54 => some (0, 0)
  | 0x60 => some (1, 1)
  | 0x61 => some (3, 3)
  | 0x62 => some (1, 1)
  | 0x63 => some (3, 129)
  | 0x64 => some (0, 0)
  | 0x70 => some (1, 1)
  | 0x71 => some (2, 2)
  | 0x72 => some (3, 3)
  | 0x73 => some (1, 1)
  | 0x74 => some (1, 1)
  | 0x75 => some (1, 1)
  | 0x76 => some (1, 65)
  | 0x80 => some (0, 1)
  | 0x81 => some (1, 1)
  | 0x82 => some (2, 2)
  | 0x83 => some (0, 0)
  | 0x84 => some (4, 4)
  | 0x85 => some (2, 2)
  | 0x90 => some (1, 1)
  | 0x91 => some (1, 1)
  | 0x92 => some (1, 1)
  | 0x93 => some (1, 1)
  | 0xA0 => some (2, 2)
  | 0xA1 => some (2, 3)
  | 0xA2 => some (1, 2)
  | 0xF0 => some (2, 2)
  | 0xF1 => some (2, 255)
  | 0xF2 => some (1, 1)
  | 0xF3 => some (1, 1)
  | _ => none

/-- An answer of the link engine to a packet, on the port on which it arrived. -/
def State.answer (s : State) (side : Side) (k : Packet) (st : Status) (detail : Nat) : State :=
  s.put side (hUrgent k.header)
    { header := mkHeader (BitVec.ofNat 6 (hSrc k.header)) s.dev.addr (hOpc k.header) (hTag k.header) 1 true false
        (hUrgent k.header),
      words := [fields [(47, 40, st.num), (23, 0, detail)]] }

/-- The packet is a request from an address that may send one (R108). Every packet with REPLY clear counts as a request, a
completion (0Fh) included, of which R113 speaks as a request and R107 does not (DESIGN CHOICE, log entry 73). -/
def mayAnswer (h : Word) : Bool := !hReply h && decide (hSrc h ≤ 32)

/-- A relay packet of R430, on which the link engine itself acts (R431); from a source that may send one (R108). -/
def isRelay (k : Packet) : Bool :=
  hOpc k.header == 0x93 && !hReply k.header && bit (k.words.headD 0) 20 && hSrc k.header != 0 && decide (hSrc k.header ≤ 32)

/-- The device consumes a packet: DETECT packets, replies and relay packets go to their own engines; an unknown opcode is
answered at once, and a request waits for core 0, or meets BUSY when its queue is full (R108, R111, R113). `acted`: what
the link engine has made of an urgent STAGE_ABANDON (R459). -/
def State.consume (s : State) (side : Side) (k : Packet) (acted : Option Bool) : State :=
  let h := k.header
  if hReply h || isRelay k then s
  else if 32 < hSrc h then s.count 0x45 true 1
  else if hOpc h = 0x20 then s
  else
    let urgent := hUrgent h
    let full := if urgent then decide (4 ≤ s.urgentQ.length) else decide (16 ≤ s.bulkQ.length)
    if full then (s.answer side k .busy 0).count 0x45 false 1
    else if (opLengths (hOpc h)).isNone then s.answer side k .badOpcode (hOpc h)
    else
      let e : Waiting := { opc := BitVec.ofNat 8 (hOpc h), req := asRequest side k, recs := s.nib.recs, acted }
      if urgent then { s with urgentQ := s.urgentQ ++ [e] } else { s with bulkQ := s.bulkQ ++ [e] }

/-- A packet must leave on a port that is down: a unicast is discarded, and a request answered LINK_FAULT (R73). -/
def State.linkFault (s : State) (side : Side) (k : Packet) : State :=
  let s := s.freeRx side (hUrgent k.header) (k.words.length + 2)
  if mayAnswer k.header then s.answer side k .linkFault 0 else s

/-- Device 32 forwards no bulk packet on its down port (R93). -/
def State.noBulkDown (s : State) (out : Side) (urgent : Bool) : Bool :=
  s.dev.addr == 32 && out == .down && !urgent

/-- The link engine acts on an urgent STAGE_ABANDON that it forwards or consumes, for its own device, at its EOF (R459).
Answers whether it abandoned a stage; none for other packets. -/
def State.linkAbandon (s : State) (k : Packet) : Option Bool × State :=
  let h := k.header
  if hReply h || hOpc h != 0x0A || !hUrgent h || k.words.length != 1 || decide (32 < hSrc h) then (none, s)
  else if s.abandons (k.words.headD 0) then (some true, s.abandonStage 1)
  else (some false, s)

/-- An accepted packet is routed (R72-R76). An urgent reply that is too long gets no BAD_LENGTH; a
request with a source above 32 counts in DISCARDED (R108). A bulk request that device 32 does not forward down is neither
answered nor counted (DESIGN CHOICE, log entry 62). -/
def State.routePacket (s : State) (side : Side) (k : Packet) : State :=
  let urgent := hUrgent k.header
  let n := k.words.length + 2
  if urgent && 16 < k.words.length then
    let s := s.freeRx side urgent n
    let d := match opLengths (hOpc k.header) with
      | some (lo, hi) => min 16 hi * 256 + lo
      | none => 16 * 256
    if mayAnswer k.header then s.answer side k .badLength d
    else if hReply k.header then s else s.count 0x45 true 1
  else
    let w := s.wayOf side (hDst k.header)
    let (acted, s) := if w.consume || w.out.isSome then s.linkAbandon k else (none, s)
    let s := if w.consume then s.consume side k acted else s
    match w.out with
    | none =>
      let s := s.freeRx side urgent n
      s
    | some out =>
      if out == side then (s.freeRx side urgent n).count 0x45 true 1
      else if s.portIsDown out then
        if w.consume then s.freeRx side urgent n else s.linkFault side k
      else if s.noBulkDown out urgent then s.freeRx side urgent n
      else s.forward side out urgent { header := k.header, words := k.words }

/-- A packet that was being forwarded by cut-through fails: the outgoing one ends with EOF_BAD, its number is used again
and its credits are spent (R74, R85). An urgent packet that is too long was not being forwarded (R76). -/
def State.cutThroughBad (s : State) (side : Side) (k : Packet) : State :=
  let urgent := hUrgent k.header
  match (s.wayOf side (hDst k.header)).out with
  | none => s
  | some out =>
    let t : TxPacket := { header := k.header, words := k.words }
    if out == side || s.portIsDown out || s.noBulkDown out urgent || (urgent && decide (16 < k.words.length)) ||
        !((s.port out).lane urgent).stored.isEmpty || !(s.port out).maySend urgent t then s
    else (s.modPort out fun q => q.modLane urgent fun l => l.spend t.size).emit (.eofBad out)

/-- PACKET_RECEIVED: slot count, CRC and LSEQ; an accepted packet is routed, a failed one answered by NAK and discarded;
one that ends with EOF_BAD is discarded without NAK (R69, R81, R83, R85). One of unexpected LSEQ is discarded, and a copy
of it that leaves by cut-through is not ended with EOF_BAD (DESIGN CHOICE, log entry 62). `ecc`: what the link engine finds
when it reads the packet out of its receive buffer (R17). -/
def execPacketReceived (dt : Nat) (side : Side) (urgentSof : Bool) (slots : Nat) (eofBad : Bool) (p : Packet)
    (crcWord : Word) (ecc : Ecc) (s : State) : Result :=
  let s := s.elapse dt
  .next (if !s.linkRuns || !s.portUp side then s else
    let s := s.slot
    let l := (s.port side).lane urgentSof
    let n := p.words.length + 2
    let free (s : State) : State := s.modPort side fun q => q.modLane urgentSof fun l =>
      { l with freed := l.freed + BitVec.ofNat 12 n }
    if eofBad then (free s).cutThroughBad side p
    else
      let good := slots = hLen p.header + 4 ∧ p.words.length = hLen p.header ∧
        (packetCrc p.header p.words (fld crcWord 47 32)).toNat = fld crcWord 31 0
      if ¬good then
        let s := (free s).count (if side == .up then 0x35 else 0x36) true 1
        let s := s.cutThroughBad side p
        (s.modPort side fun q => q.modLane urgentSof fun l => { l with nakked := true }).emit
          (.nak side urgentSof (l.rxNext - 1))
      else if fld crcWord 43 32 ≠ l.rxNext.toNat then
        let s := free s
        if l.nakked then s
        else (s.modPort side fun q => q.modLane urgentSof fun l => { l with nakked := true }).emit
          (.nak side urgentSof (l.rxNext - 1))
      else
        let s := s.modPort side fun q => q.modLane urgentSof fun l =>
          { l with rxNext := l.rxNext + 1, nakked := false, ackDue := l.ackDue + 1, buffered := l.buffered + n }
        let s := if s.dev.cutOff && side == .up && hSrc p.header = 0 && s.portUp .up then
          { s with dev := { s.dev with cutOff := false } } else s
        let (go, s) := s.linkRead ecc
        if go then s.routePacket side p else s)

/-- PACKET_FORWARD: the oldest packet of a class that waits in a port leaves once credits and the replay buffer allow
(R74, R79, R82), read out of its buffer (R17); an ECHO of this device takes its departure time. -/
def execPacketForward (dt : Nat) (side : Side) (urgent : Bool) (ecc : Ecc) (s : State) : Result :=
  let s := s.elapse dt
  .next (match ((s.port side).lane urgent).stored with
    | [] => s
    | t :: r =>
      if s.linkRuns && (s.port side).maySend urgent t then
        let (go, s) := s.slot.linkRead ecc
        if !go then s else
        let s := s.modPort side fun q => q.modLane urgent fun l => { l with stored := r }
        let s := s.freeRx (otherSide side) urgent t.holds
        let s := { s with own := s.own.map fun (o : Own) => match o.kind with
          | OwnKind.echo k sub => if t.holds = 0 && hOpc t.header = 0x03 && !hReply t.header && o.tag == hTag t.header
              then { o with kind := OwnKind.echo k (s.at10 sub.toNat) } else o
          | _ => o }
        s.sendOut side urgent { t with holds := 0 }
      else s)

/-- ORDERED_SET_DISCARD: a symbol error; more than 16 in 10 us take the port down (R67, R88). -/
def execOrderedSetDiscard (dt : Nat) (side : Side) (s : State) : Result :=
  let s := s.elapse dt
  .next (if !s.linkRuns then s else
    let errs := (s.port side).symErrs.filter (fun t => decide (s.clk < t + 1000)) ++ [s.clk]
    let s := (if s.portUp side then s.slot else s).modPort side fun q => { q with symErrs := errs }
    match (s.port side).state with
    | .up => if 16 < errs.length then s.portLoss side false else s
    | .retraining _ => if 16 < errs.length then s.portLoss side false else s
    | _ => s)

/-- The training step after a TRAIN of step `m` arrives while step `n` is sent (R87). -/
def trainNext (n m : Nat) : Nat := if n = 1 then 2 else if n = 2 ∧ m = 2 then 3 else n

/-- TRAIN (R87). A trained port retrains with its partner (log entry 17). -/
def execTrain (dt : Nat) (side : Side) (stepNo : Fin 3) (s : State) : Result :=
  let s := s.elapse dt
  let m := stepNo.val + 1
  .next (if !s.linkRuns then s else
    match (s.port side).state with
    | .training n =>
      let k := trainNext n m
      (s.modPort side fun q => { q with state := .training k }).emit (.train side k)
    | .retraining n =>
      let k := trainNext n m
      (s.modPort side fun q => { q with state := .retraining k }).emit (.train side k)
    | .up => if m = 1 then s.retrain side else s
    | _ => s)

/-- A port that has ended training: credits and sequence numbers start afresh (R79, R87). -/
def Lane.fresh (l : Lane) (size : Nat) : Lane := { held := size, stored := l.stored }

/-- T_hop that a training fixes [10 ps]: within 0.316 us and 0.324 us, and within 0.2 ns of the other direction's, once that
is fixed (R74). The operand says where in that range. -/
def State.hop (s : State) (side : Side) (t : Nat) : Nat :=
  let t := max 31600 (min 32400 t)
  let o := (s.port (otherSide side)).tHop
  if o = 0 then t else max (o - 20) (min (o + 20) t)

/-- TRAINING_DONE: the port is up (R74, R87); cut off by its own port ends (R103), and a down port that was down sets
LINK_NEW while the chain sorts (R104): the spec does not say how a device knows, and the model takes its own SORTING or
DRAINING (DESIGN CHOICE, log entry 73). -/
def execTrainingDone (dt : Nat) (side : Side) (tHop : Nat) (s : State) : Result :=
  let s := s.elapse dt
  let tHop := s.hop side tHop
  let up (s : State) : State := (s.wake 8 (s.portUp .up || s.portUp .down)).modPort side fun q =>
    { q with state := .up, tHop, symErrs := [], bulk := q.bulk.fresh 2048, urgent := q.urgent.fresh 256 }
  .next (if !s.linkRuns then s else
    match (s.port side).state with
    | .training 3 =>
      let s := up s
      match side with
      | .up => { s with dev := { s.dev with cutOff := false } }
      | .down =>
        if s.inState [.sorting, .draining] then { s with health := { s.health with linkNew := true } } else s
    | .retraining 3 => up s
    | _ => s)

/-- ACK (R82). -/
def execAck (dt : Nat) (side : Side) (urgent : Bool) (seq : BitVec 12) (s : State) : Result :=
  let s := s.elapse dt
  .next (if s.linkRuns && s.portUp side then s.slot.modPort side fun q => q.modLane urgent fun l => l.acked seq else s)

/-- A class is replayed, unless its oldest packet has been sent again four times: then the port retrains (R84, R86). -/
def State.replayOrRetrain (s : State) (side : Side) (urgent : Bool) : State :=
  match ((s.port side).lane urgent).replay with
  | [] => s
  | t :: _ => if 4 ≤ t.resends then s.retrain side else s.replayClass side urgent

/-- NAK: the packets it covers are acknowledged, the others read out of the replay buffer and sent again (R17, R84). -/
def execNak (dt : Nat) (side : Side) (urgent : Bool) (seq : BitVec 12) (ecc : Ecc) (s : State) : Result :=
  let s := s.elapse dt
  .next (if s.linkRuns && s.portUp side then
    let s := s.slot.modPort side fun q => q.modLane urgent fun l => l.acked seq
    if ((s.port side).lane urgent).replay.isEmpty then s else
    let (go, s) := s.linkRead ecc
    if go then s.replayOrRetrain side urgent else s
  else s)

/-- REPLAY_TIMEOUT: no ACK for 10 us; the class is read out of the replay buffer (R17, R84, R86). -/
def execReplayTimeout (dt : Nat) (side : Side) (urgent : Bool) (ecc : Ecc) (s : State) : Result :=
  let s := s.elapse dt
  .next (if s.linkRuns && s.portUp side then
    match ((s.port side).lane urgent).replay with
    | [] => s
    | t :: _ =>
      if t.sentAt + 1000 ≤ s.clk then
        let (go, s) := s.slot.linkRead ecc
        if go then s.replayOrRetrain side urgent else s
      else s
  else s)

/-- CREDIT: held credits follow from the running total, and the packets that must go out again do so (R80, R84). -/
def execCredit (dt : Nat) (side : Side) (urgent : Bool) (freed : BitVec 12) (s : State) : Result :=
  let s := s.elapse dt
  .next (if s.linkRuns && s.portUp side then
    let s := s.slot.modPort side fun q => q.modLane urgent fun l =>
      { l with held := (if urgent then 256 else 2048) - (l.sent - freed).toNat }
    s.sendAgain side urgent ((s.port side).lane urgent).replay
  else s)

/-- CREDIT_SEND (R80). -/
def execCreditSend (dt : Nat) (side : Side) (urgent : Bool) (s : State) : Result :=
  let s := s.elapse dt
  let l := (s.port side).lane urgent
  .next (if s.linkRuns && s.portUp side && l.freed != l.reported then
    (s.slot.modPort side fun q => q.modLane urgent fun l => { l with reported := l.freed }).emit
      (.credit side urgent l.freed)
  else s)

/-- ACK_SEND (R83, R87). -/
def execAckSend (dt : Nat) (side : Side) (urgent : Bool) (s : State) : Result :=
  let s := s.elapse dt
  let l := (s.port side).lane urgent
  .next (if s.linkRuns && s.portUp side && decide (0 < l.ackDue) then
    (s.slot.modPort side fun q => q.modLane urgent fun l => { l with ackDue := 0 }).emit (.ack side urgent (l.rxNext - 1))
  else s)

/-- PORT_TRAIN_TIMEOUT: not trained again within 1 ms (R86). -/
def execPortTrainTimeout (dt : Nat) (side : Side) (s : State) : Result :=
  let s := s.elapse dt
  .next (if !s.linkRuns then s else
    match (s.port side).state with
    | .retraining _ => if (s.port side).trainAt + 100000 ≤ s.clk then s.portLoss side false else s
    | _ => s)

/-- PORT_DOWN (R88). -/
def execPortDown (dt : Nat) (side : Side) (s : State) : Result :=
  let s := s.elapse dt
  .next (if !s.linkRuns then s else
    match (s.port side).state with
    | .up => s.portLoss side false
    | .retraining _ => s.portLoss side false
    | _ => s)

/-- PORT_HOLD_EXPIRY: 1 s after the eighth loss (R88). -/
def execPortHoldExpiry (dt : Nat) (side : Side) (s : State) : Result :=
  let s := s.elapse dt
  .next (if s.linkRuns && (s.port side).state == .held && (s.port side).holdAt + 100000000 ≤ s.clk then
    (s.modPort side fun q => { q with state := .training 1, trainAt := s.clk }).emit (.train side 1)
  else s)

/-- BREAK: it is forwarded unchanged; one that arrives on the up port with side "up lost" cuts the device off, one with
side "down lost" meets the master's BREAK_POLICY (R99-R102). -/
def execBreakSet (dt : Nat) (side : Side) (addr : Addr) (downLost : Bool) (s : State) : Result :=
  let s := s.elapse dt
  .next (if !s.linkRuns || !s.portUp side then s else
    let s := s.slot
    let s := if s.portUp (otherSide side) then s.emit (.brk (otherSide side) addr downLost) else s
    if downLost then s.breakPolicy addr.toNat
    else if side == .up then s.cutOffNow else s)

end Sys2Proof.Machine
end

