-- ==== Sys2Proof/Machine/LogCmds.lean ====
section
/-! DEFINITION. The trace log: bursts into the ring, LOG_CONFIG, LOG_MARK and LOG_READ (R402-R413). -/

namespace Sys2Proof.Machine

/-- The LSN `a` lies below `b`, modulo 2^48 (R401). -/
def lsnLt (a b : Word) : Bool := decide (0 < signed 48 (b - a).toNat)

/-- A free staging slot after a drop: the GAP record with the count of dropped records comes first (R402). -/
def State.gapIfFree (s : State) : State :=
  if 0 < s.log.lost ∧ s.log.staging.length < 4096 then
    let n := s.log.lost
    (({ s with log := { s.log with lost := 0 } } : State).stageRec (s.gapBits n 0)).count 0x2305 false 1
  else s

/-- The tail moves to an LSN: what lies before it leaves the ring, and a running read loses those records (R404, R406,
R409). -/
def State.moveTail (s : State) (t : Word) : State :=
  let gone := s.log.ring.filter fun x => lsnLt x.1 t
  let hit := match s.log.read with
    | some (_, start, _, _) => (gone.filter fun x => !lsnLt x.1 start).length
    | none => 0
  { s with log := { s.log with
      ring := s.log.ring.filter fun x => !lsnLt x.1 t, tail := t, passed := s.log.passed + hit } }

/-- Records of a burst by XSPI_CLK (R397). -/
def burstMax (clk : BitVec 2) : Nat := if clk = 0 then 32 else if clk = 1 then 16 else 8

/-- The log engine works: the core clock runs and no LOG recall holds it (R401, R421). -/
def State.logRuns (s : State) : Bool := s.log.started && s.clockRuns && s.dev.code != .off && !s.frozen 2

/-- A full FILL ring takes nothing: staged records are dropped in LSN order and counted (R404). -/
def State.fillDrop (s : State) (n : Nat) : State :=
  let s := s.count 0x2305 true n
  let rest := s.log.staging.drop n
  ({ s with log := { s.log with
      staging := rest, lostFill := s.log.lostFill + n
      head := (rest.head?.map (·.1)).getD s.log.nextLsn } } : State).gapIfFree

/-- LOG_BURST_START: up to a burst of staged records is taken; those with two bits in error give way to GAP records
(R16); a full WRAP ring loses its oldest records, a full FILL ring takes none (R403, R404, R413). -/
def execLogBurstStart (dt : Nat) (bad : List Nat) (ecc : Ecc) (s : State) : Result :=
  let s := s.elapse dt
  .next (if !s.logRuns || !s.log.xspiOk || s.log.burst ≠ 0 || s.log.staging.isEmpty then s else
    let n := min (burstMax s.log.clk) s.log.staging.length
    let s := (bad.filter (· < n)).foldl (fun s i => s.uncorrected.uncorrLog i) s
    match ecc with
    | .scratchpad => s.hang 6 3 none none 0
    | _ =>
      let s := if ecc = .corrected then s.corrected else s
      let free := s.ringCap - s.log.ring.length
      if s.pf 0x2301 0 0 = 1 then
        if free = 0 then s.fillDrop n else { s with log := { s.log with burst := min n free } }
      else
        let s := if free < n then s.moveTail ((s.log.ring.drop (n - free)).head?.map (·.1) |>.getD s.log.head) else s
        { s with log := { s.log with burst := n } })

/-- LOG_BURST_DONE: the records are in the ring and their staging slots are free (R403, R413); a progress mark (R416). -/
def execLogBurstDone (dt : Nat) (s : State) : Result :=
  let s := s.elapse dt
  .next (if !s.logRuns || s.log.burst = 0 then s else
    let l := s.log.staging.take s.log.burst
    let head := match l.getLast? with
      | some x => x.1 + 1
      | none => s.log.head
    let tail := if s.log.ring.isEmpty then (l.head?.map (·.1)).getD s.log.tail else s.log.tail
    let s := { s with log := { s.log with
      ring := s.log.ring ++ l, staging := s.log.staging.drop s.log.burst, burst := 0, head, tail } }
    (s.mark 6).gapIfFree)

/-- LOG_CONFIG (R406): CLEAR, then RELEASE; space freed in a FILL ring lets the GAP record of its drops in (R404). -/
def execLogConfig (dt : Nat) (r : Request) (s : State) : Result :=
  let s := s.elapse dt
  let i : OpInfo := { opc := 0xA2, urgent := false, bcast := false, fault := false, minLen := 1, maxLen := 2 }
  let w := arg r 0
  let c3 := rejIf (bit w 9 && r.words.length == 1) (some (.badLength, 2 * 256 + 1))
  let c5 := rejIf (!s.working || (bit w 8 && s.dev.code != .idle)) s.badState
  .next (s.serve i r c3 c5 none none fun s =>
    let s := s.setWork 0x2301 (putFld (putFld (s.work 0x2301) 0 0 (fld w 0 0)) 2 2 (fld w 2 2))
    let before := s.log.ring.length
    let s := if bit w 8 then s.moveTail s.log.head else s
    let upto := if lsnLt s.log.head (arg r 1) then s.log.head else arg r 1
    let s := if bit w 9 && lsnLt s.log.tail upto then s.moveTail upto else s
    let s := if s.log.ring.length < before ∧ 0 < s.log.lostFill then
        ({ s with log := { s.log with lost := s.log.lost + s.log.lostFill, lostFill := 0 } } : State).gapIfFree
      else s
    s.ok 0xA2 r)

/-- LOG_MARK (R407). -/
def execLogMark (dt : Nat) (r : Request) (s : State) : Result :=
  let s := s.elapse dt
  let i : OpInfo := { opc := 0xA1, urgent := false, bcast := true, fault := false, minLen := 2, maxLen := 3 }
  let w := arg r 1
  .next (s.serve i r none (rejIf (!s.working) s.badState) (rejIf (decide (2 < fld w 35 32)) (badParam 1 32)) none
    fun s =>
    (s.stageRec (mkRec [(127, 124, 2), (123, 76, (arg r 0).toNat), (75, 72, fld w 35 32), (71, 40, fld w 31 0),
      (39, 0, fld (arg r 2) 39 0)])).ok 0xA1 r)

/-- LOG_READ: a handle armed from the reply (R408); it starts at FROM, or at the tail (R409). -/
def execLogRead (dt : Nat) (r : Request) (s : State) : Result :=
  let s := s.elapse dt
  let i : OpInfo := { opc := 0xA0, urgent := false, bcast := false, fault := true, minLen := 2, maxLen := 2 }
  let n := fld (arg r 1) 6 0
  let c5 := firstRej [rejIf (s.dev.code == .starting) s.badState,
    rejIf (s.hnd.rs.live.any fun l => l.opc == 0xA0) (some (.busy, 0))]
  .next (s.serve i r none c5 (rejIf (n = 0 || decide (83 < n)) (badParam 1 0)) s.needHandle fun s =>
    s.accept 0xA0 r .armed fun h s =>
      let s := s.wake 6 s.logBusy
      let below := lsnLt (arg r 0) s.log.tail
      { s with log := { s.log with read := some (h, if below then s.log.tail else arg r 0, n, below), passed := 0 } })

/-- The three words of a record in a completion (R410). -/
def recWords (x : Rec) : List Word :=
  [x.extractLsb' 80 48, x.extractLsb' 32 48, (x.extractLsb' 0 32).setWidth 48 <<< 16]

/-- LOG_READ_DONE: the records from the start that the ring still holds (R409, R410). With none returned word 3 is a
free value (log entry 14). -/
def execLogReadDone (dt : Nat) (s : State) : Result :=
  let s := s.elapse dt
  .next (match s.log.read with
    | none => s
    | some (h, start, n, below) =>
      if !s.logRuns then s else
      let all := s.log.ring.filter fun x => !lsnLt x.1 start
      let got := all.take (n - s.log.passed)
      let skipped := below || decide (0 < s.log.passed)
      let (first, s) := match got with
        | x :: _ => (x.1, s)
        | [] => s.freeWord
      let st := if all.length + s.log.passed < n then Status.partialDone else .ok
      let detail := got.length + b2n skipped * 128 + b2n (!s.log.xspiOk) * 256
      ({ s with log := { s.log with read := none, passed := 0 } } : State).complete h st detail got.length
        ([first, s.log.head] ++ got.flatMap fun x => recWords x.2))

end Sys2Proof.Machine
end

