-- ==== Sys2Proof/Machine/Nib.lean ====
section
/-! DEFINITION. Commands and events of the Nib scheduler (R217-R249, R98, R457). -/

namespace Sys2Proof.Machine

/-- The records of a DETECT packet (section 0.7, R217). -/
def recordsOf (src : Addr) (port : Side) : List Word → List NibRec
  | a :: b :: c :: r => { w0 := a, w1 := b, w2 := c, src, port } :: recordsOf src port r
  | _ => []

/-- The link engine and the Nib engines work: neither the supply nor the core clock is lost (R415, R491). -/
def State.takesRecords (s : State) : Bool := s.dev.code != .off && (s.dev.dead.isNone || s.dev.dead == some .hung)

/-- The records of a DETECT enter the queues that their coarse windows touch; stale ones are discarded and counted, once each
(R28, R217, R219, R457). -/
def State.takeRecords (s : State) (r : Request) (first : Nat) (l : List NibRec) : State :=
  let old := (l.filter s.stale).length
  let s := if old = 0 then s else s.count 0x2505 true old
  let a : Arrived := { req := r, first, fin := s.nib.recs, stale := old }
  let s := { s with nib := { s.nib with takenAt := s.clk, taken := s.takenNow ++ [a] } }
  (l.filter fun x => !s.stale x).foldl (fun s x => s.handOn x (s.touched x)) s

/-- DETECT: the link engine takes the packet, while the LINK job is not being recalled (R28, R217, R219, R421). -/
def execDetect (dt : Nat) (r : Request) (s : State) : Result :=
  let s := s.elapse dt
  let i : OpInfo := { opc := 0x20, urgent := false, bcast := true, fault := false, minLen := 3, maxLen := 255,
                      lenOk := fun n => n % 3 == 0 }
  .next (if !s.takesRecords || s.frozen 4 then s
    else if 32 < r.src.toNat then s.count 0x45 true 1
    else
      match firstRej [i.check2 r, i.check3 r] with
      | some (st, d) => s.reply 0x20 r st 0 d []
      | none =>
        let first := s.nib.recs
        let (l, s) := s.number (recordsOf r.src r.port r.words)
        let s := s.markPacket r first s.nib.recs
        if s.dev.code == .sorting then s.takeRecords r first l else s.detectDropped r l.length)

/-- NIB_RECORD_SOLVE: a Nib engine finishes the next record of its queue (R219-R230), in a later tick than it was taken in. -/
def execNibRecordSolve (dt : Nat) (b : Bank) (ecc : Ecc) (s : State) : Result :=
  let s := s.elapse dt
  .next (match s.nib.queue b with
    | [] => s
    | r :: rest =>
      if !s.nibRuns || s.isNew r then s else
      let (go, s) := s.engineRead (nibEngine b) ecc fun s => s.enterFault 0
      if !go then s else
      let s := ({ s with nib := s.nib.setQueue b rest } : State).refill b
      ((s.solveRecord b r).mark (nibEngine b)).drainCheck)

/-- EVENT_ARMING: the head event of a bank at its arming point (R235, R236, R240, R205). -/
def execEventArming (dt : Nat) (b : Bank) (ecc : Ecc) (s : State) : Result :=
  let s := s.elapse dt
  .next (match s.bankOrder b with
    | [] => s
    | e :: _ =>
      if !s.nibRuns || !s.due e then s else
      let (go, s) := s.engineRead (nibEngine b) ecc fun s => s.enterFault 0
      if !go then s else ((s.armHead b e).mark (nibEngine b)).drainCheck)

/-- An EJECT_DIRECT event is inserted; under IMMEDIATE it stands at its arming point and is checked at once, when it is the
head of its bank's order: one that R232 has moved past an armed pulse, or that stands behind another event, is checked in
its turn (R235, R240, R242). While the Nib engines are recalled no entry is written (R425, R426). -/
def State.insertDirect (s : State) (e : Event) (immediate : Bool) : State :=
  if s.frozen 0 then s else
  let s := s.insertEvent e
  match s.event? e.id with
  | some x =>
    if immediate && x.st == .pending && !s.holdsArms && s.due x
        && ((s.bankOrder (bankOf e.valve)).head?.map (·.id)) == some x.id then (s.checkEvent x).2
    else s
  | none => s

/-- EJECT_DIRECT (R241, R242). The CAM of an IMMEDIATE event, whose AT is ignored, is its coil-on instant (DESIGN CHOICE, log
entry 76). -/
def execEjectDirect (dt : Nat) (r : Request) (s : State) : Result :=
  let s := s.elapse dt
  let i : OpInfo := { opc := 0x21, urgent := false, bcast := false, fault := false, minLen := 2, maxLen := 2 }
  let w := arg r 1
  let v : Valve := Fin.ofNat 64 (fld w 5 0)
  let b := bankOf v
  let length := fld w 47 32
  let immediate := bit w 12
  let at_ := if immediate then s.full + s.tCommit else s.resolve (arg r 0)
  let c5 := rejIf (!s.inState [.idle, .sorting] || !s.vlv.banks[b].en) s.badState
  let c6 := firstRej [rejIf (!immediate && decide (30000000 < at_ - s.full)) (badParam 0 0),
    rejIf (!immediate && decide (at_ - s.full < s.tCommit + 100)) (some (.tooLate, 0)),
    rejIf (decide (7 < fld w 19 16)) (badParam 1 16),
    rejIf (decide (length < 200) || decide (50000 < length)) (badParam 1 32)]
  let c7 := firstRej [rejIf (s.hnd.ej.free 0x3F00 = 0) (some (.noHandle, 0)),
    rejIf (immediate && decide (s.available b < s.energyOf v)) (some (.energy, 0))]
  .next (s.serve i r none c5 c6 c7 fun s =>
    match s.takeEj r.src with
    | none => s.reply 0x21 r .noHandle 0 0 []
    | some (h, s) =>
      let off := at_ + (length * 100 : Nat)
      let e : Event :=
        { id := h, valve := v, st := .pending, cOn := at_, cOff := off, cOff0 := off, delta := 0, cam := at_, seq := 0,
          cls := fld w 11 8, energy := s.energyOf v, shape := Fin.ofNat 8 (fld w 19 16), direct := true,
          fireAny := false, noStag := false, late := false, moved := false, carrier := none, ins := 0, waitAt := none,
          src := r.src, begun := false, wasArmed := false, final := none }
      ((s.reply 0x21 r .accepted h.toNat 0 []).insertDirect e immediate).drainCheck)

/-- BANK_ENABLE (R40, R243). -/
def execBankEnable (dt : Nat) (r : Request) (s : State) : Result :=
  let s := s.elapse dt
  let i : OpInfo := { opc := 0x22, urgent := false, bcast := true, fault := false, minLen := 1, maxLen := 1 }
  let m := fld (arg r 0) 3 0
  .next (s.serve i r none (rejIf (!s.inState [.idle, .sorting]) s.badState) none none fun s =>
    let before := s.bankEn
    let banks := s.vlv.banks.mapFinIdx fun i b _ => if m.testBit i && b.ready then { b with en := true } else b
    let s := { s with vlv := { s.vlv with banks } }
    let s := if s.bankEn = before then s else s.stateRec s.dev.code 0
    if s.bankEn &&& m = m then s.ok 0x22 r else s.reply 0x22 r .partialDone 0 s.bankEn [])

/-- BANK_DISABLE (R244). -/
def execBankDisable (dt : Nat) (r : Request) (s : State) : Result :=
  let s := s.elapse dt
  let i : OpInfo := { opc := 0x23, urgent := true, bcast := true, fault := true, minLen := 1, maxLen := 1 }
  let m := fld (arg r 0) 3 0
  .next (s.serve i r none none none none fun s =>
    ((s.disableBanks m (if bit (arg r 0) 8 then m else 0) true).drainCheck).ok 0x23 r)

/-! ### Sort jobs -/

/-- A job is opened: SORTING, and the bypass gate moves to the opposite of ABORT_STATE (R245, R317, R434, R435). -/
def State.openJob (s : State) (job cause : Nat) : State :=
  let s := { s with
    dev := { s.dev with job }
    dog := { s.dog with aborted := false, auto := none, restartAt := none } }
  (s.enter .sorting cause).moveGate (s.pf 0x2011 4 4 ≠ 1)

/-- Checks 5 and 6 of a SORT_START (R245). -/
def State.startReject (s : State) (r : Request) : Reject :=
  firstRej [rejIf (s.dev.code != .idle) s.badState, rejIf (fld (arg r 0) 15 0 = 0) (badParam 0 0)]

/-- SORT_START; the master holds it until a CHAIN enumeration has completed OK (R98, R245). ENUM_TIMEOUT of a held one runs
from its arrival (DESIGN CHOICE, log entry 43). -/
def execSortStart (dt : Nat) (r : Request) (s : State) : Result :=
  let s := s.elapse dt
  let i : OpInfo := { opc := 0x24, urgent := false, bcast := true, fault := false, minLen := 1, maxLen := 1 }
  .next (s.serve i r none (s.startReject r) none none fun s =>
    if s.dev.master && !s.dev.chainOk then { s with dev := { s.dev with heldStarts := s.dev.heldStarts ++ [(r, s.clk)] } }
    else (s.openJob (fld (arg r 0) 15 0) 0).ok 0x24 r)

/-- SORT_START_HOLD_END: the held SORT_STARTs are carried out in their order (R98, R245). -/
def execSortStartHoldEnd (dt : Nat) (s : State) : Result :=
  let s := s.elapse dt
  .next (if !s.dev.chainOk || !s.answers then s else
    let held := s.dev.heldStarts
    held.foldl (fun s h =>
      match s.startReject h.1 with
      | some (st, d) => s.reply 0x24 h.1 st 0 d []
      | none => (s.openJob (fld (arg h.1 0) 15 0) 0).ok 0x24 h.1) { s with dev := { s.dev with heldStarts := [] } })

/-- The cancellation of SORT_STOP with CANCEL_PENDING (R246). -/
def State.cancelPending (s : State) (records : Bool) : State :=
  let s := if records then
      let (n, s) := s.dropRecords
      s.count 0x204 false n
    else s
  s.cancelUnarmed fun _ => true

/-- SORT_STOP (R246, R434). -/
def execSortStop (dt : Nat) (r : Request) (s : State) : Result :=
  let s := s.elapse dt
  let i : OpInfo := { opc := 0x25, urgent := true, bcast := true, fault := true, minLen := 1, maxLen := 1 }
  let cancel := bit (arg r 0) 0
  .next (s.serve i r none none none none fun s =>
    let s := { s with dog := { s.dog with restartAt := none, auto := some false } }
    let s := match s.dev.code with
      | .sorting =>
        let s := s.drain 0
        (if cancel then s.cancelPending true else s).drainCheck
      | .draining => (if cancel then s.cancelPending false else s).drainCheck
      | _ => s
    s.ok 0x25 r)

/-! ### EVENT_QUERY (R249) -/

/-- HSTATE of a handle in use. -/
def HState.num : HState → Nat
  | .accepted => 1
  | .armed => 2
  | .retiring => 3

/-- The instants of an event that EVENT_QUERY shows: actual if fired, computed otherwise. -/
def State.queryInstants (s : State) (e : Event) : Int × Int :=
  if e.st == .retiring then (e.cOn, e.cOff)
  else
    match e.carrier.bind s.event? with
    | some c => if c.begun then (c.cOn, c.cOff) else (e.cOn - e.delta, e.cOff0)
    | none => if e.begun then (e.cOn, e.cOff) else (e.cOn - e.delta, e.cOff0)

/-- Words 1 to 4 for a handle in use. An ejection handle without an entry shows CLASS, SEQ and VALVE 0, as its completion does
(R426), and instants that stand nowhere, which are free. For a handle of the reserved pool the spec gives no event: those
fields are free values (log entry 14). -/
def State.queryLive (s : State) (l : Live) : List Word × State :=
  let status := (l.final.map Status.num).getD 0
  match s.event? l.id with
  | some e =>
    let (a, b) := s.queryInstants e
    ([fields [(47, 46, l.st.num), (44, 44, b2n e.carrier.isSome), (43, 40, e.cls), (39, 32, status),
        (31, 16, (e.carrier.getD l.id).toNat), (13, 8, e.valve.val), (7, 0, e.seq)],
      word (unsign 48 a), word (unsign 48 b), word (unsign 48 e.cam)], s)
  | none =>
    let (x, s) := if isEj l.id then ((0 : Word), s) else s.freeWord
    let (a, s) := s.freeWord
    let (b, s) := s.freeWord
    let (c, s) := s.freeWord
    ([fields [(47, 46, l.st.num), (44, 44, fld x 44 44), (43, 40, fld x 43 40), (39, 32, status), (31, 16, l.id.toNat),
        (13, 8, fld x 13 8), (7, 0, fld x 7 0)], a, b, c], s)

/-- Words 1 to 4 from an EJECT record. -/
def queryLogged (r : Rec) : List Word :=
  [fields [(45, 45, 1), (44, 44, rfld r 17 17), (43, 40, rfld r 21 18), (39, 32, rfld r 43 36), (31, 16, rfld r 59 44),
    (13, 8, rfld r 27 22), (7, 0, rfld r 35 28)], word (rfld r 123 76), 0, 0]

/-- EVENT_QUERY (R249). -/
def execEventQuery (dt : Nat) (r : Request) (s : State) : Result :=
  let s := s.elapse dt
  let i : OpInfo := { opc := 0x26, urgent := false, bcast := false, fault := true, minLen := 1, maxLen := 1 }
  let id := fld (arg r 0) 15 0
  .next (s.serve i r none none none none fun s =>
    match s.live? (BitVec.ofNat 16 id) with
    | some l =>
      let (ws, s) := s.queryLive l
      s.reply 0x26 r .ok 0 0 ws
    | none =>
      match s.log.staging.reverse.find? fun (x : Word × Rec) => rfld x.2 127 124 = 1 && rfld x.2 75 60 = id with
      | some (_, x) => s.reply 0x26 r .ok 0 0 (queryLogged x)
      | none => s.reply 0x26 r .noSuchHandle 0 id [])

end Sys2Proof.Machine
end

