-- ==== Sys2Proof/Machine/Params.lean ====
section
/-! DEFINITION. Parameter commands, completions and summaries (R124-R129, R136-R139, R144, R210). -/

namespace Sys2Proof.Machine

/-- PARAM_GET: every value in the same tick (R136). -/
def execParamGet (dt : Nat) (r : Request) (s : State) : Result :=
  let s := s.elapse dt
  let i : OpInfo := { opc := 0x06, urgent := false, bcast := false, fault := true, minLen := 1, maxLen := 32 }
  let bad := firstRej (r.words.zipIdx.map fun (w, k) =>
    if (paramFields (fld w 15 0)).isNone then badParam k 0
    else rejIf (bit w 16 && !staged (fld w 15 0)) (badParam k 16))
  .next (s.serve i r none none bad none fun s =>
    s.reply 0x06 r .ok 0 0 (r.words.map fun w => s.paramRead (bit w 16) (fld w 15 0)))

/-- PARAM_SET (R137-R139). -/
def execParamSet (dt : Nat) (r : Request) (s : State) : Result := .next ((s.elapse dt).paramSet r)

/-- STORE_ERASE: a PARAM_SET of 0046h (R144). -/
def execStoreErase (dt : Nat) (r : Request) (s : State) : Result := .next ((s.elapse dt).paramSet r)

/-- CHAIN_MARK: a PARAM_SET of CHAIN_MARK, CHAIN_ERA and LEAP from the master (R210). -/
def execChainMark (dt : Nat) (r : Request) (s : State) : Result := .next ((s.elapse dt).paramSet r)

/-- PARAM_STORE_WRITE_DONE: the oldest request that waits for the flash writes its pairs and replies, or is answered
STORE_FAIL with nothing changed (R112, R139). One whose INHIBIT ramp finds no handle writes neither the store nor the
working copy (R463, log entry 65). -/
def execParamStoreWriteDone (dt : Nat) (ok : Bool) (s : State) : Result :=
  let s := s.elapse dt
  .next (match s.par.ops with
    | [] => s
    | o :: rest =>
      let s := { s with par := { s.par with ops := rest } }
      if !s.answers then s
      else if ok then
        let l := settings o.req.words
        let none_ := (l.any fun x => s.pairRamps x) && s.needHandle.isSome
        let s := s.paramWrite o.req l
        if none_ then s else l.foldl (fun s x => s.pairStore x) s
      else s.reply 0x07 o.req .storeFail 0 0 [])

/-- No packet waits in the port before a completion: neither a bulk packet, nor the urgent reply that gave its handle
(R78, R123). -/
def Port.idleFor (q : Port) (t : TxPacket) : Bool :=
  q.bulk.stored.isEmpty && q.urgent.stored.all fun x => x.holds != 0 || hDst x.header != hDst t.header

/-- COMPLETION_SENT: the oldest completion leaves on the port towards its DST, or on no port when that is this device
(R124, R125); its handle becomes free. -/
def execCompletionSent (dt : Nat) (route : Route) (s : State) : Result :=
  let s := s.elapse dt
  .next (match s.hnd.queue with
    | [] => s
    | c :: rest =>
      let gone (s : State) : State :=
        let s := { s with hnd := { s.hnd with queue := rest } }
        match c.handle with
        | some h => (s.release h).drainCheck
        | none => s
      match s.ownWay c.dst.toNat, route with
      | none, .own => if s.answers then gone s else s
      | some p, .port q =>
        let t : TxPacket := { header := mkHeader c.dst s.dev.addr 0x0F c.tag c.words.length false false false
                              words := c.words, isCompl := true }
        if p == q && s.linkRuns && (s.port p).idleFor t && (s.port p).maySend false t then gone (s.sendOut p false t)
        else s
      | _, _ => s)

/-- SUMMARY_INTERVAL: the interval ends with its record, which is left out when it is empty outside SORTING and DRAINING
(R127, R129). -/
def execSummaryInterval (dt : Nat) (s : State) : Result :=
  let s := s.elapse dt
  .next (if s.mode = 2 && s.answers && s.hnd.sumFrom + s.pf 0x40 17 8 * 100000 ≤ s.clk then
    if s.inState [.sorting, .draining] || s.hnd.sumAny then s.closeSummary
    else { s with hnd := { s.hnd with sumFrom := s.clk } }
  else s)

end Sys2Proof.Machine
end

