-- ==== Sys2Proof/Machine/Sheepdog.lean ====
section
/-! DEFINITION. Hang detection, relay packets, the recall record and the Sheepdog's commands (R414-R424, R428-R443). -/

namespace Sys2Proof.Machine

/-- LEASH_EXPIRY: a busy engine made no progress mark for its Leash (R416, R417). Of the marks of the engines 4, 7 and 8 only
some come with a command (log entry 57). -/
def execLeashExpiry (dt : Nat) (e : Fin 9) (s : State) : Result :=
  let s := s.elapse dt
  let e : Fin 10 := ⟨e.val, by omega⟩
  let x := s.dog.engines[e]
  let l := if x.leash = 0 then s.leashOf e else x.leash
  .next (if s.watching && s.busy e l && x.markAt + l ≤ s.time.core then s.hang e 0 none none 0 else s)

/-- PROCESSOR_LEASH_EXPIRY: the command processor counts as hung, and the HEARTBEATs stop (R415, R417). Of the passes of its
main loop only those that take a request come with a command; its Leash runs from the last of them, or from the end of step
1c (R416, log entry 57). -/
def execProcessorLeashExpiry (dt : Nat) (s : State) : Result :=
  let s := s.elapse dt
  let x := s.dog.engines[(9 : Fin 10)]
  let l := if x.leash = 0 then s.leashOf 9 else x.leash
  .next (if s.watching && s.dev.dead.isNone && decide (x.markAt + l ≤ s.time.core) then
    ({ s with dev := { s.dev with dead := some .hung, hung := true } } : State).count 0x2411 true 1
  else s)

/-- SYNC_TO of an engine in ticks, as it stood at a core tick (R418, R445): a wait's timer keeps the value of its start. -/
def State.syncTo (s : State) (e : Fin 10) (at_ : Nat) : Nat :=
  ((s.dog.engines[e].syncWas.filter fun x => decide (at_ < x.1)).getLast?.map (·.2)).getD (s.pf (0x2400 + e.val) 16 0) * 100

/-- An engine waits on an object, which another holds or none (R418). -/
def State.waitsOn (s : State) (e : Fin 10) (holder : Option (Fin 10)) (object : BitVec 13) : State :=
  let s := s.modEngine e fun x => { x with wait := some object }
  { s with dog := { s.dog with objects := (s.dog.objects.filter fun o => o.1 != object) ++ [(object, holder)] } }

/-- SYNC_TIMEOUT: a wait of `waited` core ticks on an object has reached SYNC_TO; the waiter's job is recalled, and that of a
holder in another job (R418). -/
def execSyncTimeout (dt : Nat) (waiter : Fin 9) (holder : Option (Fin 10)) (object : BitVec 13) (waited : Nat) (s : State) :
    Result :=
  let s := s.elapse dt
  let w : Fin 10 := ⟨waiter.val, by omega⟩
  .next (match jobOf w with
    | none => s
    | some j =>
      if !s.watching || s.frozen j || decide (waited < s.syncTo w (s.time.core - waited)) then s else
      let s := (s.waitsOn w holder object).hang w 1 (some w) holder object
      match holder with
      | some h => if jobOf h = some j then s else s.recall h 2 (some w) holder object
      | none => s)

/-- ABORT_RELAY: the link engine acts on a relay packet for its own device (R428, R430, R431). -/
def execAbortRelay (dt : Nat) (_side : Side) (p : Packet) (s : State) : Result :=
  let s := s.elapse dt
  let w := p.words.headD 0
  .next (if !s.linkRuns || !isRelay p then s
    else if s.sortJob ≠ 0 && s.sortJob = fld w 15 0 then (s.abortJob (fld w 19 18)).2.drainCheck
    else s.count 0x2413 true 1)

/-! ### The recall record (R436, R437) -/

/-- A list of words brought to a length: words that are missing read as zero. -/
def padWords (w : List Word) (n : Nat) : List Word := w.take n ++ List.replicate (n - w.length) 0

/-- Head and tail of a queue of `n` entries, counted from the head that the collector read (R437). -/
def queueWord (w : Word) (n : Nat) : Word := fields [(47, 24, fld w 47 24), (23, 0, fld w 47 24 + n)]

/-- The four queues of a Nib engine, and the record that it solves, its next arming point and its tokens (R437). -/
def State.nibWords (s : State) (b : Bank) (w : Nat → Word) : List (Nat × Word) :=
  let here (v : Valve) : Bool := bankOf v == b
  let arms := s.d2d.wait.filter fun x => match x.msg with
    | .arm f => here f.valve
    | _ => false
  let held := s.dog.heldReports.filter fun m => match reportValve m.2 with
    | some v => here v
    | none => false
  let order := s.bankOrder b
  let ends (l : List Event) : Word := match l.head?, l.getLast? with
    | some x, some y => fields [(47, 24, hIndex x.id), (23, 0, hIndex y.id)]
    | _, _ => queueWord (w 5) 0
  let next := match order with
    | x :: _ => [(11, word (unsign 48 (x.cOn - s.tCommit)))]
    | [] => []
  let solved := match s.nib.queue b with
    | x :: _ => [(8, x.w0), (9, x.w1), (10, x.w2)]
    | [] => []
  [(4, queueWord (w 4) (s.nib.queue b).length), (5, ends order), (6, queueWord (w 6) arms.length),
    (7, queueWord (w 7) held.length), (12, fields [(47, 24, (s.available b).toNat), (23, 0, s.tokens b false)])]
    ++ solved ++ next

/-- The words of an engine's block that follow from the state, or that R437 fixes at zero, by their places; `l`: what the
collector read. -/
def State.blockWords (s : State) (e : Fin 10) (l : List Word) : List (Nat × Word) :=
  let w (i : Nat) : Word := l.getD i 0
  let zeros (l : List Nat) : List (Nat × Word) := l.map fun i => (i, 0)
  match e with
  | 4 =>
    let h := match s.gnss.running with
      | some (a, _) => a.handle.toNat
      | none => 0
    [(4, queueWord (w 4) s.gnss.queued.length), (5, queueWord (w 5) s.gnss.reacqs.length), (8, fields [(15, 0, h)])]
      ++ zeros [6, 7, 10, 11, 12, 13, 14, 15]
  | 5 =>
    let n := (s.gnss.chans.toList.filter fun p => p.waiting.isSome).length
    [(4, queueWord (w 4) s.gnss.ring.length), (5, queueWord (w 5) n)] ++ zeros [6, 7, 9, 10, 11, 12, 13, 14, 15]
  | 6 =>
    let first := if s.log.burst = 0 then 0 else (s.log.staging.head?.map (·.1)).getD 0
    [(4, queueWord (w 4) s.log.staging.length), (5, fields [(47, 24, s.log.head.toNat), (23, 0, s.log.tail.toNat)]),
      (8, first), (9, fields [(7, 0, s.log.burst)])] ++ zeros [7, 11, 12, 13, 14, 15]
  | 7 =>
    [(4, fields [(47, 24, fld (w 4) 23 0 + s.bus.ring.length), (23, 0, fld (w 4) 23 0)]),
      (5, queueWord (w 5) s.bus.tx.length), (8, putFld (w 8) 47 45 s.bus.st.num)] ++ zeros [6, 7, 9, 10, 11, 12, 13, 14, 15]
  | 8 =>
    [(4, queueWord (w 4) s.up.bulk.buffered), (5, queueWord (w 5) s.up.urgent.buffered),
      (6, queueWord (w 6) s.down.bulk.buffered), (7, queueWord (w 7) s.down.urgent.buffered)] ++ zeros [10, 11, 12, 13, 14, 15]
  | 9 => []
  | _ => s.nibWords (Fin.ofNat 4 e.val) w ++ zeros [13, 14, 15]

/-- ACTIVITY and WAIT_OBJECT of an engine: an engine that waits on an object, and one that is not busy, as the state has them;
of any other, what the collector read (R437). -/
def State.activity (s : State) (e : Fin 10) (w : Word) : Nat × Nat :=
  match s.dog.engines[e].wait with
  | some o => (2, o.toNat)
  | none =>
    if !s.busy e 0 then (0, 0)
    else (fld w 43 40, if fld w 43 40 = 2 then fld w 39 27 else 0)

/-- An engine's block: what the state holds stands over what the collector read. The marks of the engines 4, 7 and 8 are
counted by the collector alone (log entry 57). -/
def State.block (s : State) (e : Fin 10) (w : List Word) : List Word :=
  let x := s.dog.engines[e]
  let w := (s.blockWords e w).foldl (fun l x => l.set x.1 x.2) (padWords w 16)
  let w0 := w.getD 0 0
  let m := if e = 4 || e = 7 || e = 8 then fld w0 23 0 else x.marks.toNat
  let w := w.set 0 (fields [(47, 44, e.val), (43, 40, (s.activity e w0).1), (39, 27, (s.activity e w0).2), (23, 0, m)])
  let w := w.set 2 x.busySince
  if e = 4 || e = 7 || e = 8 then w else w.set 1 x.lastMark

/-- The two words of each object, with the holders that the state knows (R418, R437). -/
def State.objectWords (s : State) : List Word → List Word
  | a :: b :: r =>
    let h := match s.dog.objects.find? fun o => o.1 == BitVec.ofNat 13 (fld a 47 35) with
      | some o => (o.2.map (·.val)).getD 15
      | none => fld b 15 12
    a :: putFld (putFld b 15 12 h) 11 0 0 :: s.objectWords r
  | l => l

/-- The blocks of a job's engines: `n` engines from `e` on. -/
def State.quickBlocks (s : State) : Nat → Nat → List Word → List Word
  | 0, _, _ => []
  | n + 1, e, w => s.block (Fin.ofNat 10 e) (w.take 16) ++ s.quickBlocks n (e + 1) (w.drop 16)

/-- Words of a FULL section: six bytes each of the lines that the engine's scratchpad has (R17, R438); of the link engine the
spec gives no size in bytes, and the section has what the collector read (log entry 38). -/
def fullWords (e : Fin 10) (read : Nat) : Nat :=
  match e with
  | 5 => 0
  | 6 => 171
  | 7 => 43
  | 8 => min read 683
  | _ => 683

/-- The FULL section: a byte stream of whole lines, whose last record word is padded with zero. The 64, 16 and 4 lines that a
scratchpad gives leave four bytes in it (R438). -/
def fullSection (w : List Word) (n : Nat) : List Word :=
  let l := padWords w n
  if n = 683 ∨ n = 171 ∨ n = 43 then l.set (n - 1) (putFld (l.getD (n - 1) 0) 15 0 0) else l

/-- The eight header words of a record (R436). -/
def State.recallHeader (s : State) (r : Recall) (frozen : Nat) (q f : Nat) (objects : BitVec 8) : List Word :=
  let eng (x : Option (Fin 10)) : Nat := (x.map (·.val)).getD 15
  [fields [(47, 40, 1), (39, 29, 8 + q + f), (28, 26, r.job.val), (25, 22, r.engine.val), (21, 18, r.cause),
     (17, 17, b2n (decide (0 < f))), (15, 0, r.sortJob)],
   r.detect,
   fields [(47, 32, r.era.toNat), (31, 16, (r.handle.map (·.toNat)).getD 0), (15, 0, r.seq.toNat)],
   r.detect + word frozen, s.nowWord,
   fields [(47, 36, q), (35, 24, f), (23, 16, objects.toNat)],
   fields [(47, 44, eng r.waiter), (43, 40, eng r.holder), (39, 27, r.object.toNat)], 0]

/-- RECALL_COLLECT_DONE: the record is in its slot, the job is reset, and the next collection begins (R421-R423, R436-R438).
`quick` and `full` are what the collector read: blocks and after them two words for each object. -/
def execRecallCollectDone (dt : Nat) (quick full : List Word) (objects : BitVec 8) (s : State) : Result :=
  let s := s.elapse dt
  .next (match s.dog.recalls.find? fun r => !r.collected && r.slot.isSome with
    | none => s
    | some r =>
      if !s.clockRuns then s else
      let (e, n) := jobEngines r.job
      let k := min objects.toNat ((341 - 16 * n) / 2)
      let q := s.quickBlocks n e.val quick ++ s.objectWords (padWords (quick.drop (16 * n)) (2 * k))
      let f := if r.collect = some true then fullSection full (fullWords r.engine full.length) else []
      let frozen := (Config.freezeTicks s.freeCtr).val
      let s := { s with freeCtr := s.freeCtr + 1 }
      let words := s.recallHeader r frozen q.length f.length (BitVec.ofNat 8 k) ++ q ++ f
      let rs := mapIf (fun (x : Recall) => x.job == r.job) (fun x => { x with collected := true }) s.dog.recalls
      let slots := s.dog.slots.set (Fin.ofNat 8 (r.slot.getD 0)) { st := .full, words }
      ((({ s with dog := { s.dog with slots, recalls := rs } } : State).resetJob r.job)).collectNext 5)

/-- FAULTN_RECALL_END: FAULT_N was held for a recall for at least 1 ms, and none is left (R444). -/
def execFaultnRecallEnd (dt : Nat) (s : State) : Result :=
  let s := s.elapse dt
  .next (match s.power.faultNRecall with
    | some t =>
      if s.dog.recalls.isEmpty && t + 100000 ≤ s.clk then { s with power := { s.power with faultNRecall := none } } else s
    | none => s)

/-! ### Commands -/

/-- RECALL_CONFIG (R439). -/
def execRecallConfig (dt : Nat) (r : Request) (s : State) : Result :=
  let s := s.elapse dt
  let i : OpInfo := { opc := 0x90, urgent := false, bcast := true, fault := false, minLen := 1, maxLen := 1 }
  let fs := (paramFields 0x2410).getD []
  let bad := match badField fs (arg r 0) with
    | some b => badParam 0 b
    | none => none
  .next (s.serve i r none (rejIf (!s.working) s.badState) bad none fun s =>
    (s.setWork 0x2410 (mergeWrite fs (s.work 0x2410) (arg r 0))).ok 0x90 r)

/-- SLOT_STATE (R440). -/
def SlotState.num : SlotState → Nat
  | .free => 0
  | .collecting => 1
  | .full => 2
  | .damaged => 3

/-- RECALL_READ: words with two bits in error read as zero and damage the slot (R16, R440). -/
def execRecallRead (dt : Nat) (r : Request) (unreadable : List Nat) (s : State) : Result :=
  let s := s.elapse dt
  let i : OpInfo := { opc := 0x91, urgent := false, bcast := false, fault := true, minLen := 1, maxLen := 1 }
  let w := arg r 0
  let k : Fin 8 := Fin.ofNat 8 (fld w 2 0)
  let off := fld w 18 8
  let n := fld w 31 24
  let slot := s.dog.slots[k]
  let c6 := firstRej [rejIf (decide (1364 < off)) (badParam 0 8), rejIf (n = 0 || decide (253 < n)) (badParam 0 24)]
  .next (s.serve i r none (rejIf (slot.st == .collecting) (some (.busy, 0))) c6 none fun s =>
    let full := slot.st == .full || slot.st == .damaged
    let got := if full then (slot.words.drop off).take n else []
    let bad := (List.range got.length).filter fun j => unreadable.contains (off + j)
    let out := got.zipIdx.map fun (x, j) => if bad.contains j then 0 else x
    let s := bad.foldl (fun s _ => s.uncorrected) s
    let st : SlotState := if bad.isEmpty then slot.st else .damaged
    let slot' : Slot := if full && bit w 40 then {} else { slot with st }
    let s := { s with dog := { s.dog with slots := s.dog.slots.set k slot' } }
    let len := if full then slot.words.length else 0
    let part := decide (got.length < n)
    s.reply 0x91 r (if part then .partialDone else .ok) 0 (if part then got.length else 0)
      (fields [(47, 46, st.num), (45, 35, len)] :: out))

/-- ENGINE_RESET (R441). -/
def execEngineReset (dt : Nat) (r : Request) (s : State) : Result :=
  let s := s.elapse dt
  let i : OpInfo := { opc := 0x92, urgent := true, bcast := false, fault := true, minLen := 1, maxLen := 1 }
  let j := fld (arg r 0) 2 0
  let c := fld (arg r 0) 9 8
  let job : Fin 5 := Fin.ofNat 5 j
  let c6 := firstRej [rejIf (decide (4 < j)) (badParam 0 0), rejIf (c = 3) (badParam 0 8)]
  .next (s.serve i r none (rejIf (decide (j ≤ 4) && s.frozen job) (some (.busy, 0))) c6 s.needHandle fun s =>
    s.accept 0x92 r .armed fun h s =>
      s.startRecall job (jobEngines job).1 4 (if c = 0 then none else some (c == 2)) none none 0 (some h) r.src)

/-- ABORT_JOB from a host or another device, not a relay packet (R428, R430, R442). With RELAY 1, which is reserved there, the
checks of R442 for requests with RELAY 0 do not apply. -/
def execAbortJob (dt : Nat) (r : Request) (s : State) : Result :=
  let s := s.elapse dt
  let i : OpInfo := { opc := 0x93, urgent := true, bcast := false, fault := false, minLen := 1, maxLen := 1 }
  let w := arg r 0
  let job := fld w 15 0
  let scope := fld w 17 16
  let restart := fld w 19 18
  let relay := bit w 20
  let c6 := firstRej [rejIf (!relay && job ≠ s.dev.job) (badParam 0 0), rejIf (decide (1 < scope)) (badParam 0 16),
    rejIf (restart = 3) (badParam 0 18), rejIf relay (badParam 0 20), rejIf (decide (2 < fld w 23 21)) (badParam 0 21)]
  .next (s.serve i r (rejIf (!relay && scope = 1 && !s.dev.master) (some (.notMaster, 1)))
    (rejIf (!relay && !s.inState [.sorting, .draining]) s.badState) c6 s.needHandle fun s =>
    s.accept 0x93 r .armed fun h s =>
      let at_ := s.nowWord
      let (n, s) := s.abortJob restart
      let run : AbortRun := { handle := h, dst := r.src, job, count := n, atInst := at_ }
      let s := { s with dog := { s.dog with aborts := s.dog.aborts ++ [run] } }
      let s := if scope = 1 then s.relay job 0 restart false s.chainLength else s
      s.drainCheck)

end Sys2Proof.Machine
end

