-- ==== Sys2Proof/Machine/Resume.lean ====
section
/-! DEFINITION. What each job does when its engines resume after a recall (R405, R421, R425-R427, R443), and the automatic
restart of a sort job (R434). -/

namespace Sys2Proof.Machine

/-- The recall of a job that has been collected and reset is over. -/
def State.endRecall (s : State) (j : Fin 5) : State :=
  { s with dog := { s.dog with recalls := s.dog.recalls.filter fun (r : Recall) => r.job != j } }

/-- With no sort job open, the unarmed events move by the steps of the recall, and those whose arming point has passed are
late (R426). -/
def State.catchUp (s : State) (d : Int) : State :=
  let move (e : Event) : Event := if e.st == .retiring || s.isArmed e then e else e.shiftAll d
  let s' := { s with nib := { s.nib with events := s.nib.events.map move } }
  let due := sortBy Event.before (s'.nib.events.filter fun e => e.st == .pending && decide (e.cOn - s'.tCommit < s'.full))
  due.foldl (fun s x =>
    match s.event? x.id with
    | some e => if e.st == .pending then s.lateRule e else s
    | none => s) s'

/-- The SORT job resumes: the Inkwell scan, then the REPORTs held by the Quills (R425-R427). -/
def State.resumeSort (s : State) (r : Recall) : State :=
  let s := s.endOrphans .aborted
  let s := if r.aborted then s else s.catchUp r.stepped
  let held := s.dog.heldReports
  let s := { s with dog := { s.dog with heldReports := [], restartAt := s.dog.restartAt.map fun _ => s.clk } }
  held.foldl (fun s m => s.sendD2d (linkOf m.1) m.2) s

/-- The GNSS job resumes: a running ACQUIRE completes ABORTED, a running reacquisition search starts again, and the Retriever
takes up its next work (R425). -/
def State.resumeGnss (s : State) : State :=
  let s := { s with gnss := { s.gnss with reacqFrom := s.lastSample } }
  match s.gnss.running with
  | some (a, _) => (s.dropAcquire a.handle .aborted).retrNext false
  | none => s.retrNext false

/-- The LOG job resumes: a live LOG_READ completes ABORTED with no records, and the burst's records are still in staging
(R405, R410, R425). Word 3 has no record to name and is free (log entry 14). -/
def State.resumeLog (s : State) : State :=
  let s := { s with log := { s.log with burst := 0 } }
  match s.log.read with
  | none => s
  | some (h, _, _, _) =>
    let (x, s) := s.freeWord
    ({ s with log := { s.log with read := none, passed := 0 } } : State).complete h .aborted (b2n (!s.log.xspiOk) * 256) 0
      [x, s.log.head]

/-- The BUS job resumes: error counters cleared, INTEGRATING or LISTEN. Whether a frame was being received is not a matter of
the model's state: a free bit (log entry 14). -/
def State.resumeBus (s : State) : State :=
  if s.bus.st == .off then s
  else
    let (x, s) := s.freeWord
    let s := if bit x 0 then (s.count 0x2108 true 1).count 0x2109 false 1 else s
    let st : BusSt := if s.bus.st == .stopping then .stopping else if fld s.bus.word 1 0 = 2 then .listen else .integrating
    { s with bus := { s.bus with tec := 0, rec_ := 0, st } }

/-- The loss of a port with the LINK job: a port that trains starts its training again. What the link transmit staging
holds stays (R18, R425). -/
def State.resumePort (s : State) (p : Side) : State :=
  match (s.port p).state with
  | .up => s.portLoss p true
  | .retraining _ => s.portLoss p true
  | .training _ => (s.modPort p fun q => { q with state := .training 1, trainAt := s.clk }).emit (.train p 1)
  | _ => s

/-- The LINK job resumes: both ports are lost at once, so that neither carries a BREAK of the other (R99, R425). -/
def State.resumeLink (s : State) : State :=
  let off (q : Port) : Port := if q.state == .up then { q with state := .retraining 1 } else q
  (({ s with up := off s.up, down := off s.down } : State).resumePort .up).resumePort .down

/-- What a job does on resuming (R425). -/
def State.resumeJob (s : State) (r : Recall) : State :=
  match r.job with
  | 0 => s.resumeSort r
  | 1 => s.resumeGnss
  | 2 => s.resumeLog
  | 3 => s.resumeBus
  | 4 => s.resumeLink

/-- The completion of a recall (R443). -/
def State.recallDone (s : State) (r : Recall) : State :=
  match r.handle with
  | none => s
  | some h =>
    let detail := r.engine.val + r.cause * 2 ^ 4 + r.job.val * 2 ^ 8 + b2n (decide (r.cause = 4)) * 2 ^ 11
      + r.slot.getD 0 * 2 ^ 12 + b2n r.slot.isNone * 2 ^ 15 + b2n (r.collect == some true) * 2 ^ 16
    s.complete h .ok detail r.sortJob [r.detect]

/-- The Leashes of a job's engines start afresh: `n` engines from `e` on (R421). -/
def State.wakeJob (s : State) : Nat → Nat → State
  | 0, _ => s
  | n + 1, e => (s.wake (Fin.ofNat 10 e) false).wakeJob n (e + 1)

/-- RECALL_RESUME: the engines of a job that has been collected and reset have resumed (R421, R425-R427, R443). -/
def execRecallResume (dt : Nat) (job : Fin 5) (s : State) : Result :=
  let s := s.elapse dt
  .next (match s.dog.recalls.find? fun (r : Recall) => r.job == job && r.collected with
    | none => s
    | some r =>
      if !s.clockRuns then s else
      let (e, n) := jobEngines job
      ((((s.endRecall job).wakeJob n e.val).resumeJob r).recallDone r).drainCheck)

/-- AUTO_RESTART: RESTART_DELAY after IDLE, or after the device's own recall (R434). The master's hold of R245 is for a
SORT_START command alone (R435). A device that is cut off waits for SORT_START instead (R103). -/
def execAutoRestart (dt : Nat) (s : State) : Result :=
  let s := s.elapse dt
  .next (match s.dog.restartAt with
    | none => s
    | some t =>
      if s.dev.cutOff then { s with dog := { s.dog with restartAt := none } }
      else if s.dev.code == .idle && s.answers && !s.frozen 0 && decide (t + s.pf 0x2410 47 38 * 100000 ≤ s.clk) then
        s.openJob s.dev.lastJob 4
      else s)

end Sys2Proof.Machine
end

