-- ==== Sys2Proof/Machine/Switch.lean ====
section
/-! DEFINITION. Load switches: SWITCH_SET and SWITCH_STATUS, protections, clamp events, the off-state check, the DIM
pins and the Kennel commands (chapter 9). -/

namespace Sys2Proof.Machine

/-- The mask of the channels that satisfy a condition. -/
def swMask (p : Sw → Bool) : Nat :=
  maskOf 16 fun i => p (Fin.ofNat 16 i)

/-- The channels of a mask. -/
def swsOf (m : Nat) : List Sw := (List.finRange 16).filter fun n => m.testBit n.val

/-- The channel waits in the sequence of an earlier SWITCH_SET (R306). -/
def State.inGap (s : State) (n : Sw) : Bool := s.sw.gaps.any fun g => g.1.contains n

/-- A named channel's latch is released, and its off-state check begins (R300, R304); a latch of this tick stands (R318). -/
def State.unlatch (s : State) (n : Sw) : State :=
  s.modSw n fun c => if c.st.latched && c.tripAt != some s.clk then { c with st := .off, checkAt := s.clk } else c

/-- The channels named on: at once with SWITCH_GAP 0 and those that waited already, else one after the other (R306). -/
def State.switchOn (s : State) (ons : List Sw) : State :=
  let off := ons.filter fun n => s.sw.ch[n].st == .off
  let wait := off.filter s.inGap
  let rest := if s.pf 0x2010 15 8 = 0 then [] else (off.filter fun n => !s.inGap n).drop 1
  let now := ons.filter fun n => !rest.contains n
  let s := s.gapDrop fun n => wait.contains n
  let s := now.foldl (fun s n => s.swOn n) s
  if rest.isEmpty then s else { s with sw := { s.sw with gaps := s.sw.gaps ++ [(rest, s.clk)] } }

/-- The reply of a SWITCH_SET that still waits in its port becomes PARTIAL and names the channel (R305, R318). -/
def State.amend (s : State) (n : Sw) (r : Request) : State :=
  let mine (t : TxPacket) : Bool := t.header == mkHeader r.src s.dev.addr 0x50 r.tag 1 true false r.urgent
  let w (t : TxPacket) : Word :=
    fields [(47, 40, Status.partialDone.num), (23, 0, fld (t.words.headD 0) 23 0 ||| 2 ^ n.val)]
  s.modPort r.port fun q => q.modLane r.urgent fun l => { l with
    stored := mapIf mine (fun t => { t with words := [w t] }) l.stored }

/-- The SWITCH_SETs with CLEAR of this tick that named a channel on. -/
def State.clearedOn (s : State) (n : Sw) : List Request :=
  (if s.sw.clearedAt = s.clk then s.sw.cleared else []).filter fun r => bit (arg r 0) (32 + n.val) && bit (arg r 0) (16 + n.val)

/-- A protection turns the channel off and counts in TRIPS (R296-R298); one that a SWITCH_SET with CLEAR of this tick named
on is latched again, and that reply is PARTIAL (R318). -/
def State.trip (s : State) (n : Sw) (st : SwState) : State :=
  let again := if st.latched then s.clearedOn n else []
  again.foldl (fun s r => s.amend n r)
    ((s.modSw n fun c => { c.cut s.clk st with tripAt := some s.clk }).count (0x2020 + n.val) true 1)

/-- A thermal turn-off: the channel cools, unless it is the eighth within 1 s, THERM_RETRY is 0, or a command of this tick
has turned the channel off, when it latches (R298, R318). -/
def State.thermalTrip (s : State) (n : Sw) : State :=
  let l := s.sw.ch[n].thermals.filter (fun t => decide (s.clk < t + 100000000)) ++ [s.clk]
  let latch := decide (8 ≤ l.length) || s.pf (0x2000 + n.val) 14 14 = 0 || s.sw.ch[n].offAt == some s.clk
  (s.modSw n fun c => { c with thermals := l }).trip n (if latch then .tripThermal else .thermalWait)

/-- SWITCH_SET (R300, R305, R306). A channel that a CLEAR releases and turns on trips again at once when its junction is too
hot in this tick (R318). -/
def execSwitchSet (dt : Nat) (r : Request) (s : State) : Result :=
  let s := s.elapse dt
  let i : OpInfo := { opc := 0x50, urgent := true, bcast := true, fault := false, minLen := 1, maxLen := 1 }
  let w := arg r 0
  let mask := fld w 47 32
  let on := fld w 31 16
  let c5 := firstRej [rejIf (s.dev.code == .starting) (some (.busy, 0)),
    rejIf (!s.working || s.kennel.active) s.badState]
  .next (s.serve i r none c5 (rejIf (mask = 0) (badParam 0 32)) none fun s =>
    let named := swsOf mask
    let s := if bit w 0 then named.foldl (fun s n => s.unlatch n) s else s
    let ons := named.filter fun n => on.testBit n.val
    let offs := named.filter fun n => !on.testBit n.val
    let s := offs.foldl (fun s n => s.swSetOff n) (s.gapDrop fun n => offs.contains n)
    let s := s.switchOn ons
    let s := (ons.filter fun n => s.sw.ch[n].hotAt == some s.clk && s.sw.ch[n].st == .inrush).foldl
      (fun s n => s.thermalTrip n) s
    let held := maskOf 16 fun i => ons.any fun n => n.val == i && s.sw.ch[n].st.latched
    let s := if bit w 0 then
        { s with sw := { s.sw with
          clearedAt := s.clk, cleared := (if s.sw.clearedAt = s.clk then s.sw.cleared else []) ++ [r] } }
      else s
    s.reply 0x50 r (if held = 0 then .ok else .partialDone) 0 held [])

/-- The next channel of the first sequence whose SWITCH_GAP has passed. -/
def gapNext (clk gap : Nat) : List (List Sw × Nat) → Option (Sw × List (List Sw × Nat))
  | [] => none
  | (n :: r, t) :: l =>
    if t + gap ≤ clk then some (n, if r.isEmpty then l else (r, clk) :: l)
    else (gapNext clk gap l).map fun x => (x.1, (n :: r, t) :: x.2)
  | ([], _) :: l => gapNext clk gap l

/-- SWITCH_GAP_STEP (R306). -/
def execSwitchGapStep (dt : Nat) (s : State) : Result :=
  let s := s.elapse dt
  .next (match gapNext s.clk (s.pf 0x2010 15 8 * 100000) s.sw.gaps with
    | some (n, l) => ({ s with sw := { s.sw with gaps := l } } : State).swOn n
    | none => s)

/-- CH_STATE (R308); LIMITING as measured. -/
def State.chState (s : State) (n : Sw) (limiting : Bool) : Nat :=
  match s.sw.ch[n].st with
  | .off => 0
  | .tripOverload => 5
  | .tripShort => 6
  | .thermalWait => 7
  | .tripThermal => 8
  | .shedTotal => 9
  | .inrush => if s.gated n then 4 else 2
  | .on => if s.gated n then 4 else if limiting then 3 else 1

/-- SWITCH_STATUS: a sum of currents that TOTAL cannot hold is a free value (R308, log entry 14). -/
def execSwitchStatus (dt : Nat) (r : Request) (m : SwitchMeas) (s : State) : Result :=
  let s := s.elapse dt
  let i : OpInfo := { opc := 0x51, urgent := false, bcast := false, fault := true, minLen := 0, maxLen := 0 }
  .next (s.serve i r none none none none fun s =>
    let ch (n : Sw) : Switch := s.sw.ch[n]
    let sum := m.current.foldl (fun a c => a + c.toNat) 0
    let (total, s') := if sum < 4096 then (sum, s) else let (w, s) := s.freeWord; (fld w 47 36, s)
    let held (n : Sw) : Bool := ((ch n).st == .on || (ch n).st == .inrush) && s.gated n
    let w1 := fields [(47, 32, swMask fun n => (ch n).commanded), (31, 16, swMask s.conducts),
      (15, 0, swMask fun n => (ch n).st.latched)]
    let w2 := fields [(47, 36, total), (35, 20, swMask fun n => (ch n).inrushAt.isSome),
      (15, 0, swMask fun n => (ch n).openLoad)]
    let w3 := fields [(47, 32, swMask fun n => (ch n).shortVbat), (31, 16, swMask held),
      (15, 8, m.ferruleT.toNat)]
    let per := (List.finRange 16).map fun n =>
      fields [(47, 36, m.current[n].toNat), (35, 28, m.temp[n].toNat), (27, 24, s.chState n (m.limiting.getLsbD n.val)),
        (23, 0, (ch n).clampLast.toNat)]
    s'.reply 0x51 r .ok 0 0 ([w1, w2, w3] ++ per))

/-! ### Protections -/

/-- INRUSH_END (R295). -/
def execInrushEnd (dt : Nat) (n : Sw) (s : State) : Result :=
  let s := s.elapse dt
  .next (match s.sw.ch[n].inrushAt with
    | some t =>
      let fin := t + s.pf (0x2000 + n.val) 31 24 * 100000
      if fin ≤ s.clk then
        s.modSw n fun c => { c with inrushAt := none, windowEnd := fin, st := if c.st == .inrush then .on else c.st }
      else s
    | none => s)

/-- A condition that has lasted for `ticks` outside the window trips the channel after `bound` ticks of it; the count starts
at the window's end (R296, R297). -/
def State.lasted (s : State) (n : Sw) (ticks bound : Nat) : Bool :=
  s.limits n && decide (bound ≤ ticks) && decide (s.sw.ch[n].windowEnd + bound ≤ s.clk)

/-- TRIP_OVERLOAD: the channel has limited its current for `limited` ticks without interruption; LIMIT_T of them outside the
window trip it (R296). -/
def execTripOverload (dt : Nat) (n : Sw) (limited : Nat) (s : State) : Result :=
  let s := s.elapse dt
  .next (if s.lasted n limited (s.pf (0x2000 + n.val) 23 16 * 100000) then s.trip n .tripOverload else s)

/-- TRIP_SHORT: the channel has limited its current with its output below 3.0 V for `low` ticks; 200 us of them outside the
window trip it (R297). -/
def execTripShort (dt : Nat) (n : Sw) (low : Nat) (s : State) : Result :=
  let s := s.elapse dt
  .next (if s.lasted n low 20000 then s.trip n .tripShort else s)

/-- THERMAL_TURN_OFF: the junction exceeds 175 degrees (R298). A latched channel is off already; a SWITCH_SET of this tick may
release it (R318). -/
def execThermalTurnOff (dt : Nat) (n : Sw) (s : State) : Result :=
  let s := s.elapse dt
  let c := s.sw.ch[n]
  .next (if c.st == .on || c.st == .inrush || (c.st == .off && c.offAt == some s.clk) then s.thermalTrip n
    else if c.st.latched then s.modSw n fun c => { c with hotAt := some s.clk }
    else s)

/-- THERMAL_RESTART (R298). -/
def execThermalRestart (dt : Nat) (n : Sw) (s : State) : Result :=
  let s := s.elapse dt
  .next (if s.sw.ch[n].st == .thermalWait && s.ferruleLive then
    s.modSw n fun c => { c with st := .inrush, inrushAt := some s.clk, openLoad := false, shortVbat := false }
  else s)

/-- SHED_TOTAL: `sum` is the sum of the last 100 totals, one each 100 us, in 10 mA. When their mean exceeds TOTAL_LIMIT with
no window open, the conducting channel that stands last in the start order is shed, without the gate (R299, R317). -/
def execShedTotal (dt : Nat) (sum : Nat) (s : State) : Result :=
  let s := s.elapse dt
  let due := s.sw.shedAt = 0 ∨ s.sw.shedAt + 1000000 ≤ s.clk
  let above := s.pf 0x2014 6 0 * 2500 < sum
  let last := (s.startOrder.filter fun n => s.conducts n && s.gate != some n).getLast?
  .next (match last with
    | some n =>
      if due ∧ above ∧ (s.sw.ch.all fun c => c.inrushAt.isNone) then
        ({ s with sw := { s.sw with shedAt := s.clk } } : State).modSw n fun c =>
          { c.cut s.clk .shedTotal with tripAt := some s.clk }
      else s
    | none => s)

/-- CLAMP_EVENT_END: the energy in microjoules (R303). -/
def execClampEventEnd (dt : Nat) (n : Sw) (energy : Nat) (s : State) : Result :=
  let s := s.elapse dt
  .next (if s.dev.code == .off then s else
    let s := s.modSw n fun c =>
      { c with clampLast := BitVec.ofNat 24 (sat 24 energy), clampHi := if 20000 < energy then c.clampHi + 1 else c.clampHi }
    if 150000 < energy then s.count (0x2020 + n.val) false 1 else s)

/-- The off-state check runs on the channel: OL_CHECK, off and not latched, cooling included, and its time has come
(R304). -/
def State.checksLoad (s : State) (n : Sw) : Bool :=
  let c := s.sw.ch[n]
  s.dev.code != .off && (c.st == .off || c.st == .thermalWait) && s.pf (0x2000 + n.val) 15 15 = 1
    && decide (c.checkAt ≤ s.clk)

/-- OPEN_LOAD_PROBE: the output was high for the 10 ms from the start of the check; the current goes for 1 ms (R304). -/
def execOpenLoadProbe (dt : Nat) (n : Sw) (s : State) : Result :=
  let s := s.elapse dt
  .next (if s.checksLoad n && !s.sw.ch[n].probing && s.sw.ch[n].checkAt + 1000000 ≤ s.clk then
    s.modSw n fun c => { c with probing := true, probeAt := s.clk }
  else s)

/-- OPEN_LOAD_VERDICT: the checks begin 100 ms apart (R304, log entry 67). -/
def execOpenLoadVerdict (dt : Nat) (n : Sw) (stillHigh : Bool) (s : State) : Result :=
  let s := s.elapse dt
  .next (if s.checksLoad n && s.sw.ch[n].probing && s.sw.ch[n].probeAt + 100000 ≤ s.clk then
    s.modSw n fun c => { c with
      probing := false, checkAt := c.checkAt + 10000000, shortVbat := stillHigh, openLoad := !stillHigh }
  else s)

/-- OPEN_LOAD_RECHECK: a check that finds the output at or below 3.0 V clears the flags, and the next begins 100 ms after it
began (R304). -/
def execOpenLoadRecheck (dt : Nat) (n : Sw) (high : Bool) (s : State) : Result :=
  let s := s.elapse dt
  .next (if s.checksLoad n && !s.sw.ch[n].probing && !high then
    s.modSw n fun c => { c with openLoad := false, shortVbat := false, checkAt := c.checkAt + 10000000 }
  else s)

/-! ### DIM pins and Kennel -/

/-- DIM_EDGE: the level of a pin; gating follows it (R309). -/
def execDimEdge (dt : Nat) (pin : Fin 4) (level : Bool) (s : State) : Result :=
  let s := s.elapse dt
  let d := s.sw.dim &&& ~~~(1#4 <<< pin.val)
  .next { s with sw := { s.sw with dim := if level then d ||| (1#4 <<< pin.val) else d } }

/-- DIM_MAP: 2012h and 2010h [3:0] in the working copy (R311). -/
def execDimMap (dt : Nat) (r : Request) (s : State) : Result :=
  let s := s.elapse dt
  let i : OpInfo := { opc := 0x53, urgent := false, bcast := true, fault := false, minLen := 2, maxLen := 2 }
  .next (s.serve i r none (rejIf (!s.working) s.badState) none none fun s =>
    ((s.setWork 0x2012 (arg r 0)).setWork 0x2010 (putFld (s.work 0x2010) 3 0 (fld (arg r 1) 3 0))).ok 0x53 r)

/-- KENNEL_STORE: the write into the store begins (R314). -/
def execKennelStore (dt : Nat) (r : Request) (s : State) : Result :=
  let s := s.elapse dt
  let i : OpInfo := { opc := 0x52, urgent := false, bcast := true, fault := false, minLen := 1, maxLen := 1 }
  let w := arg r 0
  let bad := firstRej ((List.range 16).map fun n => rejIf (fld w (2 * n + 1) (2 * n) = 3) (badParam 0 (2 * n)))
  .next (s.serve i r none (rejIf (!s.working) s.badState) bad none fun s =>
    { s with par := { s.par with kennelOps := s.par.kennelOps ++ [(r, BitVec.ofNat 32 (fld w 31 0), s.clk)] } })

/-- KENNEL_STORE_DONE (R314). -/
def execKennelStoreDone (dt : Nat) (ok : Bool) (s : State) : Result :=
  let s := s.elapse dt
  .next (match s.par.kennelOps with
    | [] => s
    | (r, codes, _) :: rest =>
      let s := { s with par := { s.par with kennelOps := rest } }
      if !s.answers then s
      else if ok then
        ({ s with
          kennel := { s.kennel with stored := codes }
          par := { s.par with store := tset s.par.store kennelKey (word codes.toNat) } } : State).ok 0x52 r
      else s.reply 0x52 r .storeFail 0 0 [])

/-- KENNEL_RELEASE: a channel held on by code 01b counts as commanded on (R315, R400). -/
def execKennelRelease (dt : Nat) (r : Request) (s : State) : Result :=
  let s := s.elapse dt
  let i : OpInfo := { opc := 0x54, urgent := false, bcast := true, fault := false, minLen := 0, maxLen := 0 }
  .next (s.serve i r none (rejIf (!s.working || s.watch.expired) s.badState) none none fun s =>
    let was := s.kennel.active
    let keep (c : Switch) : Switch :=
      { c with kennelOn := false
               commanded := c.commanded || (c.kennelOn && (c.st == .on || c.st == .inrush || c.st == .thermalWait)) }
    let s := { s with
      kennel := { s.kennel with active := false, reason := 0, queue := [] }
      sw := { s.sw with ch := s.sw.ch.map keep } }
    (if was then s.stateRec s.dev.code 0 else s).ok 0x54 r)

end Sys2Proof.Machine
end

