-- ==== Sys2Proof/Machine/ValveCmds.lean ====
section
/-! DEFINITION. VALVE_SHAPE, VALVE_TEST and VALVE_STATUS (R272, R283, R288-R291). -/

namespace Sys2Proof.Machine

/-- VALVE_SHAPE: the checks and the write of a PARAM_SET of one shape row (R272). -/
def execValveShape (dt : Nat) (r : Request) (s : State) : Result :=
  let s := s.elapse dt
  let i : OpInfo := { opc := 0x40, urgent := false, bcast := true, fault := false, minLen := 2, maxLen := 2 }
  let x : Setting := { k := 0, id := 0x1000 + fld (arg r 0) 2 0, stage := bit (arg r 0) 8, persist := false, value := arg r 1 }
  .next (s.serve i r none (s.pairState x) (s.pairBad [x] x) none fun s =>
    (s.reply 0x40 r .ok 0 1 []).pairsWrite none [x])

/-- VALVE_TEST (R283, R288-R290). -/
def execValveTest (dt : Nat) (r : Request) (s : State) : Result :=
  let s := s.elapse dt
  let i : OpInfo := { opc := 0x41, urgent := false, bcast := false, fault := false, minLen := 1, maxLen := 1 }
  let w := arg r 0
  let v : Valve := Fin.ofNat 64 (fld w 5 0)
  let b := bankOf v
  let length := fld w 47 32
  let need := s.energyOf v
  let c5 := rejIf (s.dev.code != .idle || !s.vlv.banks[b].ready) s.badState
  let c6 := firstRej [rejIf (decide (992 < fld w 23 14)) (badParam 0 14), rejIf (fld w 31 24 = 0) (badParam 0 24),
    rejIf (decide (length < 200) || decide (50000 < length)) (badParam 0 32)]
  let c7 := firstRej [s.needHandle, rejIf (decide (s.available b < need)) (some (.energy, 0))]
  .next (s.serve i r none c5 c6 c7 fun s =>
    s.accept 0x41 r .armed fun h s =>
      let cleared := bit w 12 && s.vlv.chans[v].latched
      let s := if cleared then s.modChan v fun c => { c with latched := false } else s
      let on := s.full + s.tCommit
      let t : TestRun :=
        { handle := h, dst := r.src, valve := v, cOn := on, energy := need, interval := fld w 31 24, samples := fld w 23 14,
          cleared, ttp := 0, sig := 0, drawn := 0, start := none }
      if s.vlv.valves[v].inhibited then s.finishTest t .inhibited 0 0 []
      else
        let k : Token := { id := h, bank := b, energy := need, begun := false, fold := bit w 13 }
        let s := { s with
          vlv := { s.vlv with tests := s.vlv.tests ++ [t] }
          nib := { s.nib with tokens := s.nib.tokens ++ [k] } }
        let f : ArmFrame := { valve := v, cOn := on, cOff := on + (length * 100 : Nat), set := s.stage.force
                              row := Fin.ofNat 8 (fld w 10 8), derate := s.vlv.valves[v].derated, handle := h }
        s.sendD2d (linkOf (quillOf b)) (.arm f))

/-- VALVE_STATUS: every field taken in one tick (R291). -/
def execValveStatus (dt : Nat) (r : Request) (s : State) : Result :=
  let s := s.elapse dt
  let i : OpInfo := { opc := 0x42, urgent := false, bcast := false, fault := true, minLen := 1, maxLen := 1 }
  let v : Valve := Fin.ofNat 64 (fld (arg r 0) 5 0)
  let b := bankOf v
  .next (s.serve i r none none none none fun s =>
    let x := s.vlv.valves[v]
    let k := s.vlv.banks[b]
    let (t16, s) := s.quantise (x.theta * 16)
    let (meas, s) := s.quantise ((k.v : Rat) / 8)
    let ramping := k.goal.any (fun g => g != k.target) || s.inhGoal b != k.inhibit
    let cnt := s.work (0x1240 + v.val)
    s.reply 0x42 r .ok 0 0 [
      fields [(47, 28, unsign 20 x.dLearn), (27, 8, x.eSwell), (7, 7, b2n s.vlv.chans[v].latched), (6, 6, b2n x.derated),
        (5, 5, b2n x.inhibited), (4, 4, b2n x.warn), (3, 3, b2n x.seeded), (2, 0, x.lastDiag.toNat)],
      fields [(47, 36, x.ttpLast), (35, 20, x.sigLast), (15, 0, unsign 16 t16)],
      fields [(47, 28, sat 20 x.drawnLast), (27, 8, sat 20 x.recovLast)],
      x.pulses,
      cnt,
      fields [(47, 36, meas.toNat), (35, 24, k.target), (23, 16, k.inhibit), (3, 3, b2n ramping),
        (2, 2, b2n (k.phase == .regulated && !k.ready)), (1, 1, b2n k.ready), (0, 0, b2n k.en)],
      s.work (0x1018 + b.val)])

end Sys2Proof.Machine
end

