-- ==== Sys2Proof/Machine/Dispatch.lean ====
section
/-! DEFINITION. The meaning of every command: one arm for each row of spec/opcode_table.json, in its order. -/

namespace Sys2Proof.Machine

def exec (i : Instr) (s : State) : Host.Outcome State Fault Refusal :=
  match i with
  | .supplyValid dt => Sys2Proof.Machine.execSupplyValid dt s
  | .resetNLow dt joined => Sys2Proof.Machine.execResetNLow dt joined s
  | .resetNRise dt => Sys2Proof.Machine.execResetNRise dt s
  | .vbatLoss dt => Sys2Proof.Machine.execVbatLoss dt s
  | .vioLoss dt => Sys2Proof.Machine.execVioLoss dt s
  | .vbatLow dt => Sys2Proof.Machine.execVbatLow dt s
  | .vbatRecover dt above165 stay => Sys2Proof.Machine.execVbatRecover dt above165 stay s
  | .vbatUv dt => Sys2Proof.Machine.execVbatUv dt s
  | .vbatHigh dt => Sys2Proof.Machine.execVbatHigh dt s
  | .railsValid dt => Sys2Proof.Machine.execRailsValid dt s
  | .referenceSelect dt refin => Sys2Proof.Machine.execReferenceSelect dt refin s
  | .pllLock dt => Sys2Proof.Machine.execPllLock dt s
  | .firmwareCheck dt activeOk otherOk => Sys2Proof.Machine.execFirmwareCheck dt activeOk otherOk s
  | .sramClear dt psramOk => Sys2Proof.Machine.execSramClear dt psramOk s
  | .d2dTraining dt => Sys2Proof.Machine.execD2dTraining dt s
  | .startOpenLoadCheck dt highFirst highSecond => Sys2Proof.Machine.execStartOpenLoadCheck dt highFirst highSecond s
  | .boostBankBegin dt b => Sys2Proof.Machine.execBoostBankBegin dt b s
  | .boostPrechargeDone dt b => Sys2Proof.Machine.execBoostPrechargeDone dt b s
  | .boostRegulation dt b => Sys2Proof.Machine.execBoostRegulation dt b s
  | .boostStartFail dt b => Sys2Proof.Machine.execBoostStartFail dt b s
  | .startSwitchOn dt => Sys2Proof.Machine.execStartSwitchOn dt s
  | .startingComplete dt => Sys2Proof.Machine.execStartingComplete dt s
  | .referenceLoss dt => Sys2Proof.Machine.execReferenceLoss dt s
  | .referenceReturn dt => Sys2Proof.Machine.execReferenceReturn dt s
  | .holdoverLimitExpiry dt => Sys2Proof.Machine.execHoldoverLimitExpiry dt s
  | .rfClkLoss dt absent => Sys2Proof.Machine.execRfClkLoss dt absent s
  | .rfClkRecover dt => Sys2Proof.Machine.execRfClkRecover dt s
  | .bridgeEpoch dt edges delta => Sys2Proof.Machine.execBridgeEpoch dt edges delta s
  | .arm dt q f => Sys2Proof.Machine.execArm dt q f s
  | .cut dt q mask => Sys2Proof.Machine.execCut dt q mask s
  | .shape dt q set row value => Sys2Proof.Machine.execShape dt q set row value s
  | .adjust dt q delete atTick => Sys2Proof.Machine.execAdjust dt q delete atTick s
  | .d2dStep dt q amount atTick => Sys2Proof.Machine.execD2dStep dt q amount atTick s
  | .mirrorAdjust dt => Sys2Proof.Machine.execMirrorAdjust dt s
  | .d2dCrcFail dt link m => Sys2Proof.Machine.execD2dCrcFail dt link m s
  | .d2dAckTimeout dt link m => Sys2Proof.Machine.execD2dAckTimeout dt link m s
  | .heartbeatSend dt => Sys2Proof.Machine.execHeartbeatSend dt s
  | .heartbeat dt link instant => Sys2Proof.Machine.execHeartbeat dt link instant s
  | .heartbeatTimeout dt link => Sys2Proof.Machine.execHeartbeatTimeout dt link s
  | .scribeSupplyFault dt => Sys2Proof.Machine.execScribeSupplyFault dt s
  | .forwardedClockStop dt q coreClock => Sys2Proof.Machine.execForwardedClockStop dt q coreClock s
  | .scribeResume dt => Sys2Proof.Machine.execScribeResume dt s
  | .scrub dt found rewritten => Sys2Proof.Machine.execScrub dt found rewritten s
  | .packetReceived dt side urgentSof slots eofBad p crcWord ecc => Sys2Proof.Machine.execPacketReceived dt side urgentSof slots eofBad p crcWord ecc s
  | .packetForward dt side urgent ecc => Sys2Proof.Machine.execPacketForward dt side urgent ecc s
  | .replyReceived dt side p sub => Sys2Proof.Machine.execReplyReceived dt side p sub s
  | .orderedSetDiscard dt side => Sys2Proof.Machine.execOrderedSetDiscard dt side s
  | .train dt side stepNo => Sys2Proof.Machine.execTrain dt side stepNo s
  | .trainingDone dt side tHop => Sys2Proof.Machine.execTrainingDone dt side tHop s
  | .ack dt side urgent seq => Sys2Proof.Machine.execAck dt side urgent seq s
  | .nak dt side urgent seq ecc => Sys2Proof.Machine.execNak dt side urgent seq ecc s
  | .credit dt side urgent freed => Sys2Proof.Machine.execCredit dt side urgent freed s
  | .creditSend dt side urgent => Sys2Proof.Machine.execCreditSend dt side urgent s
  | .ackSend dt side urgent => Sys2Proof.Machine.execAckSend dt side urgent s
  | .replayTimeout dt side urgent ecc => Sys2Proof.Machine.execReplayTimeout dt side urgent ecc s
  | .portTrainTimeout dt side => Sys2Proof.Machine.execPortTrainTimeout dt side s
  | .portDown dt side => Sys2Proof.Machine.execPortDown dt side s
  | .portHoldExpiry dt side => Sys2Proof.Machine.execPortHoldExpiry dt side s
  | .breakSet dt side addr downLost => Sys2Proof.Machine.execBreakSet dt side addr downLost s
  | .timemarkSend dt sub => Sys2Proof.Machine.execTimemarkSend dt sub s
  | .timemark dt departure fraction sub => Sys2Proof.Machine.execTimemark dt departure fraction sub s
  | .echoMeasure dt k sub => Sys2Proof.Machine.execEchoMeasure dt k sub s
  | .enumerateAssign dt r => Sys2Proof.Machine.execEnumerateAssign dt r s
  | .enumerateChain dt r sorts => Sys2Proof.Machine.execEnumerateChain dt r sorts s
  | .enumerateClear dt r => Sys2Proof.Machine.execEnumerateClear dt r s
  | .assignRetry dt => Sys2Proof.Machine.execAssignRetry dt s
  | .enumTimeout dt => Sys2Proof.Machine.execEnumTimeout dt s
  | .chainPingTimeout dt => Sys2Proof.Machine.execChainPingTimeout dt s
  | .ping dt r => Sys2Proof.Machine.execPing dt r s
  | .identify dt r => Sys2Proof.Machine.execIdentify dt r s
  | .echo dt r ago sub => Sys2Proof.Machine.execEcho dt r ago sub s
  | .readReg dt r => Sys2Proof.Machine.execReadReg dt r s
  | .writeReg dt r => Sys2Proof.Machine.execWriteReg dt r s
  | .serviceReadFrame dt addr values => Sys2Proof.Machine.execServiceReadFrame dt addr values s
  | .registerWrite dt path addr value => Sys2Proof.Machine.execRegisterWrite dt path addr value s
  | .forceFault dt path => Sys2Proof.Machine.execForceFault dt path s
  | .resetReq dt path => Sys2Proof.Machine.execResetReq dt path s
  | .forceFaultAndReset dt path => Sys2Proof.Machine.execForceFaultAndReset dt path s
  | .instantRead dt path => Sys2Proof.Machine.execInstantRead dt path s
  | .mailboxWrite dt path value => Sys2Proof.Machine.execMailboxWrite dt path value s
  | .mailboxRead dt => Sys2Proof.Machine.execMailboxRead dt s
  | .watchConfigure dt path enable clearExpired period seed token => Sys2Proof.Machine.execWatchConfigure dt path enable clearExpired period seed token s
  | .watchFeed dt path clearExpired token => Sys2Proof.Machine.execWatchFeed dt path clearExpired token s
  | .watchClear dt path => Sys2Proof.Machine.execWatchClear dt path s
  | .watchdogExpiry dt => Sys2Proof.Machine.execWatchdogExpiry dt s
  | .kennelSwitchOn dt => Sys2Proof.Machine.execKennelSwitchOn dt s
  | .paramGet dt r => Sys2Proof.Machine.execParamGet dt r s
  | .paramSet dt r => Sys2Proof.Machine.execParamSet dt r s
  | .paramStoreWriteDone dt ok => Sys2Proof.Machine.execParamStoreWriteDone dt ok s
  | .storeErase dt r => Sys2Proof.Machine.execStoreErase dt r s
  | .chainMark dt r => Sys2Proof.Machine.execChainMark dt r s
  | .chainMarkBroadcast dt => Sys2Proof.Machine.execChainMarkBroadcast dt s
  | .cancel dt r => Sys2Proof.Machine.execCancel dt r s
  | .completionSent dt route => Sys2Proof.Machine.execCompletionSent dt route s
  | .summaryInterval dt => Sys2Proof.Machine.execSummaryInterval dt s
  | .detect dt r => Sys2Proof.Machine.execDetect dt r s
  | .nibRecordSolve dt b ecc => Sys2Proof.Machine.execNibRecordSolve dt b ecc s
  | .eventArming dt b ecc => Sys2Proof.Machine.execEventArming dt b ecc s
  | .ejectDirect dt r => Sys2Proof.Machine.execEjectDirect dt r s
  | .bankEnable dt r => Sys2Proof.Machine.execBankEnable dt r s
  | .bankDisable dt r => Sys2Proof.Machine.execBankDisable dt r s
  | .sortStart dt r => Sys2Proof.Machine.execSortStart dt r s
  | .sortStartHoldEnd dt => Sys2Proof.Machine.execSortStartHoldEnd dt s
  | .sortStop dt r => Sys2Proof.Machine.execSortStop dt r s
  | .eventQuery dt r => Sys2Proof.Machine.execEventQuery dt r s
  | .bstcReport dt b v => Sys2Proof.Machine.execBstcReport dt b v s
  | .coilOn dt v => Sys2Proof.Machine.execCoilOn dt v s
  | .swellPeak dt v current drawn => Sys2Proof.Machine.execSwellPeak dt v current drawn s
  | .swellTimeout dt v current drawn => Sys2Proof.Machine.execSwellTimeout dt v current drawn s
  | .transitionEnd dt v => Sys2Proof.Machine.execTransitionEnd dt v s
  | .hairlineChop dt v upperEdge => Sys2Proof.Machine.execHairlineChop dt v upperEdge s
  | .coilOff dt v current drawn => Sys2Proof.Machine.execCoilOff dt v current drawn s
  | .turnOffEnd dt v recovered peak samples => Sys2Proof.Machine.execTurnOffEnd dt v recovered peak samples s
  | .swellEnd dt q r => Sys2Proof.Machine.execSwellEnd dt q r s
  | .offReport dt q r => Sys2Proof.Machine.execOffReport dt q r s
  | .alert dt q a => Sys2Proof.Machine.execAlert dt q a s
  | .valveShort dt v current drawn => Sys2Proof.Machine.execValveShort dt v current drawn s
  | .valveOpen dt v current drawn => Sys2Proof.Machine.execValveOpen dt v current drawn s
  | .quillOvertemp dt q => Sys2Proof.Machine.execQuillOvertemp dt q s
  | .quillCooldown dt q => Sys2Proof.Machine.execQuillCooldown dt q s
  | .blotterUpdate dt => Sys2Proof.Machine.execBlotterUpdate dt s
  | .inhibitRamp dt b => Sys2Proof.Machine.execInhibitRamp dt b s
  | .bankUnregulated dt b => Sys2Proof.Machine.execBankUnregulated dt b s
  | .bankRegulated dt b => Sys2Proof.Machine.execBankRegulated dt b s
  | .boostRampStep dt b => Sys2Proof.Machine.execBoostRampStep dt b s
  | .boostSetTimeout dt b => Sys2Proof.Machine.execBoostSetTimeout dt b s
  | .valveCounterSave dt ok => Sys2Proof.Machine.execValveCounterSave dt ok s
  | .valveShape dt r => Sys2Proof.Machine.execValveShape dt r s
  | .valveTest dt r => Sys2Proof.Machine.execValveTest dt r s
  | .valveStatus dt r => Sys2Proof.Machine.execValveStatus dt r s
  | .boostSet dt r => Sys2Proof.Machine.execBoostSet dt r s
  | .switchSet dt r => Sys2Proof.Machine.execSwitchSet dt r s
  | .switchGapStep dt => Sys2Proof.Machine.execSwitchGapStep dt s
  | .switchStatus dt r m => Sys2Proof.Machine.execSwitchStatus dt r m s
  | .kennelStore dt r => Sys2Proof.Machine.execKennelStore dt r s
  | .kennelStoreDone dt ok => Sys2Proof.Machine.execKennelStoreDone dt ok s
  | .dimMap dt r => Sys2Proof.Machine.execDimMap dt r s
  | .kennelRelease dt r => Sys2Proof.Machine.execKennelRelease dt r s
  | .inrushEnd dt n => Sys2Proof.Machine.execInrushEnd dt n s
  | .tripOverload dt n limited => Sys2Proof.Machine.execTripOverload dt n limited s
  | .tripShort dt n low => Sys2Proof.Machine.execTripShort dt n low s
  | .thermalTurnOff dt n => Sys2Proof.Machine.execThermalTurnOff dt n s
  | .thermalRestart dt n => Sys2Proof.Machine.execThermalRestart dt n s
  | .shedTotal dt sum => Sys2Proof.Machine.execShedTotal dt sum s
  | .clampEventEnd dt n energy => Sys2Proof.Machine.execClampEventEnd dt n energy s
  | .openLoadProbe dt n => Sys2Proof.Machine.execOpenLoadProbe dt n s
  | .openLoadVerdict dt n stillHigh => Sys2Proof.Machine.execOpenLoadVerdict dt n stillHigh s
  | .dimEdge dt pin level => Sys2Proof.Machine.execDimEdge dt pin level s
  | .canFrameReceived dt f sofAgo half ecc => Sys2Proof.Machine.execCanFrameReceived dt f sofAgo half ecc s
  | .protocolException dt => Sys2Proof.Machine.execProtocolException dt s
  | .canIntegrated dt => Sys2Proof.Machine.execCanIntegrated dt s
  | .canError dt transmit amount => Sys2Proof.Machine.execCanError dt transmit amount s
  | .busOffRecovery dt => Sys2Proof.Machine.execBusOffRecovery dt s
  | .canFrameSent dt sofAgo half => Sys2Proof.Machine.execCanFrameSent dt sofAgo half s
  | .canStoppingDone dt => Sys2Proof.Machine.execCanStoppingDone dt s
  | .ringDrain dt ecc => Sys2Proof.Machine.execRingDrain dt ecc s
  | .referenceSlotStart dt => Sys2Proof.Machine.execReferenceSlotStart dt s
  | .followUpWithdraw dt => Sys2Proof.Machine.execFollowUpWithdraw dt s
  | .slotStart dt => Sys2Proof.Machine.execSlotStart dt s
  | .slotGuardExpiry dt => Sys2Proof.Machine.execSlotGuardExpiry dt s
  | .busConfig dt r => Sys2Proof.Machine.execBusConfig dt r s
  | .busSend dt r => Sys2Proof.Machine.execBusSend dt r s
  | .busRead dt r => Sys2Proof.Machine.execBusRead dt r s
  | .busFilter dt r => Sys2Proof.Machine.execBusFilter dt r s
  | .busTime dt r => Sys2Proof.Machine.execBusTime dt r s
  | .gnssPower dt r => Sys2Proof.Machine.execGnssPower dt r s
  | .basebandReady dt => Sys2Proof.Machine.execBasebandReady dt s
  | .acquire dt r => Sys2Proof.Machine.execAcquire dt r s
  | .captureStart dt => Sys2Proof.Machine.execCaptureStart dt s
  | .captureComplete dt l => Sys2Proof.Machine.execCaptureComplete dt l s
  | .acquireDone dt ecc block => Sys2Proof.Machine.execAcquireDone dt ecc block s
  | .aiding dt r => Sys2Proof.Machine.execAiding dt r s
  | .trackAssign dt r => Sys2Proof.Machine.execTrackAssign dt r s
  | .trackRelease dt r => Sys2Proof.Machine.execTrackRelease dt r s
  | .dumpClose dt c rf ecc => Sys2Proof.Machine.execDumpClose dt c rf ecc s
  | .loopUpdate dt c late => Sys2Proof.Machine.execLoopUpdate dt c late s
  | .bitSyncCountClear dt c => Sys2Proof.Machine.execBitSyncCountClear dt c s
  | .cn0Estimate dt c => Sys2Proof.Machine.execCn0Estimate dt c s
  | .reacqSearchRequest dt c => Sys2Proof.Machine.execReacqSearchRequest dt c s
  | .reacqSearchDone dt c first l ecc block => Sys2Proof.Machine.execReacqSearchDone dt c first l ecc block s
  | .measurementEpoch dt => Sys2Proof.Machine.execMeasurementEpoch dt s
  | .navRead dt r => Sys2Proof.Machine.execNavRead dt r s
  | .measRead dt r => Sys2Proof.Machine.execMeasRead dt r s
  | .timeGet dt r => Sys2Proof.Machine.execTimeGet dt r s
  | .timeSource dt r => Sys2Proof.Machine.execTimeSource dt r s
  | .calendarSet dt r => Sys2Proof.Machine.execCalendarSet dt r s
  | .calendarGet dt r => Sys2Proof.Machine.execCalendarGet dt r s
  | .discipline dt r => Sys2Proof.Machine.execDiscipline dt r s
  | .stepApply dt => Sys2Proof.Machine.execStepApply dt s
  | .sourceHoldover dt => Sys2Proof.Machine.execSourceHoldover dt s
  | .leapSecond dt => Sys2Proof.Machine.execLeapSecond dt s
  | .calendarEnd dt => Sys2Proof.Machine.execCalendarEnd dt s
  | .timeRecordSecond dt => Sys2Proof.Machine.execTimeRecordSecond dt s
  | .ppsOutEdge dt => Sys2Proof.Machine.execPpsOutEdge dt s
  | .ppsOutTrailing dt => Sys2Proof.Machine.execPpsOutTrailing dt s
  | .ppsInEdge dt falling half => Sys2Proof.Machine.execPpsInEdge dt falling half s
  | .ppsConfig dt r => Sys2Proof.Machine.execPpsConfig dt r s
  | .logBurstStart dt bad ecc => Sys2Proof.Machine.execLogBurstStart dt bad ecc s
  | .logBurstDone dt => Sys2Proof.Machine.execLogBurstDone dt s
  | .logConfig dt r => Sys2Proof.Machine.execLogConfig dt r s
  | .logMark dt r => Sys2Proof.Machine.execLogMark dt r s
  | .logRead dt r => Sys2Proof.Machine.execLogRead dt r s
  | .logReadDone dt => Sys2Proof.Machine.execLogReadDone dt s
  | .leashExpiry dt e => Sys2Proof.Machine.execLeashExpiry dt e s
  | .processorLeashExpiry dt => Sys2Proof.Machine.execProcessorLeashExpiry dt s
  | .syncTimeout dt waiter holder object waited => Sys2Proof.Machine.execSyncTimeout dt waiter holder object waited s
  | .abortRelay dt side p => Sys2Proof.Machine.execAbortRelay dt side p s
  | .recallCollectDone dt quick full objects => Sys2Proof.Machine.execRecallCollectDone dt quick full objects s
  | .recallResume dt job => Sys2Proof.Machine.execRecallResume dt job s
  | .autoRestart dt => Sys2Proof.Machine.execAutoRestart dt s
  | .faultnRecallEnd dt => Sys2Proof.Machine.execFaultnRecallEnd dt s
  | .recallConfig dt r => Sys2Proof.Machine.execRecallConfig dt r s
  | .recallRead dt r unreadable => Sys2Proof.Machine.execRecallRead dt r unreadable s
  | .engineReset dt r => Sys2Proof.Machine.execEngineReset dt r s
  | .abortJob dt r => Sys2Proof.Machine.execAbortJob dt r s
  | .fwBegin dt r => Sys2Proof.Machine.execFwBegin dt r s
  | .fwEraseDone dt => Sys2Proof.Machine.execFwEraseDone dt s
  | .fwBlock dt r => Sys2Proof.Machine.execFwBlock dt r s
  | .fwEnd dt r => Sys2Proof.Machine.execFwEnd dt r s
  | .fwSwitch dt r => Sys2Proof.Machine.execFwSwitch dt r s
  | .stagePrepare dt r => Sys2Proof.Machine.execStagePrepare dt r s
  | .stagePrepareDone dt => Sys2Proof.Machine.execStagePrepareDone dt s
  | .stageCommitAt dt r => Sys2Proof.Machine.execStageCommitAt dt r s
  | .stageArm dt r => Sys2Proof.Machine.execStageArm dt r s
  | .stageReadinessPoll dt => Sys2Proof.Machine.execStageReadinessPoll dt s
  | .stageDecision dt => Sys2Proof.Machine.execStageDecision dt s
  | .commit dt => Sys2Proof.Machine.execCommit dt s
  | .stageConfirmRead dt => Sys2Proof.Machine.execStageConfirmRead dt s
  | .stageCommitTimeout dt => Sys2Proof.Machine.execStageCommitTimeout dt s
  | .stagePersistDone dt ok => Sys2Proof.Machine.execStagePersistDone dt ok s
  | .settlingEnd dt => Sys2Proof.Machine.execSettlingEnd dt s
  | .stageAbandon dt r => Sys2Proof.Machine.execStageAbandon dt r s
  | .d2dAck dt link m => Sys2Proof.Machine.execD2dAck dt link m s
  | .timeChangeAnnounce dt => Sys2Proof.Machine.execTimeChangeAnnounce dt s
  | .mixedDecaySwitch dt v => Sys2Proof.Machine.execMixedDecaySwitch dt v s
  | .openLoadRecheck dt n high => Sys2Proof.Machine.execOpenLoadRecheck dt n high s
  | .mirjanConfigApply dt => Sys2Proof.Machine.execMirjanConfigApply dt s
  | .supervisorRailLoss dt => Sys2Proof.Machine.execSupervisorRailLoss dt s
  | .supervisorRailReturn dt => Sys2Proof.Machine.execSupervisorRailReturn dt s
  | .vbatHighEnd dt => Sys2Proof.Machine.execVbatHighEnd dt s

end Sys2Proof.Machine
end

