-- ==== Sys2Proof/Safety.lean ====
section
/-! DEFINITION. What claims are stated in: a step that has a next state, the ticks a command lets pass, the row of
R113 that a request belongs to, and the requests that the part takes up. -/

namespace Sys2Proof.Machine

/-- The step from `s` has the next state `t`. -/
def Next (s t : State) : Prop := step s = .next t

/-- A property that every step keeps: a next state of a state that has it has it. -/
def Kept (inv : State → Prop) : Prop := ∀ s t, inv s → Next s t → inv t

/-- The command completes in a state of which `P` holds. -/
def Ends (c : Instr) (s : State) (P : State → Prop) : Prop := ∃ t, exec c s = .next t ∧ P t

/-- The tables of words are in their one form: numbers strictly rising. -/
def State.tablesWf (s : State) : Bool :=
  twf s.par.work && twf s.par.store && twf s.par.boot && twf s.par.seen && twf s.stage.set0 && twf s.stage.set1 && twf s.stage.words
    && twf s.hnd.gens && twf s.hnd.counts

/-- No entry of a table holds the reset value of its parameter. -/
def sparse (t : WTable) : Bool := t.all fun e => e.2 != paramReset e.1

/-- Every table of words is in its one form, and the working copy, the two sets and the stage list no value equal to the
reset value (the form of the tables is the model's). -/
def State.OneForm (s : State) : Prop :=
  s.tablesWf = true ∧ sparse s.par.work = true ∧ sparse s.stage.set0 = true ∧ sparse s.stage.set1 = true ∧
    sparse s.stage.words = true

/-- The address is 63 or 1 to 32 and the master is exactly the device at address 1 (R90); the width of PPS_OUT is 1 to
500,000 us (R212); the watchdog period is 10 to 1000 ms (R170). -/
def State.LegalNumbers (s : State) : Prop :=
  (s.dev.addr = 63 ∨ 1 ≤ s.dev.addr.toNat ∧ s.dev.addr.toNat ≤ 32) ∧ (s.dev.master = true ↔ s.dev.addr = 1) ∧
    1 ≤ s.pps.width ∧ s.pps.width ≤ 500000 ∧ 10 ≤ s.watch.period ∧ s.watch.period ≤ 1000

/-- The ledger of a pool of handles with the indices from `lo` up to `limit` (R118, R120, R145): an index in use or free again is
one of them that has been given out, it is so once, and free, accepted, armed and retiring handles add up to all. -/
def Pool.AddsUp (p : Pool) (lo limit : Nat) : Prop :=
  let given := (p.live.map fun l => hIndex l.id) ++ p.freed
  lo ≤ p.fresh ∧ p.fresh ≤ limit ∧ given.Nodup ∧ (∀ i ∈ given, lo ≤ i ∧ i < p.fresh) ∧
    p.free limit + p.inState .accepted + p.inState .armed + p.inState .retiring = limit - lo

/-- Both ledgers of handles hold: 16,128 of the ejection pool and 256 of the reserved pool (R118, R145). -/
def State.HandlesAddUp (s : State) : Prop := s.hnd.ej.AddsUp 0 0x3F00 ∧ s.hnd.rs.AddsUp 0x3F00 0x4000

/-- No transmitter holds more credits than the buffer at the other end has words (R79, R106). -/
def State.CreditsBounded (s : State) : Prop :=
  s.up.bulk.held ≤ 2048 ∧ s.up.urgent.held ≤ 256 ∧ s.down.bulk.held ≤ 2048 ∧ s.down.urgent.held ≤ 256

/-- A row of the opcode table of R113: the opcode, and what its columns "Urgent", "Broadcast" and "FAULT" say. -/
structure Row where
  opc    : Nat
  urgent : Bool
  bcast  : Bool
  fault  : Bool
deriving DecidableEq, Repr

/-- The request that a command carries, with its row of R113; none of an event. -/
def reqOf : Instr → Option (Row × Request)
  | .enumerateAssign _ r => some (⟨0x01, false, true, false⟩, r)
  | .enumerateChain _ r _ => some (⟨0x01, false, true, false⟩, r)
  | .enumerateClear _ r => some (⟨0x01, false, true, false⟩, r)
  | .ping _ r => some (⟨0x00, true, true, true⟩, r)
  | .identify _ r => some (⟨0x02, false, false, true⟩, r)
  | .echo _ r _ _ => some (⟨0x03, true, false, true⟩, r)
  | .readReg _ r => some (⟨0x04, true, false, true⟩, r)
  | .writeReg _ r => some (⟨0x05, false, false, true⟩, r)
  | .paramGet _ r => some (⟨0x06, false, false, true⟩, r)
  | .paramSet _ r => some (⟨0x07, false, true, false⟩, r)
  | .storeErase _ r => some (⟨0x07, false, true, false⟩, r)
  | .chainMark _ r => some (⟨0x07, false, true, false⟩, r)
  | .cancel _ r => some (⟨0x0E, true, false, true⟩, r)
  | .detect _ r => some (⟨0x20, false, true, false⟩, r)
  | .ejectDirect _ r => some (⟨0x21, false, false, false⟩, r)
  | .bankEnable _ r => some (⟨0x22, false, true, false⟩, r)
  | .bankDisable _ r => some (⟨0x23, true, true, true⟩, r)
  | .sortStart _ r => some (⟨0x24, false, true, false⟩, r)
  | .sortStop _ r => some (⟨0x25, true, true, true⟩, r)
  | .eventQuery _ r => some (⟨0x26, false, false, true⟩, r)
  | .valveShape _ r => some (⟨0x40, false, true, false⟩, r)
  | .valveTest _ r => some (⟨0x41, false, false, false⟩, r)
  | .valveStatus _ r => some (⟨0x42, false, false, true⟩, r)
  | .boostSet _ r => some (⟨0x43, false, true, false⟩, r)
  | .switchSet _ r => some (⟨0x50, true, true, false⟩, r)
  | .switchStatus _ r _ => some (⟨0x51, false, false, true⟩, r)
  | .kennelStore _ r => some (⟨0x52, false, true, false⟩, r)
  | .dimMap _ r => some (⟨0x53, false, true, false⟩, r)
  | .kennelRelease _ r => some (⟨0x54, false, true, false⟩, r)
  | .busConfig _ r => some (⟨0x60, false, false, false⟩, r)
  | .busSend _ r => some (⟨0x61, false, false, false⟩, r)
  | .busRead _ r => some (⟨0x62, false, false, true⟩, r)
  | .busFilter _ r => some (⟨0x63, false, false, false⟩, r)
  | .busTime _ r => some (⟨0x64, false, false, false⟩, r)
  | .gnssPower _ r => some (⟨0x70, false, false, false⟩, r)
  | .acquire _ r => some (⟨0x71, false, false, false⟩, r)
  | .aiding _ r => some (⟨0x76, false, false, false⟩, r)
  | .trackAssign _ r => some (⟨0x72, false, false, false⟩, r)
  | .trackRelease _ r => some (⟨0x73, false, false, false⟩, r)
  | .navRead _ r => some (⟨0x74, false, false, true⟩, r)
  | .measRead _ r => some (⟨0x75, false, false, true⟩, r)
  | .timeGet _ r => some (⟨0x80, true, false, true⟩, r)
  | .timeSource _ r => some (⟨0x81, false, false, false⟩, r)
  | .calendarSet _ r => some (⟨0x82, false, false, false⟩, r)
  | .calendarGet _ r => some (⟨0x83, false, false, true⟩, r)
  | .discipline _ r => some (⟨0x84, false, false, false⟩, r)
  | .ppsConfig _ r => some (⟨0x85, false, false, false⟩, r)
  | .logConfig _ r => some (⟨0xA2, false, false, false⟩, r)
  | .logMark _ r => some (⟨0xA1, false, true, false⟩, r)
  | .logRead _ r => some (⟨0xA0, false, false, true⟩, r)
  | .recallConfig _ r => some (⟨0x90, false, true, false⟩, r)
  | .recallRead _ r _ => some (⟨0x91, false, false, true⟩, r)
  | .engineReset _ r => some (⟨0x92, true, false, true⟩, r)
  | .abortJob _ r => some (⟨0x93, true, false, false⟩, r)
  | .fwBegin _ r => some (⟨0xF0, false, false, false⟩, r)
  | .fwBlock _ r => some (⟨0xF1, false, false, false⟩, r)
  | .fwEnd _ r => some (⟨0xF2, false, false, false⟩, r)
  | .fwSwitch _ r => some (⟨0xF3, false, false, true⟩, r)
  | .stagePrepare _ r => some (⟨0x08, false, true, false⟩, r)
  | .stageCommitAt _ r => some (⟨0x09, false, false, false⟩, r)
  | .stageArm _ r => some (⟨0x07, false, true, false⟩, r)
  | .stageAbandon _ r => some (⟨0x0A, true, true, true⟩, r)
  | _ => none

/-- The core ticks that a command says have passed since the command before it (log entry 1). -/
def ticksOf : Instr → Nat
  | .supplyValid dt => dt
  | .resetNLow dt _ => dt
  | .resetNRise dt => dt
  | .vbatLoss dt => dt
  | .vioLoss dt => dt
  | .vbatLow dt => dt
  | .vbatRecover dt _ _ => dt
  | .vbatUv dt => dt
  | .vbatHigh dt => dt
  | .railsValid dt => dt
  | .referenceSelect dt _ => dt
  | .pllLock dt => dt
  | .firmwareCheck dt _ _ => dt
  | .sramClear dt _ => dt
  | .d2dTraining dt => dt
  | .startOpenLoadCheck dt _ _ => dt
  | .boostBankBegin dt _ => dt
  | .boostPrechargeDone dt _ => dt
  | .boostRegulation dt _ => dt
  | .boostStartFail dt _ => dt
  | .startSwitchOn dt => dt
  | .startingComplete dt => dt
  | .referenceLoss dt => dt
  | .referenceReturn dt => dt
  | .holdoverLimitExpiry dt => dt
  | .rfClkLoss dt _ => dt
  | .rfClkRecover dt => dt
  | .bridgeEpoch dt _ _ => dt
  | .arm dt _ _ => dt
  | .cut dt _ _ => dt
  | .shape dt _ _ _ _ => dt
  | .adjust dt _ _ _ => dt
  | .d2dStep dt _ _ _ => dt
  | .mirrorAdjust dt => dt
  | .d2dCrcFail dt _ _ => dt
  | .d2dAckTimeout dt _ _ => dt
  | .heartbeatSend dt => dt
  | .heartbeat dt _ _ => dt
  | .heartbeatTimeout dt _ => dt
  | .scribeSupplyFault dt => dt
  | .forwardedClockStop dt _ _ => dt
  | .scribeResume dt => dt
  | .scrub dt _ _ => dt
  | .packetReceived dt _ _ _ _ _ _ _ => dt
  | .packetForward dt _ _ _ => dt
  | .replyReceived dt _ _ _ => dt
  | .orderedSetDiscard dt _ => dt
  | .train dt _ _ => dt
  | .trainingDone dt _ _ => dt
  | .ack dt _ _ _ => dt
  | .nak dt _ _ _ _ => dt
  | .credit dt _ _ _ => dt
  | .creditSend dt _ _ => dt
  | .ackSend dt _ _ => dt
  | .replayTimeout dt _ _ _ => dt
  | .portTrainTimeout dt _ => dt
  | .portDown dt _ => dt
  | .portHoldExpiry dt _ => dt
  | .breakSet dt _ _ _ => dt
  | .timemarkSend dt _ => dt
  | .timemark dt _ _ _ => dt
  | .echoMeasure dt _ _ => dt
  | .enumerateAssign dt _ => dt
  | .enumerateChain dt _ _ => dt
  | .enumerateClear dt _ => dt
  | .assignRetry dt => dt
  | .enumTimeout dt => dt
  | .chainPingTimeout dt => dt
  | .ping dt _ => dt
  | .identify dt _ => dt
  | .echo dt _ _ _ => dt
  | .readReg dt _ => dt
  | .writeReg dt _ => dt
  | .serviceReadFrame dt _ _ => dt
  | .registerWrite dt _ _ _ => dt
  | .forceFault dt _ => dt
  | .resetReq dt _ => dt
  | .forceFaultAndReset dt _ => dt
  | .instantRead dt _ => dt
  | .mailboxWrite dt _ _ => dt
  | .mailboxRead dt => dt
  | .watchConfigure dt _ _ _ _ _ _ => dt
  | .watchFeed dt _ _ _ => dt
  | .watchClear dt _ => dt
  | .watchdogExpiry dt => dt
  | .kennelSwitchOn dt => dt
  | .paramGet dt _ => dt
  | .paramSet dt _ => dt
  | .paramStoreWriteDone dt _ => dt
  | .storeErase dt _ => dt
  | .chainMark dt _ => dt
  | .chainMarkBroadcast dt => dt
  | .cancel dt _ => dt
  | .completionSent dt _ => dt
  | .summaryInterval dt => dt
  | .detect dt _ => dt
  | .nibRecordSolve dt _ _ => dt
  | .eventArming dt _ _ => dt
  | .ejectDirect dt _ => dt
  | .bankEnable dt _ => dt
  | .bankDisable dt _ => dt
  | .sortStart dt _ => dt
  | .sortStartHoldEnd dt => dt
  | .sortStop dt _ => dt
  | .eventQuery dt _ => dt
  | .bstcReport dt _ _ => dt
  | .coilOn dt _ => dt
  | .swellPeak dt _ _ _ => dt
  | .swellTimeout dt _ _ _ => dt
  | .transitionEnd dt _ => dt
  | .hairlineChop dt _ _ => dt
  | .coilOff dt _ _ _ => dt
  | .turnOffEnd dt _ _ _ _ => dt
  | .swellEnd dt _ _ => dt
  | .offReport dt _ _ => dt
  | .alert dt _ _ => dt
  | .valveShort dt _ _ _ => dt
  | .valveOpen dt _ _ _ => dt
  | .quillOvertemp dt _ => dt
  | .quillCooldown dt _ => dt
  | .blotterUpdate dt => dt
  | .inhibitRamp dt _ => dt
  | .bankUnregulated dt _ => dt
  | .bankRegulated dt _ => dt
  | .boostRampStep dt _ => dt
  | .boostSetTimeout dt _ => dt
  | .valveCounterSave dt _ => dt
  | .valveShape dt _ => dt
  | .valveTest dt _ => dt
  | .valveStatus dt _ => dt
  | .boostSet dt _ => dt
  | .switchSet dt _ => dt
  | .switchGapStep dt => dt
  | .switchStatus dt _ _ => dt
  | .kennelStore dt _ => dt
  | .kennelStoreDone dt _ => dt
  | .dimMap dt _ => dt
  | .kennelRelease dt _ => dt
  | .inrushEnd dt _ => dt
  | .tripOverload dt _ _ => dt
  | .tripShort dt _ _ => dt
  | .thermalTurnOff dt _ => dt
  | .thermalRestart dt _ => dt
  | .shedTotal dt _ => dt
  | .clampEventEnd dt _ _ => dt
  | .openLoadProbe dt _ => dt
  | .openLoadVerdict dt _ _ => dt
  | .dimEdge dt _ _ => dt
  | .canFrameReceived dt _ _ _ _ => dt
  | .protocolException dt => dt
  | .canIntegrated dt => dt
  | .canError dt _ _ => dt
  | .busOffRecovery dt => dt
  | .canFrameSent dt _ _ => dt
  | .canStoppingDone dt => dt
  | .ringDrain dt _ => dt
  | .referenceSlotStart dt => dt
  | .followUpWithdraw dt => dt
  | .slotStart dt => dt
  | .slotGuardExpiry dt => dt
  | .busConfig dt _ => dt
  | .busSend dt _ => dt
  | .busRead dt _ => dt
  | .busFilter dt _ => dt
  | .busTime dt _ => dt
  | .gnssPower dt _ => dt
  | .basebandReady dt => dt
  | .acquire dt _ => dt
  | .captureStart dt => dt
  | .captureComplete dt _ => dt
  | .acquireDone dt _ _ => dt
  | .aiding dt _ => dt
  | .trackAssign dt _ => dt
  | .trackRelease dt _ => dt
  | .dumpClose dt _ _ _ => dt
  | .loopUpdate dt _ _ => dt
  | .bitSyncCountClear dt _ => dt
  | .cn0Estimate dt _ => dt
  | .reacqSearchRequest dt _ => dt
  | .reacqSearchDone dt _ _ _ _ _ => dt
  | .measurementEpoch dt => dt
  | .navRead dt _ => dt
  | .measRead dt _ => dt
  | .timeGet dt _ => dt
  | .timeSource dt _ => dt
  | .calendarSet dt _ => dt
  | .calendarGet dt _ => dt
  | .discipline dt _ => dt
  | .stepApply dt => dt
  | .sourceHoldover dt => dt
  | .leapSecond dt => dt
  | .calendarEnd dt => dt
  | .timeRecordSecond dt => dt
  | .ppsOutEdge dt => dt
  | .ppsOutTrailing dt => dt
  | .ppsInEdge dt _ _ => dt
  | .ppsConfig dt _ => dt
  | .logBurstStart dt _ _ => dt
  | .logBurstDone dt => dt
  | .logConfig dt _ => dt
  | .logMark dt _ => dt
  | .logRead dt _ => dt
  | .logReadDone dt => dt
  | .leashExpiry dt _ => dt
  | .processorLeashExpiry dt => dt
  | .syncTimeout dt _ _ _ _ => dt
  | .abortRelay dt _ _ => dt
  | .recallCollectDone dt _ _ _ => dt
  | .recallResume dt _ => dt
  | .autoRestart dt => dt
  | .faultnRecallEnd dt => dt
  | .recallConfig dt _ => dt
  | .recallRead dt _ _ => dt
  | .engineReset dt _ => dt
  | .abortJob dt _ => dt
  | .fwBegin dt _ => dt
  | .fwEraseDone dt => dt
  | .fwBlock dt _ => dt
  | .fwEnd dt _ => dt
  | .fwSwitch dt _ => dt
  | .stagePrepare dt _ => dt
  | .stagePrepareDone dt => dt
  | .stageCommitAt dt _ => dt
  | .stageArm dt _ => dt
  | .stageReadinessPoll dt => dt
  | .stageDecision dt => dt
  | .commit dt => dt
  | .stageConfirmRead dt => dt
  | .stageCommitTimeout dt => dt
  | .stagePersistDone dt _ => dt
  | .settlingEnd dt => dt
  | .stageAbandon dt _ => dt
  | .d2dAck dt _ _ => dt
  | .timeChangeAnnounce dt => dt
  | .mixedDecaySwitch dt _ => dt
  | .openLoadRecheck dt _ _ => dt
  | .mirjanConfigApply dt => dt
  | .supervisorRailLoss dt => dt
  | .supervisorRailReturn dt => dt
  | .vbatHighEnd dt => dt

/-- The state in which core 0 evaluates a request: the ticks have passed and the request has left its queue (R111). -/
def State.hears (s : State) (dt opc : Nat) (r : Request) : State := (s.elapse dt).unqueue opc r

/-- `a` is the state in which core 0 evaluates a request whose turn has come: no request of its source and class stands
before it, no urgent one before a bulk one, and no earlier detection record of its source and port (R114, R139). -/
def Heard (s : State) (dt opc : Nat) (r : Request) (a : State) : Prop :=
  a = s.hears dt opc r ∧ (s.elapse dt).turn opc r = true

/-- The part takes up a request: it carries out requests at all, the sender is a host or a device of the chain (R108),
the columns of R113 allow the class, the destination and FAULT, and the length lies between two bounds (checks 2 and 3
of R109). -/
abbrev Takes (a : State) (r : Request) (urgent bcast fault : Bool) (lo hi : Nat) : Prop :=
  a.dev.code ≠ .off ∧ a.dev.dead = none ∧ r.src.toNat ≤ 32 ∧ (r.urgent = true → urgent = true) ∧
  (r.dst = 62 → bcast = true) ∧ lo ≤ r.words.length ∧ r.words.length ≤ hi ∧ (a.dev.code = .fault → fault = true)

/-- Checks 3 and 4 of R109 pass: the length is one that the opcode permits, and no sender or device is one that R91, R105,
R216, R442, R451 or R453 answers NOT_MASTER. -/
def State.passes (a : State) (opc : Nat) (r : Request) : Bool :=
  let n := r.words.length
  (match opLengths opc with
    | some (lo, hi) => decide (lo ≤ n) && decide (n ≤ hi)
    | none => false) &&
  match opc with
  | 0x01 =>
    let x := fld (arg r 0) 5 0
    match fld (arg r 0) 47 40 with
    | 0 => if x = 1 then r.src == 0 else if 2 ≤ x ∧ x ≤ 32 then r.src == 1 else true
    | 1 => r.src == 0
    | _ => true
  | 0x07 => n % 2 == 0 && (r.src == 1 || (settings r.words).all fun x => !masterOnly x.id)
  | 0x09 => r.src == 0 && a.dev.master
  | 0x63 => n % 2 == 1 && decide (fld (arg r 0) 5 0 + (n - 1) / 2 ≤ 64)
  | 0x76 => n % 2 == 1
  | 0x93 => bit (arg r 0) 20 || fld (arg r 0) 17 16 != 1 || a.dev.master
  | 0xA2 => n == 2 || !bit (arg r 0) 9
  | _ => true

end Sys2Proof.Machine
end

