-- ==== Sys2Proof/Certificates/Slice0/Obligations.lean ====
section
/-! DEFINITION. The statements for the provers, family by family. Each says of the commands it names that they complete,
and with which next state. `a` is the state with the command's ticks passed; for a request, with the request out of its
queue as well. -/

open Sys2Proof Sys2Proof.Machine

/-- A step runs the command at the front of the queue. For every command, every rest of the queue and every state, the
step takes the command at the front and answers what exec answers on the state with the rest of the queue. That the
queue stands for the order of happenings is the model's (log entry 1). -/
def Obligations.StepTakesTheFrontCommand : Prop :=
  ∀ (s : State) (c : Instr) (rest : List Instr),
    step { s with pending := c :: rest } = exec c { s with pending := rest }

/-- Every core tick adds 2^32 + RHO to the disciplined time; with no command waiting one core tick passes. While the core
clock runs and no new rate waits, dt ticks add dt times 2^32 + RHO to E, N and PHI together, modulo 2^96, count clk and
the core ticks by dt, advance the mirror of every Quill that has its forwarded clock by dt, and change no other part of
the state but the emissions of the last command; while the clock does not run the time base stands. That time passes
with the commands is the model's (log entry 1). On an empty queue the step answers the state one tick later. That a step
idles by one tick is the model's choice (log entry 1). -/
def Obligations.TicksMoveTheTimeBase : Prop :=
  (∀ (s : State) (dt : Nat),
    (s.clockRuns = true → s.time.rhoNext = [] →
      (s.elapse dt).fine = (s.fine + (dt : Int) * (2 ^ 32 + s.time.rho)) % 2 ^ 96 ∧
      (s.elapse dt).time.core = s.time.core + dt ∧ (s.elapse dt).time.rho = s.time.rho ∧
      (s.elapse dt).vlv.quill0 = (if s.vlv.quill0.stopped then s.vlv.quill0 else
        { s.vlv.quill0 with mirror := s.vlv.quill0.mirror + BitVec.ofNat 48 dt }) ∧
      (s.elapse dt).vlv.quill1 = (if s.vlv.quill1.stopped then s.vlv.quill1 else
        { s.vlv.quill1 with mirror := s.vlv.quill1.mirror + BitVec.ofNat 48 dt })) ∧
    (s.clockRuns = false → (s.elapse dt).fine = s.fine ∧ (s.elapse dt).time.core = s.time.core ∧
      (s.elapse dt).time.rho = s.time.rho ∧ (s.elapse dt).vlv = s.vlv) ∧
    (s.elapse dt).clk = s.clk + dt ∧ (s.elapse dt).out = [] ∧
    s.elapse dt = { s with out := [], clk := s.clk + dt, time := (s.elapse dt).time, vlv := (s.elapse dt).vlv }) ∧
  (∀ s : State, s.pending = [] → step s = .next (s.elapse 1))

/-- No command stops the part, and none touches the waiting commands. For every command with every operand and for every
state there is a next state, the commands that wait stay as they are, and the clock has counted exactly the ticks of
the command. A rejection, a fault condition and the entry into OFF or FAULT are next states. The clock of the model is
log entry 1. -/
def Obligations.EveryCommandCompletes : Prop :=
  ∀ (c : Instr) (s : State),
    Ends c s fun t => t.pending = s.pending ∧ t.clk = s.clk + ticksOf c

/-- Who is heard, and check 2 of every opcode. For every request command but DETECT: while the part is OFF or its Scribe is treated as
dead, the request waits and nothing changes but the time; so it does behind an earlier request of its source and class;
in its turn, a request with a SRC above 32 is discarded and counted in DISCARDED; an urgent request whose opcode reads
No in the column Urgent of R113 is answered BAD_PARAM with DETAIL FF00h; otherwise a broadcast request whose opcode reads
No in the column Broadcast is answered BAD_PARAM with DETAIL FF2Ah; and nothing else changes. DETECT, which the link engine
takes at its arrival, does nothing in OFF and while the supply or the clock is lost or the LINK job is recalled; a SRC above
32 is counted in DISCARDED, and an urgent DETECT is answered BAD_PARAM with DETAIL FF00h. That a request waits while the part
does not answer, and behind an earlier one, is the model's reading (log entries 1 and 56). -/
def Obligations.RequestsPassTheFirstChecks : Prop :=
  (∀ (c : Instr) (s : State) (row : Row) (r : Request), reqOf c = some (row, r) → row.opc ≠ 0x20 →
    ((s.elapse (ticksOf c)).answers = false → exec c s = .next (s.elapse (ticksOf c))) ∧
    ((s.elapse (ticksOf c)).turn row.opc r = false → exec c s = .next (s.elapse (ticksOf c))) ∧
    ∀ a, Heard s (ticksOf c) row.opc r a →
      (a.answers = true → 32 < r.src.toNat → exec c s = .next (a.count 0x45 true 1)) ∧
      (a.answers = true → r.src.toNat ≤ 32 →
        (r.urgent = true → row.urgent = false → exec c s = .next (a.reply row.opc r .badParam 0 0xFF00 [])) ∧
        ((r.urgent = true → row.urgent = true) → r.dst = 62 → row.bcast = false →
          exec c s = .next (a.reply row.opc r .badParam 0 0xFF2A [])))) ∧
  (∀ (s : State) (dt : Nat) (r : Request), let a := s.elapse dt
    (a.takesRecords = false ∨ a.frozen 4 = true → exec (.detect dt r) s = .next a) ∧
    (a.takesRecords = true → a.frozen 4 = false →
      (32 < r.src.toNat → exec (.detect dt r) s = .next (a.count 0x45 true 1)) ∧
      (r.src.toNat ≤ 32 → r.urgent = true → exec (.detect dt r) s = .next (a.reply 0x20 r .badParam 0 0xFF00 []))))

/-- In FAULT an opcode whose FAULT column reads No changes nothing. For every request command whose opcode reads No in the
column FAULT of R113, heard in its turn from a SRC up to 32 in FAULT: the next state is the state before with one reply, a
rejection. A request that passes checks 2 and 3 and whose opcode has no check for being at the master is answered BAD_STATE
with the code of FAULT. The records of a DETECT of permitted length are counted in DETECT_DROPPED, and the first DETECT of a
source is answered BAD_STATE with that code, nothing else changing but the numbers of the records. -/
def Obligations.FaultAnswersOnlyItsColumn : Prop :=
  (∀ (c : Instr) (s : State) (row : Row) (r : Request), reqOf c = some (row, r) → row.fault = false → row.opc ≠ 0x20 →
    ∀ a, Heard s (ticksOf c) row.opc r a → a.dev.code = .fault → a.dev.dead = none → r.src.toNat ≤ 32 →
      (∃ (st : Status) (d : Nat), 0x10 ≤ st.num ∧ exec c s = .next (a.reply row.opc r st 0 d [])) ∧
      ((r.urgent = true → row.urgent = true) → (r.dst = 62 → row.bcast = true) → a.passes row.opc r = true →
        exec c s = .next (a.reply row.opc r .badState 0 a.dev.code.num []))) ∧
  (∀ (s : State) (dt n : Nat) (r : Request), let a := s.elapse dt
    a.dev.code = .fault → a.dev.dead = none → a.frozen 4 = false → r.src.toNat ≤ 32 → r.urgent = false →
    r.words.length = 3 * n → 1 ≤ n → n ≤ 85 → tget a.hnd.detectAt r.src.toNat = none →
    let b := ({ a with nib := { a.nib with recs := a.nib.recs + n } } : State).markPacket r a.nib.recs (a.nib.recs + n)
    exec (.detect dt r) s = .next (({ b.count 0x204 false n with
      hnd := { a.hnd with detectAt := tset a.hnd.detectAt r.src.toNat (word a.clk) } } : State).reply 0x20 r .badState 0
        a.dev.code.num []))

/-- With both supplies valid and RESET_N high the part leaves OFF. In OFF, SUPPLY_VALID with RESET_N high, and
RESET_N_RISE with both supplies valid, VBAT not low since it last rose above 16.5 V, and the 10 ms of the Ferrule's own
reset run, lead to STARTING with START_STEP
1; the store, the time base and the firmware stay. After VBAT was low the part stays in OFF until VBAT has risen. -/
def Obligations.StartBegins : Prop :=
  ∀ (s : State) (dt : Nat), let a := s.elapse dt
    a.dev.code = .off →
    (a.power.resetExt = false → a.power.resetOwn = none →
      Ends (.supplyValid dt) s fun t => t.dev = { a.dev with code := .starting, startStep := 1, stepAt := a.clk, dead := none } ∧
        t.power.vbatOk = true ∧ t.power.vioOk = true ∧ t.power.faultNStart = true ∧ t.par.store = a.par.store ∧
        t.time = a.time ∧ t.clocks = a.clocks ∧ t.fw = a.fw ∧ t.regs = a.regs ∧ t.log.ring = a.log.ring) ∧
    (a.power.vbatOk = true → a.power.below165 = false → a.power.vioOk = true → (∀ x ∈ a.power.resetOwn, x + 1000000 ≤ a.clk) →
      Ends (.resetNRise dt) s fun t => t.dev = { a.dev with code := .starting, startStep := 1, stepAt := a.clk, dead := none } ∧
        t.power.resetExt = false ∧ t.power.resetOwn = none ∧ t.par.store = a.par.store ∧
        t.time = a.time ∧ t.clocks = a.clocks ∧ t.fw = a.fw) ∧
    (a.power.below165 = true → exec (.resetNRise dt) s = .next { a with power := { a.power with
      resetExt := false, resetOwn := a.power.resetOwn.filter fun x => decide (a.clk < x + 1000000) } })

/-- Supply loss and RESET_N low lead to OFF with everything off. From any state but OFF, RESET_N_LOW, VBAT_LOSS and
VIO_LOSS lead to OFF: every load switch is off, every valve channel holds no ARM and no pulse, and a coil that was driven
decays fast, every handle is free, the cause and the PRIOR
bits are recorded by the dies that keep power, and the parameter store and the firmware images stay. RESET_N_LOW
records 02h, or 03h when the Ferrule of a device joined to the pin drives it, VBAT_LOSS 05h, VIO_LOSS 04h. -/
def Obligations.OffSwitchesEverythingOff : Prop :=
  ∀ (s : State) (dt : Nat), let a := s.elapse dt
    a.dev.code ≠ .off →
    let off (t : State) : Prop := t.dev = { State.reset.dev with code := .off, startStep := 0 } ∧
      (∀ v : Valve, t.vlv.chans[v] = { drive := if a.vlv.chans[v].drive = .off then .off else .fast }) ∧
      (∀ n : Sw, t.sw.ch[n] = {}) ∧ t.hnd = {} ∧ t.nib = {} ∧
      t.stage = {} ∧ t.par.store = a.par.store ∧ t.fw = { a.fw with load := none }
    let cause (n : Nat) : Option (Bool × Bool × Nat) := some (a.dev.code == .fault, a.d2d.ferruleAllOff, n)
    (∀ joined : Bool, Ends (.resetNLow dt joined) s fun t => off t ∧ t.power.resetExt = true ∧
      t.power.causeScribe = cause (if joined then 3 else 2) ∧ t.power.causeFerrule = cause (if joined then 3 else 2) ∧ t.d2d.ferruleAllOff = false ∧ t.vlv.quill0.allOff = false ∧
      t.vlv.quill1.allOff = false) ∧
    Ends (.vbatLoss dt) s (fun t => off t ∧ t.power.vbatOk = false ∧ t.power.below165 = true ∧ t.power.causeScribe = cause 5) ∧
    Ends (.vioLoss dt) s (fun t => off t ∧ t.power.vioOk = false ∧ t.power.causeFerrule = cause 4 ∧
      t.power.causeScribe = none ∧ t.d2d.ferruleAllOff = true ∧ t.vlv.quill0.allOff = true ∧ t.vlv.quill1.allOff = true)

/-- VBAT above 34 V sets VBAT_HIGH and changes nothing else. VBAT_HIGH completes in the state with the flag VBAT_HIGH set
and every other part of the state as it was. -/
def Obligations.VbatHighIsShown : Prop :=
  ∀ (s : State) (dt : Nat), let a := s.elapse dt
    exec (.vbatHigh dt) s = .next { a with power := { a.power with vbatHigh := true } } ∧
    bit ({ a with power := { a.power with vbatHigh := true } } : State).regHealth 16 = true

/-- Undervoltage, its count, the supervisor rail; loss and return of the reference, and the capture of the time bridge.
Outside OFF, VBAT_LOW sets VBAT_LOW, stops every boost and starts the undervoltage count unless it runs; VBAT_RECOVER
ends the count after 100 us and above 16.5 V clears VBAT_LOW and lets the boosts resume that are started and do not lie
above their target; VBAT_UV enters FAULT with bit 4 when the count has reached 2 ms; VBAT_HIGH_END clears its flag;
SUPERVISOR_RAIL_LOSS and SUPERVISOR_RAIL_RETURN switch the Ferrule's supervisor rail. REFERENCE_LOSS starts the holdover
of the PLL; REFERENCE_RETURN within HOLDOVER_LIMIT ends it; HOLDOVER_LIMIT_EXPIRY enters FAULT with bit 5. BRIDGE_EPOCH,
once, in the tick that reaches an instant divisible by 100,000, stores that instant, the sample count with the edges of
RF_CLK since the last capture, the delta and STEPPED, which tells whether a step came since the last capture. A sample counter that stands goes on standing unless edges came
after the moment from which it stands (the model's reading, log entry 48). -/
def Obligations.SupplyWatchesAct : Prop :=
  (∀ (s : State) (dt : Nat), let a := s.elapse dt
    (a.dev.code ≠ .off → Ends (.vbatLow dt) s fun t =>
      t = { a with power := { a.power with vbatLow := true, below165 := true, uvSince := t.power.uvSince }, vlv := t.vlv } ∧
      t.power.uvSince = (match a.power.uvSince with | some x => some x | none => some a.clk) ∧
      t.vlv = { a.vlv with banks := t.vlv.banks } ∧
      ∀ b : Bank, t.vlv.banks[b] = { a.vlv.banks[b] with switching := false }) ∧
    (a.dev.code = .off → exec (.vbatLow dt) s = .next { a with power := { a.power with below165 := true } }) ∧
    (∀ (above : Bool) (stay : Nat), a.dev.code ≠ .off → Ends (.vbatRecover dt above stay) s fun t =>
      t = { a with power := { a.power with
          vbatLow := t.power.vbatLow, below165 := t.power.below165, uvSince := t.power.uvSince }, vlv := t.vlv } ∧
      t.power.vbatLow = (if above then false else a.power.vbatLow) ∧
      t.power.below165 = (if above then false else a.power.below165) ∧
      t.power.uvSince = (if 10000 ≤ stay then none else a.power.uvSince) ∧
      t.vlv = { a.vlv with banks := t.vlv.banks } ∧
      ∀ b : Bank, t.vlv.banks[b].switching = (if above then a.vlv.banks[b].phase != .idle &&
          a.vlv.banks[b].phase != .failed && decide (a.vlv.banks[b].v ≤ a.vlv.banks[b].target * 8)
        else a.vlv.banks[b].switching) ∧
        t.vlv.banks[b].ready = a.vlv.banks[b].ready ∧ t.vlv.banks[b].en = a.vlv.banks[b].en ∧
        t.vlv.banks[b].target = a.vlv.banks[b].target ∧ t.vlv.banks[b].v = a.vlv.banks[b].v) ∧
    (∀ x, a.power.uvSince = some x → x + 200000 ≤ a.clk → exec (.vbatUv dt) s = .next (a.enterFault 4)) ∧
    exec (.vbatHighEnd dt) s = .next { a with power := { a.power with vbatHigh := false } } ∧
    exec (.supervisorRailLoss dt) s = .next { a with power := { a.power with supervisor := false, causeFerrule := none } } ∧
    exec (.supervisorRailReturn dt) s = .next { a with power := { a.power with supervisor := true } }) ∧
  (∀ (s : State) (dt : Nat), let a := s.elapse dt
    (a.clocks.locked = true → a.clocks.holdSince = none →
      exec (.referenceLoss dt) s = .next { a with clocks := { a.clocks with holdSince := some a.clk } }) ∧
    (∀ x, a.clocks.holdSince = some x → a.clk < x + a.bootf 0x25 9 0 * 100000 →
      exec (.referenceReturn dt) s = .next { a with clocks := { a.clocks with holdSince := none } }) ∧
    (∀ x, a.clocks.holdSince = some x → x + a.bootf 0x25 9 0 * 100000 ≤ a.clk →
      exec (.holdoverLimitExpiry dt) s = .next (a.enterFault 5)) ∧
    (∀ (edges : BitVec 48) (delta : Fin 13), a.clockRuns = true → a.time.prev < epochOf a.full →
      (a.clocks.captures = 0 ∨ a.clocks.capAt ≠ a.clk) →
      Ends (.bridgeEpoch dt edges delta) s fun t => t = { a with clocks := { a.clocks with
        epoch := BitVec.ofInt 48 (epochOf a.full), sample := a.clocks.sample + edges, delta := delta.val,
        stepped := a.clocks.stepSince, stepSince := false, captures := a.clocks.captures + 1, capAt := a.clk,
        start := none, still := t.clocks.still } } ∧
        t.clocks.still = a.clocks.still.bind fun y => if a.edgesBefore y < (edges.toNat : Rat) then none
          else some (epochOf a.full * 1000 - (delta.val * 500 : Nat), a.clk)) ∧
    (∀ (edges : BitVec 48) (delta : Fin 13), 0 < a.clocks.captures → a.clocks.capAt = a.clk →
      exec (.bridgeEpoch dt edges delta) s = .next a))

/-- What the entry into FAULT leaves. From a working, unaddressed or starting state of a living part, enterFault sets the
named bit of FAULTS and its number in FIRST, the state is FAULT, no job runs, no held SORT_START stays, the log has begun
(R401; that it begins in FAULT too is log entry 20), and once the die-to-die links are trained no valve bank is enabled and
the Kennel states are entered; before that KENNEL shows ACTIVE 0 (log entry 61). The one scheduled event of the Inkwell, not
yet armed and not at its arming point, retires CANCELLED as by a forced BANK_DISABLE, with its completion, in a reporting mode
that reports it; an armed one does so too, and a CUT goes to its Quill. In FAULT only the bit is added, and FIRST becomes
the lower number when the part entered FAULT in this tick; in OFF, and while the Scribe is treated as dead, nothing
changes. -/
def Obligations.FaultIsEntered : Prop :=
  ∀ (a : State) (b : Nat),
    (a.dev.code ≠ .off → a.dev.code ≠ .fault → a.dev.dead = none →
      (a.enterFault b).dev.code = .fault ∧ (a.enterFault b).dev.job = 0 ∧ (a.enterFault b).dev.heldStarts = [] ∧
      (a.enterFault b).faults = { a.faults with
        bits := a.faults.bits ||| BitVec.ofNat 8 (2 ^ b), first := BitVec.ofNat 8 b, enteredAt := some a.clk } ∧
      (a.enterFault b).dev.addr = a.dev.addr ∧ (a.enterFault b).log.started = true ∧
      (a.dev.linksUp = true → (a.enterFault b).bankEn = 0 ∧ (a.enterFault b).kennel.active = true) ∧
      (a.dev.linksUp = false → (a.enterFault b).kennel = { stored := a.kennel.stored }) ∧
      (∀ (e : Event) (l : Live), a.dev.linksUp = true → a.nib.events = [e] → e.carrier = none → a.hnd.ej.live = [l] →
        l.id = e.id → isEj e.id = true → a.nib.aborted = [] → a.mode = 0 ∨ a.mode = 1 →
        (e.st = .pending ∧ a.due e = false ∧ l.st = .accepted ∨ e.st = .waiting ∧ l.st = .accepted ∨
          e.st = .armed ∧ l.st = .armed) →
        (a.enterFault b).nib.events.map (fun x => (x.id, x.st, x.final, x.wasArmed)) =
          [(e.id, .retiring, some .cancelled, e.st == .armed || e.wasArmed)] ∧
        (∃ c ∈ (a.enterFault b).hnd.queue, c.handle = some e.id ∧ c.dst = l.dst ∧ fld (c.words.headD 0) 47 40 = 3) ∧
        (e.st = .armed → ∃ w ∈ (a.enterFault b).d2d.wait, w.link = linkOf (quillOf (bankOf e.valve)) ∧
          w.msg = .cut 0xFFFFFFFF))) ∧
    (a.dev.code = .fault → a.dev.dead = none →
      a.enterFault b = { a with faults := { a.faults with
        bits := a.faults.bits ||| BitVec.ofNat 8 (2 ^ b)
        first := if a.faults.enteredAt = some a.clk then BitVec.ofNat 8 (min a.faults.first.toNat b) else a.faults.first } }) ∧
    (a.dev.code = .off ∨ a.dev.dead ≠ none → a.enterFault b = a)

/-- The first four steps of the staggered start; training of the links and the check of the switches. In STARTING,
RAILS_VALID ends step 1a; REFERENCE_SELECT takes REFIN, or the crystal 2 ms after the rails, once; PLL_LOCK starts
REFOUT and ends step 1b; FIRMWARE_CHECK goes on with the active image, with the other one if only that passes, and
else enters FAULT with FW_IMAGE, and with it the Leash of the command processor starts; SRAM_CLEAR empties the recall
slots, sets the scrubber to the first word and records whether the external memory answered.
In start step 5, D2D_TRAINING loads both mirrors with N, notes the first HEARTBEAT at every die, sends it and TRAIN on
both ports; in step 6 START_OPEN_LOAD_CHECK sets SHORT_VBAT and OPEN_LOAD of the channels whose OL_CHECK is 1 from the
two samples, leaves the others, and FAULT_N is no longer held for the start; that the next check of such a channel begins 89 ms later
is the model's reading (log entry 67), and so is the moment from which the command processor's Leash runs (log entry 57). -/
def Obligations.StartStepsFollow : Prop :=
  (∀ (s : State) (dt : Nat), let a := s.elapse dt
    let next (t : State) (n : Nat) : State := { t with dev := { t.dev with startStep := n, stepAt := t.clk } }
    a.dev.code = .starting → a.dev.restart = 0 →
    (a.dev.startStep = 1 → exec (.railsValid dt) s = .next (next a 2)) ∧
    (∀ refin : Bool, a.dev.startStep = 2 → a.clocks.selected = false → (refin = true ∨ a.dev.stepAt + 200000 ≤ a.clk) →
      exec (.referenceSelect dt refin) s = .next { a with clocks := { a.clocks with selected := true, refin } }) ∧
    (a.dev.startStep = 2 → a.clocks.selected = true → a.clocks.locked = false →
      exec (.pllLock dt) s = .next (next { a with clocks := { a.clocks with locked := true, refout := true } } 3)) ∧
    (a.dev.startStep = 3 → ∀ other : Bool, exec (.firmwareCheck dt true other) s = .next ((next a 4).wake 9 false)) ∧
    (a.dev.startStep = 3 →
      exec (.firmwareCheck dt false true) s = .next ((next { a with fw := { a.fw with active := !a.fw.active } } 4).wake 9 false)) ∧
    (a.dev.startStep = 3 → exec (.firmwareCheck dt false false) s = .next ((a.enterFault 3).wake 9 false)) ∧
    (∀ ok : Bool, a.dev.startStep = 4 → exec (.sramClear dt ok) s = .next (next { a with
      log := { a.log with xspiOk := ok }, dog := { a.dog with slots := Vector.replicate 8 {} },
      d2d := { a.d2d with scrubPos := 0, scrubAt := none } } 5))) ∧
  (∀ (s : State) (dt : Nat), let a := s.elapse dt
    a.dev.code = .starting →
    (a.dev.startStep = 5 → Ends (.d2dTraining dt) s fun t =>
      t.dev = { a.dev with startStep := 6, stepAt := a.clk, linksUp := true } ∧
      t.vlv.quill0.mirror = a.time.n ∧ t.vlv.quill1.mirror = a.time.n ∧
      t.vlv.quill0.heardAt = some a.clk ∧ t.vlv.quill1.heardAt = some a.clk ∧ t.d2d.ferruleHeard = some a.clk ∧
      t.up = { a.up with state := .training 1, trainAt := a.clk } ∧
      t.down = { a.down with state := .training 1, trainAt := a.clk } ∧
      t.out = a.out ++ [.heartbeat a.time.n, .train .up 1, .train .down 1] ∧
      t.hnd = a.hnd ∧ t.par = a.par ∧ t.sw = a.sw ∧ t.power = a.power) ∧
    (∀ h1 h2 : BitVec 16, a.dev.startStep = 6 → Ends (.startOpenLoadCheck dt h1 h2) s fun t =>
      t.power = { a.power with faultNStart := false } ∧
      (t.dev.startStep = 7 ∨ t.dev.startStep = 8) ∧ t.dev.code = .starting ∧
      (∀ n : Sw, t.sw.ch[n] =
        if a.pf (0x2000 + n.val) 15 15 = 1 then
          { a.sw.ch[n] with shortVbat := h1.getLsbD n.val && h2.getLsbD n.val,
                            openLoad := h1.getLsbD n.val && !h2.getLsbD n.val, checkAt := a.clk + 8900000 }
        else a.sw.ch[n]) ∧
      t.vlv = a.vlv ∧ t.hnd = a.hnd ∧ t.par = a.par))

/-- A bank's start: precharge, soft start, regulation or failure. In start step 7, a bank of BANK_START that is idle and
whose predecessors have settled and began at least 20 ms before begins its precharge with the target of the start;
precharge leads to soft start; after 500 us within 2 % of its target the bank is ready and its valves are enabled; 100 ms
after it began without regulation it has failed, and its valves stay disabled. -/
def Obligations.BoostsStartOneByOne : Prop :=
  ∀ (s : State) (dt : Nat) (b : Bank), let a := s.elapse dt
    let k := a.vlv.banks[b]
    a.dev.code = .starting → a.dev.startStep = 7 →
    ((a.bootf 0x24 3 0).testBit b.val = true → k.phase = .idle →
      (∀ c : Bank, c < b → (a.bootf 0x24 3 0).testBit c.val = true →
        (a.vlv.banks[c].phase = .regulated ∨ a.vlv.banks[c].phase = .failed) ∧ a.vlv.banks[c].beganAt + 2000000 ≤ a.clk) →
      exec (.boostBankBegin dt b) s = .next (a.modBank b fun k => ({ k with
        phase := .precharge, beganAt := a.clk, target := a.bootf (0x1010 + b.val) 47 36 } : BankSt).track a.clk
          a.power.vbatLow)) ∧
    (k.phase = .precharge →
      exec (.boostPrechargeDone dt b) s = .next (a.modBank b fun k => { k with phase := .softStart })) ∧
    (∀ x, k.phase = .softStart → k.bandAt = some x → x + 50000 ≤ a.clk → Ends (.boostRegulation dt b) s fun t =>
      t.vlv = (a.modBank b fun k => { k with phase := .regulated, ready := true, en := true }).vlv ∧
      (t.dev.startStep = 7 ∨ t.dev.startStep = 8) ∧ t.sw = a.sw ∧ t.hnd = a.hnd ∧ t.par = a.par) ∧
    (k.phase = .precharge ∨ k.phase = .softStart → k.beganAt + 10000000 ≤ a.clk → Ends (.boostStartFail dt b) s fun t =>
      t.vlv = (a.modBank b fun k => { k with phase := .failed, startFail := true, switching := false }).vlv ∧
      (t.dev.startStep = 7 ∨ t.dev.startStep = 8) ∧ t.sw = a.sw ∧ t.hnd = a.hnd ∧ t.par = a.par)

/-- Load switches of the start, and its end. In start step 8, START_SWITCH_ON switches the next channel on its list on
with an inrush window, the first at once and each later one a START_INTERVAL after the one before; with no channel set, or
the last one's interval and inrush window over, STARTING_COMPLETE leads to UNADDRESSED, starts the log and drives RF_EN as
RF_AT_START (0024h bit 4) says. -/
def Obligations.StartSwitchesAndEnds : Prop :=
  ∀ (s : State) (dt : Nat), let a := s.elapse dt
    a.dev.code = .starting → a.dev.startStep = 8 →
    (∀ (n : Sw) (r : List Sw), a.dev.startList = n :: r →
      (a.dev.startSw = none ∨ a.dev.startLast + a.bootf 0x23 9 0 * 100000 ≤ a.clk) →
      a.d2d.ferruleHeard ≠ none → a.d2d.ferruleAllOff = false → a.sw.ch[n].st = .off →
      exec (.startSwitchOn dt) s = .next { a with
        sw := { a.sw with ch := a.sw.ch.set n { a.sw.ch[n] with
          commanded := true, st := .inrush, inrushAt := some a.clk, openLoad := false, shortVbat := false,
          probing := false } }
        dev := { a.dev with startList := r, startLast := a.clk, startSw := some n } }) ∧
    (a.dev.startList = [] → (a.bootf 0x20 15 0 = 0 ∨ a.dev.startLast + a.bootf 0x23 9 0 * 100000 ≤ a.clk ∧
        ∀ n : Sw, a.dev.startSw = some n → a.sw.ch[n].inrushAt ≠ some a.dev.startLast) →
      Ends (.startingComplete dt) s fun t =>
        t.dev = { a.dev with code := .unaddressed, startStep := 0 } ∧ t.log.started = true ∧
        t.power = { a.power with rfEn := a.bootf 0x24 4 4 = 1 } ∧ t.sw = a.sw ∧ t.time = a.time ∧ t.hnd = a.hnd)

/-- ARM, CUT, SHAPE, ADJUST and STEP at a Quill; a change on its tick moves the mirror and the armed pulses. A Quill that
has had its HEARTBEAT and is not all-off holds an ARM for a channel that is not latched while the die is not hot, last
in the channel's list, and refuses it for a latched channel with an OFF report VALVE_FAULT, diagnostic 6; CUT drops
the held ARMs of every channel it names and turns a driven coil to fast decay, and leaves the other channels; SHAPE
writes the row of the named set; ADJUST and STEP are kept for their tick. MIRROR_ADJUST with one step announced to
Quill 0, whose tick its mirror has reached, and nothing announced to Quill 1, adds the amount to the mirror of Quill
0, moves the instants of every ARM that a channel of Quill 0 holds by it, leaves Quill 1 and its channels, and takes
the step off the list; a step still to come is left. -/
def Obligations.QuillTakesFrames : Prop :=
  (∀ (s : State) (dt : Nat) (q : Fin 2), let a := s.elapse dt
    (∀ f : ArmFrame, quillOf (bankOf f.valve) = q → (a.quill q).allOff = false → (a.quill q).heardAt ≠ none →
      (a.vlv.chans[f.valve].latched = false → (a.quill q).hot = false →
        exec (.arm dt q f) s = .next (a.modChan f.valve fun c => { c with held := c.held ++ [f] })) ∧
      (a.vlv.chans[f.valve].latched = true →
        exec (.arm dt q f) s = .next (a.report q (.off
          { valve := f.valve, handle := f.handle, recovered := 0, diag := 6, outcome := .valveFault, samples := [] })))) ∧
    (∀ mask : BitVec 32, Ends (.cut dt q mask) s fun t =>
      (∀ v : Valve, quillOf (bankOf v) = q → mask.getLsbD (v.val % 32) = true →
        t.vlv.chans[v].held = [] ∧
        (a.vlv.chans[v].driven = true → t.vlv.chans[v].drive = .fast) ∧ t.vlv.chans[v].driven = false) ∧
      (∀ v : Valve, quillOf (bankOf v) ≠ q ∨ mask.getLsbD (v.val % 32) = false → t.vlv.chans[v] = a.vlv.chans[v]) ∧
      t.vlv.banks = a.vlv.banks ∧ t.sw = a.sw ∧ t.hnd = a.hnd ∧ t.par = a.par ∧ t.nib = a.nib) ∧
    (∀ (set : Bool) (row : Fin 8) (value : Word), row.val < (if set then (a.quill q).shapes1 else (a.quill q).shapes0).length →
      Ends (.shape dt q set row value) s fun t =>
        (if set then (t.quill q).shapes1 else (t.quill q).shapes0)[row.val]? = some value ∧
        (∀ j : Nat, j ≠ row.val → (if set then (t.quill q).shapes1 else (t.quill q).shapes0)[j]? =
          (if set then (a.quill q).shapes1 else (a.quill q).shapes0)[j]?) ∧
        t.vlv.chans = a.vlv.chans ∧ t.vlv.banks = a.vlv.banks ∧ t.vlv.valves = a.vlv.valves) ∧
    (∀ (delete : Bool) (at_ : Int), exec (.adjust dt q delete at_) s = .next
      (a.modQuill q fun k => { k with adjusts := k.adjusts ++ [(delete, at_)] })) ∧
    (∀ amount at_ : Int, exec (.d2dStep dt q amount at_) s = .next
      (a.modQuill q fun k => { k with steps := k.steps ++ [(amount, at_)] }))) ∧
  (∀ (s : State) (dt : Nat) (x at_ : Int), let a := s.elapse dt
    a.vlv.quill0.adjusts = [] → a.vlv.quill0.steps = [(x, at_)] → a.vlv.quill1.adjusts = [] → a.vlv.quill1.steps = [] →
    ((a.vlv.quill0.mirror - BitVec.ofInt 48 at_).toNat < 2 ^ 47 → Ends (.mirrorAdjust dt) s fun t =>
      t.vlv.quill0 = { a.vlv.quill0 with mirror := a.vlv.quill0.mirror + BitVec.ofInt 48 x, steps := [] } ∧
      t.vlv.quill1 = a.vlv.quill1 ∧
      (∀ v : Valve, v.val < 32 → t.vlv.chans[v].held = a.vlv.chans[v].held.map fun f =>
        { f with cOn := f.cOn + x, cOff := f.cOff + x }) ∧
      (∀ v : Valve, v.val < 32 → t.vlv.chans[v].drive = a.vlv.chans[v].drive ∧
        t.vlv.chans[v].latched = a.vlv.chans[v].latched) ∧
      t = { a with vlv := { a.vlv with quill0 := t.vlv.quill0, chans := t.vlv.chans } }) ∧
    (2 ^ 47 ≤ (a.vlv.quill0.mirror - BitVec.ofInt 48 at_).toNat → Ends (.mirrorAdjust dt) s fun t =>
      t.vlv.quill0 = a.vlv.quill0 ∧ t.vlv.quill1 = a.vlv.quill1))

/-- Acknowledgement, repetition and failure of a die-to-die frame; heartbeats. D2D_ACK takes the oldest waiting frame of
that content off the list; a third failed CRC of a Quill's frame, and 4 us without acknowledgement of a frame of the
Scribe, enter FAULT with D2D_LINK, bit 1; a failed HEARTBEAT changes nothing. HEARTBEAT_SEND sends N every 100 us; a
HEARTBEAT restarts the watch of its die, and one that differs from a Quill's mirror enters FAULT with MIRROR_SLIP, bit
2; a Quill whose forwarded clock has stopped receives none. -/
def Obligations.DieLinksAreWatched : Prop :=
  ∀ (s : State) (dt : Nat), let a := s.elapse dt
    (∀ (link : Fin 3) (m : D2dMsg) (w : D2dWait) (r : List D2dWait),
      a.d2d.wait = w :: r → w.link = link → w.msg = m →
      exec (.d2dAck dt link m) s = .next { a with d2d := { a.d2d with wait := r } } ∧
      (w.sentAt + 400 ≤ a.clk → watched m = true → exec (.d2dAckTimeout dt link m) s = .next
        (({ a with d2d := { a.d2d with wait := a.d2d.wait.filter fun w => !w.is link m } } : State).enterFault 1)) ∧
      (w.fails = 2 → fromQuill m = true → exec (.d2dCrcFail dt link m) s = .next
        (({ a with d2d := { a.d2d with wait := a.d2d.wait.filter fun w => !w.is link m } } : State).enterFault 1)) ∧
      (w.fails < 2 → watched m = true ∨ fromQuill m = true → Ends (.d2dCrcFail dt link m) s fun t =>
        t = { a with d2d := { a.d2d with wait := t.d2d.wait } } ∧
        t.d2d.wait.head? = some { w with fails := w.fails + 1 })) ∧
    (∀ (link : Fin 3) (x : BitVec 48), exec (.d2dCrcFail dt link (.heartbeat x)) s = .next a) ∧
    (a.dev.linksUp = true → a.clockRuns = true → a.dev.dead ≠ some .hung → a.d2d.beatAt + 10000 ≤ a.clk →
      exec (.heartbeatSend dt) s = .next { a with
        d2d := { a.d2d with beatAt := a.clk }, out := a.out ++ [.heartbeat a.time.n] }) ∧
    (∀ x : BitVec 48, exec (.heartbeat dt 2 x) s = .next { a with d2d := { a.d2d with ferruleHeard := some a.clk } }) ∧
    (a.vlv.quill0.stopped = false → exec (.heartbeat dt 0 a.vlv.quill0.mirror) s = .next { a with vlv := { a.vlv with
      quill0 := { a.vlv.quill0 with heardAt := some a.clk } } }) ∧
    (∀ x : BitVec 48, a.vlv.quill1.stopped = true → exec (.heartbeat dt 1 x) s = .next a) ∧
    (∀ x : BitVec 48, a.vlv.quill1.stopped = false → a.vlv.quill1.mirror ≠ x → exec (.heartbeat dt 1 x) s = .next
      (({ a with vlv := { a.vlv with quill1 := { a.vlv.quill1 with heardAt := some a.clk } } } : State).enterFault 2))

/-- All-off: every coil and every switch. A HEARTBEAT watch that has run for 0.95 ms, the loss of the Scribe's supply and
a stopped forwarded clock lead, outside OFF, to all-off: no load switch is commanded, no channel is driven or holds an
ARM, the latch is set in the Ferrule and in both Quills and the all-off line is driven. SCRIBE_RESUME after a stop that
the Scribe outlived, of its processor or of the core clock, clears the mark of death and enters FAULT with
ALL_OFF_LATCHED, bit 6, and after a stopped clock the ports train again; a hung command processor does not resume, and a
lost supply stands over a stopped clock (the model's reading, log entry 58). A Scribe that lost its core supply has lost its state: it runs steps 1b and 1c again, with a new selection of
the reference, and then enters FAULT. -/
def Obligations.ScribeDeathSwitchesOff : Prop :=
  ∀ (s : State) (dt : Nat), let a := s.elapse dt
    let allOff (t : State) : Prop := (∀ n : Sw, t.sw.ch[n].commanded = false ∧ (t.sw.ch[n].st = .off ∨
        t.sw.ch[n].st.latched = true)) ∧ (∀ v : Valve, t.vlv.chans[v].held = [] ∧ t.vlv.chans[v].driven = false) ∧
      t.vlv.quill0.allOff = true ∧ t.vlv.quill1.allOff = true ∧ t.d2d.ferruleAllOff = true ∧ t.d2d.line = true ∧
      t.dev.dead ≠ none ∧ t.par = a.par ∧ t.hnd = a.hnd ∧ t.time = a.time
    a.dev.code ≠ .off →
    (∀ (link : Fin 3) (x : Nat), a.heard link = some x → x + 95000 ≤ a.clk → Ends (.heartbeatTimeout dt link) s allOff) ∧
    Ends (.scribeSupplyFault dt) s (fun t => allOff t ∧ t.dev.dead = some .supply ∧ t.dev.restart = 0 ∧ t.up.state = .disabled ∧
      t.down.state = .disabled) ∧
    (∀ q : Fin 2, Ends (.forwardedClockStop dt q true) s fun t => allOff t ∧ t.up.state = .disabled ∧
      t.dev.dead = (if a.dev.dead = some .supply then some .supply else some .clock)) ∧
    (∀ q : Fin 2, Ends (.forwardedClockStop dt q false) s fun t => allOff t ∧ t.up = a.up ∧ t.down = a.down ∧
      (t.quill q).stopped = true) ∧
    (a.dev.dead = some .running → Ends (.scribeResume dt) s fun t =>
      t.dev.dead = none ∧ t.dev.code = .fault ∧ t.faults.bits = a.faults.bits ||| 64) ∧
    (a.dev.dead = some .clock → a.dev.hung = false → Ends (.scribeResume dt) s fun t =>
      t.dev.dead = none ∧ t.dev.code = .fault ∧ t.faults.bits = a.faults.bits ||| 64 ∧
      (a.dev.linksUp = true → a.up.state = .disabled → t.up.state = .training 1) ∧
      (a.dev.linksUp = true → a.down.state = .disabled → t.down.state = .training 1)) ∧
    (a.dev.dead = some .hung ∨ a.dev.dead = none → exec (.scribeResume dt) s = .next a) ∧
    (a.dev.dead = some .supply → a.dev.hung = false → a.dev.restart = 0 → Ends (.scribeResume dt) s fun t =>
      t.dev = { State.reset.dev with startStep := 0, stepAt := a.clk, dead := some .supply, restart := 2 } ∧
      t.hnd = { State.reset.hnd with sumFrom := a.clk } ∧ t.clocks = State.reset.clocks ∧ t.time = State.reset.time ∧
      t.regs = State.reset.regs ∧ t.nib = State.reset.nib ∧ t.par.store = a.par.store ∧ t.sw.dim = a.sw.dim ∧
      t.vlv.chans = a.vlv.chans ∧ t.d2d.ferruleAllOff = true ∧ t.power.cause = a.power.cause) ∧
    (∀ refin : Bool, a.dev.restart = 2 → a.clocks.selected = false → (refin = true ∨ a.dev.stepAt + 200000 ≤ a.clk) →
      exec (.referenceSelect dt refin) s = .next { a with clocks := { a.clocks with selected := true, refin } }) ∧
    (a.dev.restart = 2 → a.clocks.selected = true → a.clocks.locked = false → exec (.pllLock dt) s = .next { a with
      clocks := { a.clocks with locked := true, refout := true }, dev := { a.dev with restart := 3, stepAt := a.clk } }) ∧
    (∀ other : Bool, a.dev.restart = 3 → Ends (.firmwareCheck dt true other) s fun t => t.dev.code = .fault ∧
      t.dev.dead = none ∧ t.dev.restart = 0 ∧ t.faults.bits = a.faults.bits ||| 64 ∧
      (a.dev.code ≠ .fault → t.faults.first = 6))

/-- One word of the scrubber's pass. When its word is due, SCRUB moves to the next 64-bit word and wraps after 4 MiB; the
words of a pass lie evenly over SCRUB_PERIOD, and before its word is due it does nothing; a corrected error is counted in
CE_COUNT, which saturates, and in ECC_CE; two bits in error in a word of the first 1.25 MiB that no other rule names
enter FAULT with SRAM_UE, bit 0, after UE_COUNT and ECC_UE have counted. That the words lie evenly over the period is the
model's reading (log entry 15). -/
def Obligations.ScrubberCountsErrors : Prop :=
  ∀ (s : State) (dt : Nat), let a := s.elapse dt
    let p := a.d2d.scrubPeriod * 100000000
    let due := ∀ x ∈ a.d2d.scrubAt,
      if a.d2d.scrubPos = 0 then x + p ≤ a.clk else x + a.d2d.scrubPos / 8 * p / 524288 ≤ a.clk
    let moved : State := { a with d2d := { a.d2d with
      scrubPos := (a.d2d.scrubPos + 8) % 0x400000
      scrubPeriod := if a.d2d.scrubPos = 0 then a.pf 0x12 7 0 else a.d2d.scrubPeriod
      scrubAt := if a.d2d.scrubPos = 0 then some a.clk else a.d2d.scrubAt } }
    (∀ (e : Ecc) (w : Bool), ¬due → exec (.scrub dt e w) s = .next a) ∧
    (a.dev.linksUp = true → a.clockRuns = true → due →
      (∀ w : Bool, exec (.scrub dt .clean w) s = .next moved) ∧
      (∀ w : Bool, exec (.scrub dt .corrected w) s = .next
        (({ moved with health := { a.health with ce := if a.health.ce = 255 then 255 else a.health.ce + 1 } } : State).count
          0x51 true 1)) ∧
      (∀ w : Bool, a.d2d.scrubPos < 0x140000 → exec (.scrub dt .uncorrectable w) s = .next
        ((({ moved with health := { a.health with ue := if a.health.ue = 15 then 15 else a.health.ue + 1 } } : State).count
          0x51 false 1).enterFault 0)))

/-- A good packet for this device. A request for this device's address, in the bulk class, with the right number of slots,
CRC and link sequence number, on a trained port of a living part with room in core 0's queue, moves the class's
expected number on, owes an ACK, uses and frees its words of buffer, and waits for core 0 with its fields as the
header says; the link engine marks progress; the other port, the handles and the parameters stay. That a slot on a trained
port is the mark of the link engine is the model's reading (log entry 57). -/
def Obligations.PacketIsAccepted : Prop :=
  ∀ (s : State) (dt slots : Nat) (side : Side) (p : Packet) (w : Word), let a := s.elapse dt
    let l := (a.port side).lane false
    let n := p.words.length
    a.linkRuns = true → a.portUp side = true → slots = n + 4 → fld p.header 13 6 = n → bit p.header 0 = false →
    (packetCrc p.header p.words (fld w 47 32)).toNat = fld w 31 0 → fld w 43 32 = l.rxNext.toNat →
    hDst p.header = a.dev.addr.toNat → a.dev.addr ≠ 63 → a.dev.addr ≠ 62 → a.dev.addr ≠ 0 → a.dev.addr.toNat ≤ 32 →
    a.dev.cutOff = false → hReply p.header = false → hSrc p.header ≤ 32 → hOpc p.header ≠ 0x20 →
    hOpc p.header ≠ 0x93 → (opLengths (hOpc p.header)).isSome = true → a.bulkQ.length < 16 →
    Ends (.packetReceived dt side false slots false p w .clean) s fun t =>
      t.bulkQ = a.bulkQ ++ [{ opc := BitVec.ofNat 8 (hOpc p.header), req := asRequest side p, recs := a.nib.recs }] ∧
      (t.port side).bulk = { l with rxNext := l.rxNext + 1, nakked := false, ackDue := l.ackDue + 1,
                                    freed := l.freed + BitVec.ofNat 12 (n + 2) } ∧
      (t.port side).urgent = (a.port side).urgent ∧ t.port (otherSide side) = a.port (otherSide side) ∧
      t = { a.mark 8 with up := t.up, down := t.down, bulkQ := t.bulkQ }

/-- A packet whose CRC or slot count is wrong changes no state of the commands. A packet addressed to this device whose
CRC word does not match, or whose number of slots is not LEN + 4, is discarded: its words are freed, CRC_FAIL of the
port counts, the class awaits its replay, and NAK names the last good number; no request is queued. -/
def Obligations.BadPacketIsRefused : Prop :=
  ∀ (s : State) (dt slots : Nat) (side : Side) (urgent : Bool) (p : Packet) (w : Word), let a := s.elapse dt
    let l := (a.port side).lane urgent
    a.linkRuns = true → a.portUp side = true → (a.wayOf side (hDst p.header)).out = none →
    (slots ≠ hLen p.header + 4 ∨ (packetCrc p.header p.words (fld w 47 32)).toNat ≠ fld w 31 0) →
    Ends (.packetReceived dt side urgent slots false p w .clean) s fun t =>
      t.bulkQ = a.bulkQ ∧ t.urgentQ = a.urgentQ ∧ t.hnd = a.hnd ∧
      (t.port side).lane urgent = { l with freed := l.freed + BitVec.ofNat 12 (p.words.length + 2), nakked := true } ∧
      t.par = (a.count (match side with | .up => 0x35 | .down => 0x36) true 1).par ∧
      t.out = a.out ++ [.nak side urgent (l.rxNext - 1)] ∧ t.dev = a.dev ∧ t.stage = a.stage

/-- The oldest waiting packet of a class goes out. PACKET_FORWARD takes the oldest packet of the class that waits in a
trained port, when the class holds credits for its words, the replay buffer has room and no packet of the class must go
out again before it: it takes the class's next link sequence number, uses credits for LEN + 2 words, waits in the replay
buffer for its ACK and is emitted with the CRC word of that number. Two bits in error in the buffer that the link engine
reads it from hang that engine, with cause 3. -/
def Obligations.PacketLeavesWithItsNumber : Prop :=
  ∀ (s : State) (dt : Nat) (side : Side) (urgent : Bool) (x : TxPacket) (r : List TxPacket), let a := s.elapse dt
    let l := (a.port side).lane urgent
    a.linkRuns = true → a.portUp side = true → l.stored = x :: r → x.holds = 0 → x.words.length + 2 ≤ l.held →
    (a.port side).replayWords + x.words.length + 2 ≤ 2048 → (∀ y ∈ l.replay, y.owed = false) →
    Ends (.packetForward dt side urgent .clean) s fun t =>
      ((t.port side).lane urgent).stored = r ∧
      ((t.port side).lane urgent).replay = l.replay ++ [{ x with seq := l.txSeq, sentAt := a.clk, resends := 0 }] ∧
      ((t.port side).lane urgent).txSeq = l.txSeq + 1 ∧
      ((t.port side).lane urgent).held = l.held - (x.words.length + 2) ∧
      t.out = a.out ++ [.packet side x.header x.words (crcWord x.header x.words l.txSeq)] ∧
      t = { a.mark 8 with up := t.up, down := t.down, out := t.out, own := t.own } ∧
      exec (.packetForward dt side urgent .scratchpad) s = .next ((a.mark 8).hang 8 3 none none 0)

/-- ACK, NAK, CREDIT and their sending. On a trained port of a running link: ACK takes the packets it covers out of the
replay buffer; NAK does so, and with nothing left changes nothing else, while one or two packets that are left go out
again, oldest first, with their own numbers and counted in REPLAY, as far as the credits held reach, and a packet that went
out again four times makes the port retrain; CREDIT sets the credits held from the running total, and with no packet left
to go out again changes nothing else; CREDIT_SEND and ACK_SEND emit the total freed and the last good number once something
is owed; REPLAY_TIMEOUT sends the packets again once the oldest is 10 us old, as soon as credits reach for it. That a
packet for which credits do not reach waits in its place is the model's reading (log entry 28), and so is the mark of
progress at each of them (log entry 57). -/
def Obligations.OrderedSetsMoveTheLane : Prop :=
  ∀ (s : State) (dt : Nat) (side : Side) (urgent : Bool), let a := s.elapse dt
    let l := (a.port side).lane urgent
    let again (x : TxPacket) : TxPacket := { x with sentAt := a.clk, resends := x.resends + 1, owed := false }
    let packet (x : TxPacket) : Out := .packet side x.header x.words (crcWord x.header x.words x.seq)
    let counted (n : Nat) : Params := (a.count (match side with | .up => 0x35 | .down => 0x36) false n).par
    a.linkRuns = true → a.portUp side = true →
    (∀ seq : BitVec 12, exec (.ack dt side urgent seq) s = .next ((a.mark 8).modPort side fun p => p.modLane urgent fun l =>
      { l with replay := l.replay.filter fun x => decide (2048 ≤ (seq - x.seq).toNat) })) ∧
    (∀ seq : BitVec 12,
      let left := l.replay.filter fun x => decide (2048 ≤ (seq - x.seq).toNat)
      (left = [] → exec (.nak dt side urgent seq .clean) s = .next ((a.mark 8).modPort side fun p => p.modLane urgent fun l =>
        { l with replay := [] })) ∧
      (∀ x : TxPacket, left = [x] → x.resends < 4 → x.words.length + 2 ≤ l.held → Ends (.nak dt side urgent seq .clean) s fun t =>
        ((t.port side).lane urgent).replay = [again x] ∧
        ((t.port side).lane urgent).held = l.held - (x.words.length + 2) ∧ t.out = a.out ++ [packet x] ∧ t.par = counted 1 ∧
        t = { a.mark 8 with up := t.up, down := t.down, out := t.out, par := t.par }) ∧
      (∀ x y : TxPacket, left = [x, y] → x.seq ≠ y.seq → x.resends < 4 →
        x.words.length + 2 + (y.words.length + 2) ≤ l.held → Ends (.nak dt side urgent seq .clean) s fun t =>
        ((t.port side).lane urgent).replay = [again x, again y] ∧ t.out = a.out ++ [packet x, packet y]) ∧
      (∀ x y : TxPacket, left = [x, y] → x.seq ≠ y.seq → x.resends < 4 → x.words.length + 2 ≤ l.held →
        l.held < x.words.length + 2 + (y.words.length + 2) → Ends (.nak dt side urgent seq .clean) s fun t =>
        ((t.port side).lane urgent).replay = [again x, { y with owed := true }] ∧ t.out = a.out ++ [packet x]) ∧
      (∀ (x : TxPacket) (r : List TxPacket), left = x :: r → 4 ≤ x.resends → Ends (.nak dt side urgent seq .clean) s fun t =>
        (t.port side).state = .retraining 1)) ∧
    (∀ freed : BitVec 12, (∀ y ∈ l.replay, y.owed = false) → exec (.credit dt side urgent freed) s = .next
      ((a.mark 8).modPort side fun p => p.modLane urgent fun l =>
        { l with held := (if urgent then 256 else 2048) - (l.sent - freed).toNat })) ∧
    (l.freed ≠ l.reported → Ends (.creditSend dt side urgent) s fun t => t.out = a.out ++ [.credit side urgent l.freed] ∧
      (t.port side).lane urgent = { l with reported := l.freed } ∧ t.bulkQ = a.bulkQ) ∧
    (0 < l.ackDue → Ends (.ackSend dt side urgent) s fun t => t.out = a.out ++ [.ack side urgent (l.rxNext - 1)] ∧
      (t.port side).lane urgent = { l with ackDue := 0 } ∧ t.bulkQ = a.bulkQ) ∧
    (∀ (x : TxPacket), l.replay = [x] → x.sentAt + 1000 ≤ a.clk → x.resends < 4 → x.words.length + 2 ≤ l.held →
      Ends (.replayTimeout dt side urgent .clean) s fun t =>
        ((t.port side).lane urgent).replay = [again x] ∧ t.out = a.out ++ [packet x] ∧ t.par = counted 1) ∧
    (∀ (x : TxPacket), l.replay = [x] → x.sentAt + 1000 ≤ a.clk → x.resends < 4 → l.held < x.words.length + 2 →
      Ends (.replayTimeout dt side urgent .clean) s fun t =>
        ((t.port side).lane urgent).replay = [{ x with owed := true }] ∧ t.out = a.out)

/-- Training of a port. In training, TRAIN of step m moves a port from step 1 to 2, from 2 to 3 on step 2, and the port
sends TRAIN of its step; TRAINING_DONE in step 3 brings the port up with 2,048 bulk and 256 urgent credits, fresh numbers
and its hop time, within 0.316 us and 0.324 us and within 0.2 ns of the other direction's (holding the operand to that
range is log entry 62); on the up port it ends the cut-off, on the down port it sets LINK_NEW in SORTING and DRAINING (the
model's reading of a chain that sorts, log entry 73). PORT_HOLD_EXPIRY starts the training again 1 s after the eighth loss. -/
def Obligations.PortsTrain : Prop :=
  ∀ (s : State) (dt : Nat) (side : Side), let a := s.elapse dt
    a.linkRuns = true →
    (∀ m : Fin 3, (a.port side).state = .training 1 → Ends (.train dt side m) s fun t =>
      t.port side = { a.port side with state := .training 2 } ∧ t.out = a.out ++ [.train side 2] ∧
      t.port (otherSide side) = a.port (otherSide side)) ∧
    ((a.port side).state = .training 2 → Ends (.train dt side 0) s (fun t => t.port side = a.port side ∧
      t.out = a.out ++ [.train side 2])) ∧
    ((a.port side).state = .training 2 → Ends (.train dt side 1) s fun t =>
      t.port side = { a.port side with state := .training 3 } ∧ t.out = a.out ++ [.train side 3]) ∧
    (∀ hop : Nat, (a.port .up).state = .training 3 → Ends (.trainingDone dt .up hop) s fun t =>
      t.up = { a.up with state := .up, tHop := t.up.tHop, symErrs := [],
                         bulk := { held := 2048, stored := a.up.bulk.stored },
                         urgent := { held := 256, stored := a.up.urgent.stored } } ∧
      (a.down.tHop = 0 → 31600 ≤ t.up.tHop ∧ t.up.tHop ≤ 32400 ∧ (31600 ≤ hop → hop ≤ 32400 → t.up.tHop = hop)) ∧
      (a.down.tHop ≠ 0 → t.up.tHop ≤ a.down.tHop + 20 ∧ a.down.tHop ≤ t.up.tHop + 20) ∧
      t.dev = { a.dev with cutOff := false } ∧ t.down = a.down ∧ t.hnd = a.hnd) ∧
    (∀ hop : Nat, (a.port .down).state = .training 3 → Ends (.trainingDone dt .down hop) s fun t =>
      t.down = { a.down with state := .up, tHop := t.down.tHop, symErrs := [],
                             bulk := { held := 2048, stored := a.down.bulk.stored },
                             urgent := { held := 256, stored := a.down.urgent.stored } } ∧
      (a.up.tHop = 0 → 31600 ≤ t.down.tHop ∧ t.down.tHop ≤ 32400) ∧
      (a.up.tHop ≠ 0 → t.down.tHop ≤ a.up.tHop + 20 ∧ a.up.tHop ≤ t.down.tHop + 20) ∧
      t.health = { a.health with
        linkNew := a.health.linkNew || a.dev.code == .sorting || a.dev.code == .draining } ∧
      t.dev = a.dev ∧ t.up = a.up ∧ t.hnd = a.hnd) ∧
    ((a.port side).state = .held → (a.port side).holdAt + 100000000 ≤ a.clk → Ends (.portHoldExpiry dt side) s fun t =>
      t.port side = { a.port side with state := .training 1, trainAt := a.clk } ∧ t.out = a.out ++ [.train side 1])

/-- Loss of a port, and BREAK. PORT_DOWN on a trained port, the 17th symbol error in 10 us, and PORT_TRAIN_TIMEOUT after 1
ms of retraining lose the port: what its classes held is discarded and it trains again; a symbol error before that is
only noted. The loss of the up port, and BREAK with side up lost on it, cut the device off. -/
def Obligations.PortsAreLost : Prop :=
  ∀ (s : State) (dt : Nat), let a := s.elapse dt
    a.linkRuns = true →
    let lost (t : State) : Prop := t.up.bulk = {} ∧ t.up.urgent = {} ∧ (t.up.state = .training 1 ∨ t.up.state = .held) ∧
      t.dev.cutOff = true
    (a.up.state = .up → Ends (.portDown dt .up) s lost) ∧
    (∀ n : Nat, a.up.state = .retraining n → a.up.trainAt + 100000 ≤ a.clk → Ends (.portTrainTimeout dt .up) s lost) ∧
    (a.up.state = .up → 16 ≤ (a.up.symErrs.filter fun x => decide (a.clk < x + 1000)).length →
      Ends (.orderedSetDiscard dt .up) s lost) ∧
    (a.up.state = .up → (a.up.symErrs.filter fun x => decide (a.clk < x + 1000)).length < 16 →
      exec (.orderedSetDiscard dt .up) s = .next { a.mark 8 with up := { a.up with
        symErrs := (a.up.symErrs.filter fun x => decide (a.clk < x + 1000)) ++ [a.clk] } }) ∧
    (∀ addr : Addr, a.up.state = .up → a.down.state = .up → Ends (.breakSet dt .up addr false) s fun t =>
      t.dev.cutOff = true ∧ (.brk .down addr false) ∈ t.out) ∧
    (∀ addr : Addr, a.dev.master = false → a.up.state = .up → a.down.state = .up →
      exec (.breakSet dt .up addr true) s = .next { a.mark 8 with out := a.out ++ [.brk .down addr true] })

/-- PING. A PING heard in its turn is answered OK with the value of STATE in word 1, in every state of the part but OFF,
STARTING, UNADDRESSED and FAULT included; nothing else changes but the queue of the request. -/
def Obligations.PingAnswersTheState : Prop :=
  ∀ (s : State) (dt : Nat) (r : Request) (a : State), Heard s dt 0x00 r a →
    Takes a r true true true 0 0 → exec (.ping dt r) s = .next (a.reply 0x00 r .ok 0 0 [a.regState])

/-- IDENTIFY, ECHO, READ_REG and PARAM_GET. IDENTIFY answers ID, the versions and the serial number of the part (free, log
entry 10); ECHO answers the disciplined times of its arrival and of its departure, each as instant and fraction, and
repeats the payload; READ_REG answers the named registers, in the tick of a step with the time after it, INSTANT loading
the link's latch of the era; PARAM_GET answers
the values of the named parameters in one tick. None of them changes anything else. -/
def Obligations.ReadingRequestsAnswer : Prop :=
  ∀ (s : State) (dt : Nat) (r : Request),
    (∀ a, Heard s dt 0x02 r a →
      Takes a r false false true 0 0 →
      let v0 := if a.fw.active then a.fw.version1 else a.fw.version0
      let v1 := if a.fw.active then (if a.fw.valid0 then a.fw.version0 else 0) else
        (if a.fw.valid1 then a.fw.version1 else 0)
      exec (.identify dt r) s = .next (a.reply 0x02 r .ok 0 0
        [a.reg 0 0, fields [(47, 32, v0.toNat), (31, 16, v1.toNat), (0, 0, b2n a.fw.active)], Config.serial])) ∧
    (∀ (a : State) (ago sub : Nat), Heard s dt 0x03 r a →
      Takes a r true false true 0 16 → exec (.echo dt r ago sub) s =
        .next (a.reply 0x03 r .ok 0 0 (stampWords (a.past10 ago) ++ stampWords (a.at10 sub) ++ r.words))) ∧
    (∀ a, Heard s dt 0x04 r a →
      Takes a r true false true 1 12 → (r.words.all fun w => decide (fld w 3 0 ≤ 11)) = true →
      let era := if (r.words.any fun w => decide (fld w 3 0 = 5)) = true then a.shown.time.e else a.regs.eraLink
      exec (.readReg dt r) s = .next (({ a with regs := { a.regs with eraLink := era } } : State).reply 0x04 r .ok 0 0
        (r.words.map fun w => a.shown.reg era (fld w 3 0)))) ∧
    (∀ a, Heard s dt 0x06 r a →
      Takes a r false false true 1 32 →
      (r.words.all fun w => (paramFields (fld w 15 0)).isSome && (!bit w 16 || staged (fld w 15 0))) = true →
      exec (.paramGet dt r) s = .next (a.reply 0x06 r .ok 0 0 (r.words.map fun w => a.paramRead (bit w 16) (fld w 15 0))))

/-- ENUMERATE with ASSIGN and CLEAR; ENUMERATE with CHAIN, its retries and its ends. In UNADDRESSED, ASSIGN to address 63
of an address from 1 to 32, 1 from the host and the others from the master, gives the device that address; it enters
IDLE and is the master when the address is 1. CLEAR as a broadcast in IDLE or UNADDRESSED with no enumeration running
takes the address away. Valves, switches, time and the handles stay. At the master in IDLE, CHAIN from the host takes
a handle and asks the device at address 63 beyond the trained down port to take address 2; ASSIGN_RETRY sends the same
ASSIGN again 1 ms after BUSY or without a reply; the reply OK starts eight ECHOs to that device, and BUSY waits for
ASSIGN_RETRY; ENUM_TIMEOUT ends the run with PARTIAL, whose DETAIL holds the number of devices addressed and the position at
which the run stopped, writes CHAIN_LENGTH here and broadcasts it, and answers a SORT_START held for ENUM_TIMEOUT with
BUSY; CHAIN_PING_TIMEOUT ends it at 32, with OK when ENUM_EXPECT asks for no more; ECHO_MEASURE starts the round with
device 2 when its period has passed. A reply that no request awaits is discarded and counted. That a CHAIN which runs
answers another one BUSY, and what ends it on a status that the table does not name, are the model's choices (log entry
37). -/
def Obligations.DeviceTakesItsAddress : Prop :=
  (∀ (s : State) (dt : Nat) (r : Request) (a : State), Heard s dt 0x01 r a →
    let x := fld (arg r 0) 5 0
    let rest (t : State) : Prop := t.vlv = a.vlv ∧ t.sw = a.sw ∧ t.time = a.time ∧ t.hnd = a.hnd ∧ t.nib = a.nib ∧
      t.stage = a.stage ∧ t.bus = a.bus ∧ t.gnss = a.gnss ∧ t.power = a.power ∧ t.faults = a.faults
    Takes a r false true false 1 1 →
    (fld (arg r 0) 47 40 = 0 → a.dev.code = .unaddressed → r.dst = 63 → 1 ≤ x → x ≤ 32 →
      r.src = (if x = 1 then 0 else 1) → Ends (.enumerateAssign dt r) s fun t => rest t ∧
        t.dev = { a.dev with addr := BitVec.ofNat 6 x, master := x == 1, code := .idle, startStep := 0 }) ∧
    (fld (arg r 0) 47 40 = 2 → a.dev.code = .idle ∨ a.dev.code = .unaddressed → r.dst = 62 → x = 0 → a.enumRun = none →
      Ends (.enumerateClear dt r) s fun t => rest t ∧ t.dev.addr = 63 ∧ t.dev.master = false ∧ t.dev.chainOk = false ∧
        t.dev.code = .unaddressed ∧ t.echoRun = none)) ∧
  (∀ (s : State) (dt : Nat),
    (∀ (r : Request) (a : State), Heard s dt 0x01 r a →
      Takes a r false true false 1 1 → fld (arg r 0) 47 40 = 1 → fld (arg r 0) 5 0 = 0 → a.dev.master = true →
      a.dev.addr = 1 → a.dev.code = .idle → a.enumRun = none → r.src = 0 → r.dst = 1 →
      a.hnd.rs.fresh < 0x4000 → a.down.state = .up → r.port = .up → Ends (.enumerateChain dt r false) s fun t =>
        t.enumRun = some { handle := a.hnd.idOf a.hnd.rs.fresh, dst := 0, k := 2, startAt := a.clk, phase := .assigning,
                           sentAt := a.clk } ∧
        t.own = a.own ++ [{ kind := .assign 2, tag := a.tagNext, dst := 63, opc := 0x01, atClk := a.clk }] ∧
        t.tagNext = a.tagNext + 1 ∧ t.dev = a.dev ∧ t.par = a.par ∧ t.vlv = a.vlv ∧
        t.hnd.rs.fresh = a.hnd.rs.fresh + 1) ∧
    (let a := s.elapse dt;
      ∀ run : EnumRun, a.enumRun = some run → a.answers = true → a.dev.addr = 1 →
      (run.phase = .retry ∨ run.phase = .assigning → run.sentAt + 100000 ≤ a.clk → a.down.state = .up →
        Ends (.assignRetry dt) s fun t =>
        t.enumRun = some { run with phase := .assigning, sentAt := a.clk } ∧ t.hnd = a.hnd ∧ t.dev = a.dev ∧ t.par = a.par ∧
        t.down.bulk.stored = a.down.bulk.stored ++
          [{ header := mkHeader 63 a.dev.addr 0x01 a.tagNext 1 false false false, words := [word run.k] }] ∧
        t.own = a.own ++ [{ kind := .assign (BitVec.ofNat 6 run.k), tag := a.tagNext, dst := 63, opc := 0x01, atClk := a.clk }]) ∧
      (∀ (n stop left : Nat) (best : Option Int), (run.phase = .retry ∨ run.phase = .assigning) ∧ n = run.k - 1 ∧ stop = run.k ∨
          run.phase = .echo left best ∧ n = run.k ∧ stop = run.k + 1 →
        run.startAt + a.pf 0x32 13 0 * 100000 ≤ a.clk → a.tablesWf = true → Ends (.enumTimeout dt) s fun t =>
          t.hnd = (({ a with enumRun := none } : State).complete run.handle .partialDone (n + stop * 256) 0 []).hnd ∧
          t.enumRun = none ∧ t.time.markDue = true ∧ t.work 0x34 = word n ∧ t.dev = { a.dev with
            echoAt := a.clk
            heldStarts := if a.dev.chainOk then a.dev.heldStarts else a.dev.heldStarts.filter fun h =>
              !decide (h.2 + a.pf 0x32 13 0 * 100000 ≤ a.clk) } ∧
          (a.down.state = .up → ∃ x ∈ t.down.bulk.stored, x.words = [0x34, word n] ∧
            x.header = mkHeader 62 a.dev.addr 0x07 0 2 false false false)) ∧
      (∀ (r : Request) (at_ : Nat), run.phase = .pinging → a.dev.chainOk = false → a.dev.heldStarts = [(r, at_)] →
        at_ + a.pf 0x32 13 0 * 100000 ≤ a.clk → exec (.enumTimeout dt) s =
          .next (({ a with dev := { a.dev with heldStarts := [] } } : State).reply 0x24 r .busy 0 0 [])) ∧
      (run.phase = .pinging → run.sentAt + 100000 ≤ a.clk → a.tablesWf = true → Ends (.chainPingTimeout dt) s fun t =>
        t.hnd = (({ a with enumRun := none } : State).complete run.handle
          (if a.pf 0x38 5 0 ≤ 32 then .ok else .partialDone) 32 0 []).hnd ∧
        t.enumRun = none ∧ t.dev.echoAt = a.clk ∧ t.time.markDue = true ∧ t.work 0x34 = word 32) ∧
      (∀ (p : Packet) (o : Own) (k : Addr), a.own = [o] → o.kind = .assign k → o.tag = hTag p.header →
        o.opc = 0x01 → hOpc p.header = 0x01 → hReply p.header = true → fld (p.words.getD 0 0) 47 40 = 0x18 →
        run.k = k.toNat → run.phase = .assigning → Ends (.replyReceived dt .down p 0) s fun t =>
          t = { a with own := [], enumRun := some { run with phase := .retry, sentAt := a.clk } }) ∧
      (∀ (p : Packet) (o : Own) (k : Addr), a.own = [o] → o.kind = .assign k → o.tag = hTag p.header →
        o.opc = 0x01 → hOpc p.header = 0x01 → hReply p.header = true → fld (p.words.getD 0 0) 47 40 = 0 →
        run.k = k.toNat → run.phase = .assigning → k ≠ 1 → k ≠ 0 → a.down.state = .up →
        Ends (.replyReceived dt .down p 0) s fun t => t.enumRun = some { run with phase := .echo 8 none } ∧
          t.hnd = a.hnd ∧ t.dev = a.dev ∧ t.own.map (·.kind) = [.echo k 0])) ∧
    (let a := s.elapse dt;
      (∀ p : Packet, a.answers = true → a.own = [] → hReply p.header = true →
        exec (.replyReceived dt .down p 0) s = .next (a.count 0x45 true 1)) ∧
      (∀ sub : Nat, a.dev.master = true → a.dev.addr = 1 → a.answers = true → a.enumRun = none → 2 ≤ a.chainLength →
        a.pf 0x30 13 0 ≠ 0 → a.dev.echoAt + a.pf 0x30 13 0 * 100000 ≤ a.clk → Ends (.echoMeasure dt 2 sub) s fun t =>
          t.echoRun = some { k := 2, left := 8, best := none } ∧ t.dev = { a.dev with echoAt := a.clk } ∧
          t.par = a.par ∧ t.hnd = a.hnd)))

/-- Writes and reads of registers by either path. On a living service port a write frame begins with its command byte: the
status byte goes out, with REJECTED telling of the frame before, and a frame to an address above 11 is refused; a write of
a read-only register changes nothing but what REJECTED of the next frame shows; a write of HEALTH clears what it names,
down to the errors of its own tick; a write of MAILBOX stores it, over the link with MB_NEW; MAILBOX_READ clears MB_NEW
unless the link wrote since the capture; INSTANT_READ loads the path's latch of the era, in the tick of a step with the era
after it; a read frame sends the status byte and the values; WRITE_REG of MAILBOX writes it and answers the count of pairs.
When both paths write MAILBOX in one tick, the link's value stands, whichever write comes first. -/
def Obligations.RegistersAreWritten : Prop :=
  ∀ (s : State) (dt : Nat), let a := s.elapse dt
    (a.svcAlive = true →
      (∀ addr : BitVec 4, Ends (.registerWrite dt .svc addr none) s fun t =>
        t = { a with out := a.out ++ [.service t.svcStatus []],
                     regs := { a.regs with rejected := a.regs.refusing, refusing := decide (11 < addr.toNat) } }) ∧
      (∀ (addr : BitVec 4) (w : Word), writable addr.toNat = false → exec (.registerWrite dt .svc addr (some w)) s = .next
        { a with regs := { a.regs with refusing := true } }) ∧
      (∀ w : Word, a.dev.dead ≠ some .hung → exec (.registerWrite dt .svc 8 (some w)) s = .next
        { a with health := { ce := if fld w 47 40 = 0 then a.health.ce else BitVec.ofNat 8 (sat 8 (a.eccNow true)),
                             ue := if fld w 39 36 = 0 then a.health.ue else BitVec.ofNat 4 (sat 4 (a.eccNow false)),
                             slotMargin := a.health.slotMargin && !bit w 22,
                             linkNew := a.health.linkNew && !bit w 19 } }) ∧
      (a.par.seenAt ≠ a.clk → a.eccNow true = 0 ∧ a.eccNow false = 0) ∧
      (∀ w : Word, a.dev.dead ≠ some .hung → exec (.mailboxWrite dt .svc w) s = .next
        { a with regs := { a.regs with
            mailbox := ((a.linkNow.filter fun x => x.1 == 11).map (·.2)).getLast?.getD w } }) ∧
      (a.regs.mbSince = false → exec (.mailboxRead dt) s = .next { a with regs := { a.regs with mbNew := false } }) ∧
      (a.regs.mbSince = true → exec (.mailboxRead dt) s = .next a) ∧
      exec (.instantRead dt .svc) s = .next { a with regs := { a.regs with eraSvc := a.regs.eraCapt } } ∧
      Ends (.serviceReadFrame dt 11 1) s fun t =>
        t = { a with out := a.out ++ [.service t.svcStatus [a.regs.mailbox]]
                     regs := { a.regs with rejected := a.regs.refusing, refusing := false, eraCapt := a.shown.time.e,
                                           mbSince := false } }) ∧
    (a.answers = true →
      (∀ w : Word, exec (.mailboxWrite dt .link w) s = .next
        { a with regs := { (a.noteLink 11 w).regs with mailbox := w, mbNew := true, mbSince := true } }) ∧
      (∀ w : Word, (a.noteLink 11 w).linkNow = a.linkNow ++ [(11, w)]) ∧
      exec (.instantRead dt .link) s = .next { a with regs := { a.regs with eraLink := a.shown.time.e } }) ∧
    (∀ (r : Request) (w : Word) (a : State), Heard s dt 0x05 r a →
      Takes a r false false true 2 24 → r.words = [11, w] → exec (.writeReg dt r) s = .next
        (({ a with regs := { (a.noteLink 11 w).regs with mailbox := w, mbNew := true, mbSince := true } } : State).reply 0x05 r .ok 0 1 []))

/-- FORCE_FAULT, RESET_REQ and both in one write. On a living service port of a part that is not dead: FORCE_FAULT outside
FAULT enters FAULT with bit 7 and leaves the other fields of CONTROL, of which the link's write of this tick stands; RESET_REQ in IDLE or FAULT leads to OFF with RESET_N
driven low by the Ferrule and cause 03h, and in another state changes nothing but what REJECTED of the next frame shows;
both in one write lead to OFF with PRIOR_FAULT set. -/
def Obligations.ControlForcesAndResets : Prop :=
  ∀ (s : State) (dt : Nat), let a := s.elapse dt
    a.svcAlive = true → a.dev.dead = none →
    (a.dev.code ≠ .fault → Ends (.forceFault dt .svc) s fun t => t.dev.code = .fault ∧
      t.faults.bits = a.faults.bits ||| 128 ∧ t.faults.first = 7 ∧
      t.regs = { a.regs with faultNHold := match ((a.linkNow.filter fun x => x.1 == 4).map (·.2)).getLast? with
        | some v => bit v 2
        | none => a.regs.faultNHold } ∧
      t.power = a.power ∧ t.time.n = a.time.n ∧ t.time.e = a.time.e) ∧
    (a.dev.code = .idle ∨ a.dev.code = .fault → Ends (.resetReq dt .svc) s fun t => t.dev.code = .off ∧
      t.power.resetOwn = some a.clk ∧
      t.power.causeFerrule = some (a.dev.code == .fault, a.d2d.ferruleAllOff, 3) ∧ t.par.store = a.par.store) ∧
    (a.dev.code ≠ .idle → a.dev.code ≠ .fault → exec (.resetReq dt .svc) s = .next
      { a with regs := { a.regs with refusing := true } }) ∧
    Ends (.forceFaultAndReset dt .svc) s fun t => t.dev.code = .off ∧ t.power.resetOwn = some a.clk ∧
      (∃ x : Bool, t.power.causeFerrule = some (true, x, 3)) ∧ t.par.store = a.par.store

/-- An accepted feed moves to the next token of the sequence. A FEED in its window, at least half the period and less than
the period after the last, whose token is the expected one, restarts the window and makes 5 times the token plus 3Bh,
modulo 256, the next expected token, on the service port of a living part, and changes no other register; over the link it
does the same. A feed of the service port in the tick of a feed over the link is taken before it. The window
counts core-clock ticks (for the model's part in it see log entry 16). The sequence repeats only after 256 tokens, an enabling CONFIGURE starts it with SEED, and a read
of WATCH does not show the expected token. -/
def Obligations.WatchTokensFollow : Prop :=
  (∀ (s : State) (dt : Nat) (token : BitVec 8), let a := s.elapse dt
    a.svcAlive = true → a.dev.dead = none → a.watch.enable = true → token = a.watch.next →
    a.watch.period * 100000 ≤ 2 * (a.time.core - a.watch.fedAt) →
    a.time.core < a.watch.fedAt + a.watch.period * 100000 →
    (a.answers = true → a.regs.svcOnly = false → Ends (.watchFeed dt .link false token) s fun t =>
      t.watch = { a.watch with fedAt := a.time.core, next := BitVec.ofNat 8 ((5 * token.toNat + 0x3B) % 256) } ∧
      t.dev = a.dev ∧ t.kennel = a.kennel ∧ t.sw = a.sw ∧ t.vlv = a.vlv) ∧
    ((∀ x ∈ a.linkNow, x.1 ≠ 9) → Ends (.watchFeed dt .svc false token) s fun t =>
      t.watch = { a.watch with fedAt := a.time.core, next := BitVec.ofNat 8 ((5 * token.toNat + 0x3B) % 256) } ∧
      t.regs = a.regs ∧ t.dev = a.dev ∧ t.kennel = a.kennel ∧ t.sw = a.sw ∧ t.vlv = a.vlv)) ∧
  (∀ (s : State) (dt : Nat) (token : BitVec 8) (w : Word), let a := s.elapse dt
    a.svcAlive = true → a.dev.dead = none → a.linkNow = [(9, w)] → exec (.watchFeed dt .svc false token) s = .next
      ((({ a with watch := a.regs.watchWas } : State).watchFeed false token).watchWrite w)) ∧
  (∀ (x : BitVec 8) (m n : Nat), m < n → n < 256 →
    let tok := fun k => Nat.repeat (fun y : BitVec 8 => BitVec.ofNat 8 ((5 * y.toNat + 0x3B) % 256)) k x
    tok m ≠ tok n ∧ tok 256 = x) ∧
  (∀ (s : State) (dt : Nat) (period : BitVec 10) (seed token : BitVec 8), let a := s.elapse dt
    a.svcAlive = true → a.dev.dead = none → a.watch.enable = false → a.watch.expired = false →
    10 ≤ period.toNat → period.toNat ≤ 1000 → (∀ x ∈ a.linkNow, x.1 ≠ 9) → Ends (.watchConfigure dt .svc true false period seed token) s fun t =>
      t.watch = { a.watch with enable := true, period := period.toNat, next := seed, fedAt := a.time.core } ∧ t.dev = a.dev) ∧
  (∀ (s : State) (x : BitVec 8), ({ s with watch := { s.watch with next := x } } : State).regWatch = s.regWatch)

/-- A wrong token, an early or missing feed, and the expiry. A feed with a wrong token, one before half the period, and
WATCHDOG_EXPIRY at the end of the period disable the watchdog and set EXPIRED with WHY 3, 2 and 1; unless the Scribe
is treated as dead the part stops sorting, and the Kennel states are entered. A period that is not over
leaves everything. WATCH_CLEAR clears EXPIRED and WHY. KENNEL_SWITCH_ON turns the next channel of the Kennel entry on
after START_INTERVAL. -/
def Obligations.WatchdogExpires : Prop :=
  ∀ (s : State) (dt : Nat), let a := s.elapse dt
    let out (why : BitVec 2) (t : State) : Prop := t.watch.enable = false ∧ t.watch.expired = true ∧ t.watch.why = why ∧
      (a.dev.dead = none → t.dev.code ≠ .sorting) ∧
      (a.dev.dead = none → t.kennel.active = true ∧ t.kennel.reason &&& 1 = 1)
    let alone : Prop := ∀ x ∈ a.linkNow, x.1 ≠ 9
    (∀ token : BitVec 8, a.svcAlive = true → a.dev.dead ≠ some .hung → alone → a.watch.enable = true → token ≠ a.watch.next →
      Ends (.watchFeed dt .svc false token) s (out 3)) ∧
    (a.svcAlive = true → a.dev.dead ≠ some .hung → alone → a.watch.enable = true →
      2 * (a.time.core - a.watch.fedAt) < a.watch.period * 100000 →
      Ends (.watchFeed dt .svc false a.watch.next) s (out 2)) ∧
    (a.watch.enable = true → a.clockRuns = true → a.watch.fedAt + a.watch.period * 100000 ≤ a.time.core →
      Ends (.watchdogExpiry dt) s (out 1)) ∧
    (a.time.core < a.watch.fedAt + a.watch.period * 100000 → exec (.watchdogExpiry dt) s = .next a) ∧
    (a.svcAlive = true → a.dev.dead = none → alone → Ends (.watchClear dt .svc) s fun t =>
      t.watch = { a.watch with expired := false, why := 0 } ∧ t.dev = a.dev ∧ t.kennel = a.kennel) ∧
    (∀ (n : Sw) (r : List Sw), a.kennel.queue = n :: r → a.kennel.active = true → a.d2d.ferruleHeard ≠ none →
      a.d2d.ferruleAllOff = false → a.kennel.lastAt + a.bootf 0x23 9 0 * 100000 ≤ a.clk → a.sw.ch[n].st = .off →
      Ends (.kennelSwitchOn dt) s fun t => t.kennel = { a.kennel with queue := r, lastAt := a.clk } ∧
        t.sw.ch[n].st = .inrush ∧ t.sw.ch[n].kennelOn = true ∧ t.sw.ch[n].commanded = a.sw.ch[n].commanded ∧
        (∀ m : Sw, m ≠ n → t.sw.ch[m] = a.sw.ch[m]) ∧ t.vlv = a.vlv ∧ t.dev = a.dev)

/-- PARAM_SET, its store writes, STORE_ERASE and CHAIN_MARK. PARAM_SET of one pair without STAGE that the checks let pass,
of any parameter whose write takes effect at once and needs no handle, writes the working copy and leaves every other
parameter and the store; for SCRUB_PERIOD, ECHO_PERIOD, ENUM_TIMEOUT, ENUM_EXPECT and BREAK_POLICY nothing else changes but
the reply OK. PERSIST of a counter is ignored. A pair with PERSIST, a pair that takes effect at the next start, and
STORE_ERASE in IDLE, wait for the flash and change nothing before; PARAM_STORE_WRITE_DONE that failed answers STORE_FAIL
and writes nothing; one that succeeded writes the pair into the working copy and what of it is stored into the store, and
empties the store for STORE_ERASE; the parameters of this start stay. CHAIN_MARK from the master writes its two
parameters. That a write of 1010h-1013h stores the whole word is the model's choice (log entry 74). -/
def Obligations.ParametersAreSet : Prop :=
  ∀ (s : State) (dt : Nat),
    let one (id : Nat) (persist : Bool) (v : Word) : Setting := { k := 0, id, stage := false, persist, value := v }
    let pair (id : Nat) (persist : Bool) (v : Word) : List Word := [word (id + if persist then 2 ^ 17 else 0), v]
    let written (a t : State) (id : Nat) (fs : List Field) (v : Word) : Prop :=
      t.work id = mergeSeen fs (a.work id) ((tget a.seenNow id).getD 0) v ∧ (∀ j : Nat, j ≠ id → t.work j = a.work j) ∧
      t.par.boot = a.par.boot ∧ t.dev = a.dev ∧ t.sw.dim = a.sw.dim ∧ t.fw = a.fw
    let plain (a : State) (x : Setting) : Prop := a.pairRamps x = false ∧ ¬(0x11C0 ≤ x.id ∧ x.id < 0x1240) ∧
      x.erases = false ∧ a.tablesWf = true
    (∀ (r : Request) (id : Nat) (v : Word) (fs : List Field) (a : State), Heard s dt 0x07 r a →
      id ∈ [0x12, 0x30, 0x31, 0x32, 0x38] → r.words = [word id, v] → paramFields id = some fs → badField fs v = none →
      Takes a r false true false 2 32 → a.tablesWf = true → Ends (.paramSet dt r) s fun t =>
        t.work id = mergeWrite fs (a.work id) v ∧ (∀ j : Nat, j ≠ id → t.work j = a.work j) ∧
        t.par.store = a.par.store ∧ t.stage = a.stage ∧ t.time = a.time ∧ t.vlv = a.vlv ∧ t.dev = a.dev ∧
        t = ({ a with par := t.par } : State).reply 0x07 r .ok 0 1 []) ∧
    (∀ (r : Request) (id : Nat) (persist : Bool) (v : Word) (fs : List Field) (a : State), Heard s dt 0x07 r a →
      let x := one id persist v
      Takes a r false true false 2 32 → r.words = pair id persist v → id < 0x10000 → paramFields id = some fs →
      (masterOnly id = true → r.src = 1) → a.pairState x = none → a.pairBad [x] x = none → a.mapBad [x] = none →
      plain a x →
      (x.stores = false → Ends (.paramSet dt r) s fun t => written a t id fs v ∧ t.par.store = a.par.store ∧
        t.par.ops = a.par.ops) ∧
      (x.stores = true → exec (.paramSet dt r) s =
        .next { a with par := { a.par with ops := a.par.ops ++ [{ req := r, startAt := a.clk }] } })) ∧
    (∀ (r : Request) (a : State), Heard s dt 0x07 r a →
      r.words = [0x46, 1] → a.dev.code = .idle → Takes a r false true false 2 32 → exec (.storeErase dt r) s =
        .next { a with par := { a.par with ops := a.par.ops ++ [{ req := r, startAt := a.clk }] } }) ∧
    (∀ (r : Request) (era : BitVec 16) (x : Word) (a : State), Heard s dt 0x07 r a →
      r.words = [0x107, x, 0x108, word era.toNat] → r.src = 1 → a.time.source ≠ 1 →
      Takes a r false true false 2 32 → a.tablesWf = true → Ends (.chainMark dt r) s fun t =>
        t.work 0x107 = x ∧ t.work 0x108 = word era.toNat ∧ t.time = a.time ∧ t.stage = a.stage ∧ t.vlv = a.vlv) ∧
    (let a := s.elapse dt;
      ∀ (o : StoreOp) (rest : List StoreOp), a.par.ops = o :: rest → a.answers = true →
        exec (.paramStoreWriteDone dt false) s =
          .next (({ a with par := { a.par with ops := rest } } : State).reply 0x07 o.req .storeFail 0 0 []) ∧
        (o.req.words = [0x46, 1] → Ends (.paramStoreWriteDone dt true) s fun t =>
          t.par.store = [] ∧ t.par.ops = rest ∧ t.par.boot = a.par.boot ∧ t.vlv = a.vlv ∧ t.stage = a.stage) ∧
        (∀ (id : Nat) (persist : Bool) (v : Word) (fs : List Field), o.req.words = pair id persist v → id < 0x10000 →
          paramFields id = some fs → (one id persist v).stores = true → plain a (one id persist v) →
          Ends (.paramStoreWriteDone dt true) s fun t => written a t id fs v ∧ t.par.ops = rest ∧
            t.par.store = tset a.par.store id (storeWord fs v)))

/-- A completion leaves and frees its handle; the summary of an interval. COMPLETION_SENT sends the oldest completion that
waits, as a packet with opcode 0Fh, its words and the handle's index as tag, on the trained port towards its destination,
with credits and nothing waiting there before it; its handle is free from then on, with its generation one higher modulo
4, and its index stands last among the free ones; a completion without a handle leaves alone. One for this device itself
leaves on no port. SUMMARY_INTERVAL in reporting mode 2 closes the interval in SORTING and DRAINING, and elsewhere when
something was counted, with a record of its status counts and its length in ticks, and starts the next. -/
def Obligations.CompletionsLeave : Prop :=
  ∀ (s : State) (dt : Nat), let a := s.elapse dt
    let freed (t : State) (h : HandleId) : Prop :=
      t.live? h = none ∧ t.hnd.idOf (hIndex h) = BitVec.ofNat 16 ((hGen h + 1) % 4 * 2 ^ 14 + hIndex h) ∧
      (if isEj h then t.hnd.ej.freed = a.hnd.ej.freed ++ [hIndex h] ∧ t.hnd.rs = a.hnd.rs
        else t.hnd.rs.freed = a.hnd.rs.freed ++ [hIndex h] ∧ t.hnd.ej = a.hnd.ej)
    (∀ (c : Completion) (rest : List Completion) (p : Side), a.hnd.queue = c :: rest → a.ownWay c.dst.toNat = some p →
      a.dev.code ≠ .draining → a.linkRuns = true → a.portUp p = true → c.words.length + 2 ≤ (a.port p).bulk.held →
      (a.port p).replayWords + c.words.length + 2 ≤ 2048 → (∀ y ∈ (a.port p).bulk.replay, y.owed = false) →
      (a.port p).bulk.stored = [] → (a.port p).urgent.stored = [] → Ends (.completionSent dt (.port p)) s fun t =>
        let header := mkHeader c.dst a.dev.addr 0x0F c.tag c.words.length false false false
        t.hnd.queue = rest ∧ t.hnd.counts = a.hnd.counts ∧
        (c.handle = none → t.hnd = { a.hnd with queue := rest }) ∧
        (∀ (h : HandleId) (l : Live), c.handle = some h → a.live? h = some l → a.tablesWf = true → freed t h) ∧
        (t.port p).bulk.txSeq = (a.port p).bulk.txSeq + 1 ∧
        t.out = a.out ++ [.packet p header c.words (crcWord header c.words (a.port p).bulk.txSeq)] ∧
        t.port (otherSide p) = a.port (otherSide p) ∧ t.par = a.par) ∧
    (∀ (c : Completion) (rest : List Completion), a.hnd.queue = c :: rest → a.ownWay c.dst.toNat = none →
      a.dev.code ≠ .draining → a.answers = true → Ends (.completionSent dt .own) s fun t => t.hnd.queue = rest ∧
        (∀ (h : HandleId) (l : Live), c.handle = some h → a.live? h = some l → a.tablesWf = true → freed t h) ∧
        t.out = a.out ∧ t.up = a.up ∧ t.down = a.down ∧ t.par = a.par) ∧
    (a.mode = 2 → a.answers = true → a.hnd.sumFrom + a.pf 0x40 17 8 * 100000 ≤ a.clk →
      (a.dev.code = .sorting ∨ a.dev.code = .draining ∨ a.hnd.sumAny = true → exec (.summaryInterval dt) s = .next { a with
        hnd := { a.hnd with counts := [], sumFrom := a.clk, sumAny := false, queue := a.hnd.queue ++ [{
          dst := 0, handle := none, tag := 0
          words := [fields [(47, 40, 0), (39, 24, 0), (23, 0, a.hnd.counts.length)], a.time.n,
            fields [(47, 40, 0x20), (39, 32, 1), (31, 0, a.clk - a.hnd.sumFrom)]] ++
              a.hnd.counts.map fun x => fields [(47, 40, x.1), (39, 0, x.2.toNat)] }] } }) ∧
      (a.dev.code ≠ .sorting → a.dev.code ≠ .draining → a.hnd.sumAny = false → exec (.summaryInterval dt) s = .next { a with
        hnd := { a.hnd with sumFrom := a.clk } })) ∧
    (a.mode ≠ 2 → exec (.summaryInterval dt) s = .next a)

/-- Flight time and passage time of a record; DETECT and the solving of a record. With R the integer square root of the
speed at the ejector line, the flight time is 1,600,000,000 times DROP over Q = 64 v + R, and the passage time
1,600,000,000 times the length over R, both to the nearest integer with a half up; a record with Q = 0 or a flight time
above 25,000,000 ticks has neither. In SORTING, a DETECT of one record that one bank's extent touches enters that
bank's queue, which has room, with the next number of the records taken and the set of tables of its camera instant, and
takes no handle; one that is stale only counts in STALE_RECORDS; outside SORTING it is counted in DETECT_DROPPED and the
first one of its source is answered BAD_STATE with the code of the state. NIB_RECORD_SOLVE takes the oldest
record out of its bank's queue, in a later tick, and marks progress; a record without a flight time is counted in BAD_RECORD
and nothing is scheduled; one whose extent meets the span of one valve, of an enabled bank, takes an ejection handle. Before
its arming point its event stands pending with coil-on the flight time less LEAD and the valve's delay after the camera
instant, and coil-off the passage time plus DWELL later, between 200 us and 50 ms; later, when the record or its class has it
fire late and the limit of its class is not passed, it is armed at once to open T_commit from now; else it ends TOO_LATE with
its completion and its count. That the records of a DETECT count as taken only from the next tick on is the model's reading
(log entry 1). -/
def Obligations.FlightTimeIsExact : Prop :=
  (∀ v ac drop len r : Nat, v * v + ac * drop < 2 ^ 52 → r * r ≤ (v * v + ac * drop) * 4096 →
    (v * v + ac * drop) * 4096 < (r + 1) * (r + 1) →
    let q := 64 * v + r
    let tf := (2 * (1600000000 * drop) + q) / (2 * q)
    (q = 0 → flight v ac drop len = none) ∧
    (q ≠ 0 → 25000000 < tf → flight v ac drop len = none) ∧
    (q ≠ 0 → tf ≤ 25000000 → flight v ac drop len = some (tf, (2 * (1600000000 * len) + r) / (2 * r)))) ∧
  (∀ (s : State) (dt : Nat), let a := s.elapse dt
    (∀ (r : Request) (w0 w1 w2 : Word), r.words = [w0, w1, w2] → r.urgent = false → r.src.toNat ≤ 32 → a.takesRecords = true →
      a.frozen 4 = false →
      let x : NibRec := { w0, w1, w2, src := r.src, port := r.port, no := a.nib.recs, set := a.setOf (a.resolve w0) }
      (∀ b : Bank, a.dev.code = .sorting → a.stale x = false → a.touched x = [b] → (a.nib.queue b).length < 512 →
        Ends (.detect dt r) s fun t => t.nib.queue b = a.nib.queue b ++ [x] ∧
          (∀ c : Bank, c ≠ b → t.nib.queue c = a.nib.queue c) ∧ t.nib.recs = a.nib.recs + 1 ∧ t.nib.events = a.nib.events ∧
          t.nib.taken = a.takenNow ++ [{ req := r, first := a.nib.recs, fin := a.nib.recs + 1, stale := 0 }] ∧
          t.nib.takenAt = a.clk ∧ t.hnd = a.hnd ∧ t.vlv = a.vlv ∧ t.dev = a.dev ∧ t.time = a.time ∧ t.par = a.par) ∧
      (a.dev.code = .sorting → a.stale x = true → Ends (.detect dt r) s fun t =>
        (∀ c : Bank, t.nib.queue c = a.nib.queue c) ∧ t.nib.events = a.nib.events ∧ t.hnd = a.hnd ∧
          t.par = (a.count 0x2505 true 1).par ∧ t.vlv = a.vlv ∧ t.dev = a.dev) ∧
      (a.dev.code ≠ .sorting → tget a.hnd.detectAt r.src.toNat = none →
        let b := ({ a with nib := { a.nib with recs := a.nib.recs + 1 } } : State).markPacket r a.nib.recs (a.nib.recs + 1)
        exec (.detect dt r) s = .next (({ b.count 0x204 false 1 with
          hnd := { a.hnd with detectAt := tset a.hnd.detectAt r.src.toNat (word a.clk) } } : State).reply 0x20 r .badState 0
            a.dev.code.num []))) ∧
    (∀ (b : Bank) (x : NibRec) (rest : List NibRec), a.nib.queue b = x :: rest → a.nib.held = [] → a.nibRuns = true →
      a.dev.code = .sorting → a.isNew x = false →
      flight x.v (fld (a.inSet x.set (0x220 + x.cls)) 47 32) (a.sf x.set 0x201 15 0) x.len = none →
      Ends (.nibRecordSolve dt b .clean) s fun t => t.nib = a.nib.setQueue b rest ∧ t.hnd = a.hnd ∧ t.vlv = a.vlv ∧
        t.par = (a.count 0x204 true 1).par ∧
        t.dog.engines[nibEngine b].marks = a.dog.engines[nibEngine b].marks + 1) ∧
    (∀ (b : Bank) (x : NibRec) (rest : List NibRec) (v : Valve) (lo hi tf tl : Nat), a.nib.queue b = x :: rest →
      a.nib.held = [] → a.nibRuns = true → a.dev.code = .sorting → a.isNew x = false →
      let cam := a.resolve x.w0
      let cw := a.inSet x.set (0x220 + x.cls)
      let u : Int := if bit x.w2 10 then 0 else x.u
      let xe : Int := x.x + roundHalfAway (u * tf) 25000000
      let h : Int := (min (x.width + fld cw 7 0) (a.sf x.set 0x202 15 0) : Nat)
      let d : Int := max 0 (a.vlv.valves[v].dLearn + sfld (a.inSet x.set (0x240 + v.val)) 23 8)
      let on : Int := cam + tf - (fld cw 31 20 * 100 : Nat) - d
      let off : Int := boundPulse on (cam + tf + tl + (fld cw 19 8 * 100 : Nat) - d)
      let id := a.hnd.idOf a.hnd.ej.fresh
      let late : Int := a.full + a.tCommit
      let fires : Prop := (bit x.w2 8 = true ∨ a.sf (a.setOf cam) (0x230 + x.cls) 1 1 = 1) ∧
        late - on ≤ (a.sf (a.setOf cam) (0x230 + x.cls) 21 12 * 100 : Nat)
      flight x.v (fld cw 47 32) (a.sf x.set 0x201 15 0) x.len = some (tf, tl) →
      ((a.spans x.set).filter fun y => decide (y.2.1 ≤ xe + h ∧ xe - h < y.2.2)) = [(v, (lo : Int), (hi : Int))] →
      bankOf v = b → on - a.full ≤ 30000000 → a.sf x.set (0x230 + x.cls) 0 0 = 1 →
      a.vlv.banks[b].en = true → a.hnd.ej.fresh < 0x3F00 → a.nib.events = [] →
      (a.full ≤ on - a.tCommit → Ends (.nibRecordSolve dt b .clean) s fun t =>
        t.nib.queue b = rest ∧ t.hnd.ej.fresh = a.hnd.ej.fresh + 1 ∧
        t.nib.events.map (fun e => (e.id, e.valve, e.st, e.cOn, e.cOff, e.delta, e.cam, e.seq, e.cls, e.direct, e.src)) =
          [(id, v, .pending, on, off, 0, cam, x.seq, x.cls, false, x.src)] ∧ t.vlv = a.vlv ∧ t.par = a.par ∧
        t.dog.engines[nibEngine b].marks = a.dog.engines[nibEngine b].marks + 1) ∧
      (on - a.tCommit < a.full → fires → a.holdsArms = false → a.vlv.valves[v].inhibited = false →
        (a.energyOf v : Int) ≤ a.available b → Ends (.nibRecordSolve dt b .clean) s fun t =>
        t.nib.queue b = rest ∧ t.hnd.ej.fresh = a.hnd.ej.fresh + 1 ∧ t.nib.events.map (fun e => (e.id, e.valve, e.st, e.cOn,
          e.cOff, e.delta, e.late)) = [(id, v, .armed, late, boundPulse late off, late - on, true)] ∧
        (∃ f : ArmFrame, f.valve = v ∧ f.cOn = late ∧ f.cOff = boundPulse late off ∧ f.handle = id ∧
          t.d2d.wait = a.d2d.wait ++ [{ link := linkOf (quillOf b), sentAt := a.clk, fails := 0, msg := .arm f }]) ∧
        t.vlv = a.vlv ∧ t.par = a.par) ∧
      (on - a.tCommit < a.full → ¬ fires → a.mode = 0 ∨ a.mode = 1 → a.tablesWf = true → a.hnd.ej.live = [] →
        Ends (.nibRecordSolve dt b .clean) s fun t => t.nib.queue b = rest ∧
        t.nib.events.map (fun e => (e.id, e.st, e.final)) = [(id, .retiring, some .tooLate)] ∧
        (∃ c ∈ t.hnd.queue, c.handle = some id ∧ c.dst = x.src ∧ fld (c.words.headD 0) 47 40 = 0x17) ∧
        fld (t.work 0x206) 47 24 = (fld (a.work 0x206) 47 24 + 1) % 2 ^ 24 ∧
        t.nib.tokens = a.nib.tokens ∧ t.d2d.wait = a.d2d.wait ∧ t.vlv = a.vlv)))

/-- EVENT_ARMING at the arming point, and what becomes of an event for which the energy is short. The only waiting event of a
bank, at its arming point, with enough energy available,
its coil not inhibited and no step announced or just made, is armed: its energy is taken as a token, its handle becomes armed,
and one ARM with its instants goes to the Quill of the bank; an inhibited coil's event takes no token and sends no ARM. With
too little energy it waits when it has a stagger tolerance, and ends SHED, with its completion and its count, when it has
none. While a step is announced nothing is armed. A BSTC_REPORT with enough energy arms the waiting event, moved by the time
that it has waited, within its tolerance; with too little energy the event goes on waiting; past its tolerance it ends SHED.
Ledger, switches and time stay. -/
def Obligations.HeadEventIsArmed : Prop :=
  ∀ (s : State) (dt : Nat) (b : Bank) (e : Event), let a := s.elapse dt
    let armed (t : State) (d : Int) : Prop :=
      t.nib.tokens = a.nib.tokens ++ [{ id := e.id, bank := b, energy := e.energy, begun := false }] ∧
        (∃ (set : Bool) (row : Fin 8) (derate : Bool), t.d2d.wait = a.d2d.wait ++
          [{ link := linkOf (quillOf b), sentAt := a.clk, fails := 0,
             msg := .arm { valve := e.valve, cOn := e.cOn + d, cOff := e.cOff + d, set, row, derate, handle := e.id } }]) ∧
        t.nib.events.map (fun x => (x.id, x.st, x.cOn, x.cOff, x.delta)) = [(e.id, .armed, e.cOn + d, e.cOff + d, e.delta + d)] ∧
        (∀ l : Live, a.live? e.id = some l → t.live? e.id = some { l with st := .armed })
    let shed (t : State) : Prop :=
      t.nib.tokens = a.nib.tokens ∧ t.d2d.wait = a.d2d.wait ∧
        t.nib.events.map (fun x => (x.id, x.st, x.final)) = [(e.id, .retiring, some .shed)] ∧
        fld (t.work 0x207) 23 0 = (fld (a.work 0x207) 23 0 + 1) % 2 ^ 24 ∧
        (∀ l : Live, a.live? e.id = some l → l.st = .accepted →
          ∃ c ∈ t.hnd.queue, c.handle = some e.id ∧ c.dst = l.dst ∧ fld (c.words.headD 0) 47 40 = 5)
    let stays (t : State) : Prop := t.nib.tokens = a.nib.tokens ∧ t.d2d.wait = a.d2d.wait ∧ t.hnd = a.hnd ∧
      t.nib.events.map (fun x => (x.id, x.st, x.cOn, x.cOff)) = [(e.id, .waiting, e.cOn, e.cOff)]
    a.bankOrder b = [e] → bankOf e.valve = b → a.nibRuns = true → a.dev.code ≠ .draining → a.nib.events = [e] →
    (e.st = .pending → e.cOn - a.tCommit ≤ a.full →
      (a.holdsArms = true → Ends (.eventArming dt b .clean) s fun t =>
        t.nib = a.nib ∧ t.d2d.wait = a.d2d.wait ∧ t.vlv = a.vlv ∧ t.hnd = a.hnd) ∧
      (a.holdsArms = false → a.lastStep = none →
        (a.vlv.valves[e.valve].inhibited = false → (e.energy : Int) ≤ a.available b → Ends (.eventArming dt b .clean) s fun t =>
          armed t 0 ∧ t.vlv = a.vlv ∧ t.sw = a.sw ∧ t.time = a.time ∧ t.dev = a.dev) ∧
        (a.vlv.valves[e.valve].inhibited = true → Ends (.eventArming dt b .clean) s fun t =>
          t.nib.tokens = a.nib.tokens ∧ t.d2d.wait = a.d2d.wait ∧ t.vlv = a.vlv) ∧
        (a.vlv.valves[e.valve].inhibited = false → a.available b < (e.energy : Int) →
          (a.staggerTol e ≠ 0 → Ends (.eventArming dt b .clean) s fun t => stays t ∧ t.vlv = a.vlv ∧ t.time = a.time) ∧
          (a.staggerTol e = 0 → e.carrier = none → a.mode = 0 ∨ a.mode = 1 → a.tablesWf = true →
            Ends (.eventArming dt b .clean) s fun t => shed t ∧ t.vlv = a.vlv ∧ t.time = a.time)))) ∧
    (∀ v : Nat, e.st = .waiting → a.holdsArms = false → v ≤ 2424 → a.vlv.banks[b].goal = none →
      let energy : Int := a.eEst b v - (a.tokens b false : Int) - (a.tokens b true : Int)
      let d : Int := a.full - (e.cOn - a.tCommit)
      (d ≤ a.staggerTol e → a.vlv.valves[e.valve].inhibited = false → (e.energy : Int) ≤ energy →
        Ends (.bstcReport dt b v) s fun t => armed t d ∧ (0 < d → t.nib.events.map (·.moved) = [true]) ∧
          t.vlv.banks[b].v = v ∧ t.vlv.banks[b].eEst = a.eEst b v) ∧
      (d ≤ a.staggerTol e → a.staggerTol e ≠ 0 → a.vlv.valves[e.valve].inhibited = false → energy < (e.energy : Int) →
        Ends (.bstcReport dt b v) s fun t => stays t ∧ t.vlv.banks[b].v = v) ∧
      (a.staggerTol e < d → a.vlv.valves[e.valve].inhibited = false → e.carrier = none → a.mode = 0 ∨ a.mode = 1 →
        a.tablesWf = true → Ends (.bstcReport dt b v) s fun t => shed t ∧ t.vlv.banks[b].v = v))

/-- EJECT_DIRECT, and the merging of pulses on one valve. In IDLE or SORTING, EJECT_DIRECT for a valve of an enabled bank at
an instant far enough ahead and at
most 300 ms away, with a permitted length and shape row, takes a handle of the ejection pool, and with no other event
scheduled stands pending with the coil-on at its instant and the coil-off its length later. With one event scheduled on its
valve whose pulse it meets, not yet armed, the two become one pulse from the earlier coil-on to the later coil-off, of which
the earlier is the carrier and the later a passenger, and MERGED counts. An armed pulse that ends no earlier carries it as it
is, and so does one past which it would have to move beyond its tolerance; else it moves behind the armed pulse and its gap,
at least 500 us after its coil-on. -/
def Obligations.DirectPulseIsScheduled : Prop :=
  ∀ (s : State) (dt : Nat) (r : Request) (a : State), Heard s dt 0x21 r a →
    let w := arg r 1
    let v : Valve := Fin.ofNat 64 (fld w 5 0)
    let on := a.resolve (arg r 0)
    let off := on + (fld w 47 32 * 100 : Nat)
    let h := a.hnd.idOf a.hnd.ej.fresh
    Takes a r false false false 2 2 → a.dev.code = .idle ∨ a.dev.code = .sorting → a.vlv.banks[bankOf v].en = true →
    bit w 12 = false → on - a.full ≤ 30000000 → (a.tCommit : Int) + 100 ≤ on - a.full → fld w 19 16 ≤ 7 →
    200 ≤ fld w 47 32 → fld w 47 32 ≤ 50000 → a.hnd.ej.fresh < 0x3F00 → a.frozen 0 = false →
    (a.nib.events = [] → Ends (.ejectDirect dt r) s fun t =>
      t.nib.events.map (fun e => (e.id, e.valve, e.st, e.cOn, e.cOff, e.direct)) = [(h, v, .pending, on, off, true)] ∧
      t.hnd.ej.fresh = a.hnd.ej.fresh + 1 ∧
      t.hnd.ej.live = a.hnd.ej.live ++ [{ id := h, st := .accepted, opc := 0x20, dst := r.src }] ∧
      t.vlv = a.vlv ∧ t.sw = a.sw ∧ t.dev = a.dev ∧ t.time = a.time ∧ t.par = a.par) ∧
    (∀ (y : Event) (cls : Nat), a.nib.events = [y] → y.valve = v → y.carrier = none → y.id ≠ h → cls = fld w 11 8 →
      let gap : Int := max (a.sf (a.setOf on) (0x230 + cls) 31 22 * 100 : Nat) (a.mergeGap y)
      let tol : Int := (a.sf (a.setOf on) (0x230 + cls) 41 32 * 100 : Nat)
      max (y.cOn - off) (on - y.cOff) < gap ∨ (on - y.cOn).natAbs < 50000 →
      (y.st = .pending ∨ y.st = .waiting → a.tablesWf = true → Ends (.ejectDirect dt r) s fun t =>
        fld (t.work 0x208) 47 24 = (fld (a.work 0x208) 47 24 + 1) % 2 ^ 24 ∧ t.vlv = a.vlv ∧ t.d2d = a.d2d ∧
        t.nib.tokens = a.nib.tokens ∧ t.nib.events.map (fun e => (e.id, e.st, e.carrier, e.cOn, e.cOff)) =
          if y.cOn ≤ on then
            [(y.id, y.st, none, y.cOn, boundPulse y.cOn (max y.cOff off)), (h, .passenger, some y.id, on, off)]
          else [(y.id, .passenger, some h, y.cOn, y.cOff), (h, .pending, none, on, boundPulse on (max y.cOff off))]) ∧
      (y.st = .armed →
        let start : Int := max on (max (y.cOff + gap) (y.cOn + 50000))
        (off ≤ y.cOff ∨ tol < start - on → Ends (.ejectDirect dt r) s fun t =>
          t.nib.events.map (fun e => (e.id, e.st, e.carrier, e.cOn, e.cOff)) =
            [(y.id, .armed, none, y.cOn, y.cOff), (h, .passenger, some y.id, on, off)] ∧
          (∃ l : Live, t.live? h = some l ∧ l.st = .armed) ∧ t.vlv = a.vlv ∧ t.d2d = a.d2d) ∧
        (y.cOff < off → start - on ≤ tol → Ends (.ejectDirect dt r) s fun t =>
          t.nib.events.map (fun e => (e.id, e.st, e.carrier, e.cOn, e.cOff, e.delta)) =
            [(y.id, .armed, none, y.cOn, y.cOff, y.delta),
             (h, .pending, none, start, boundPulse start (off + (start - on)), start - on)] ∧
          t.vlv = a.vlv ∧ t.d2d = a.d2d ∧ t.par = a.par)))

/-- BANK_ENABLE, BANK_DISABLE, EVENT_QUERY and CANCEL. BANK_ENABLE in IDLE or SORTING enables the named banks that are
ready and no other; BANK_DISABLE, with no event scheduled, disables the named banks; nothing else of a bank changes. With one
event scheduled on a named bank, one not yet armed and before its arming point retires CANCELLED with its completion; an
armed one stays as it is without FORCED, and with it retires CANCELLED with ARMED set, while a CUT that names every channel of
the named banks goes to its Quill.
EVENT_QUERY answers for a live event, and NO_SUCH_HANDLE for a handle that is neither in use nor staged in the log.
CANCEL comes after the arming of its tick: of an accepted FW_BEGIN it ends it CANCELLED; of an ejection event that is not
armed it retires the event CANCELLED, with its completion, and is answered OK; of an armed handle it is answered
LOCKED, of a retiring one BAD_STATE with the final status and the state, of a free one NO_SUCH_HANDLE, and changes nothing. -/
def Obligations.BanksAreEnabledAndDisabled : Prop :=
  ∀ (s : State) (dt : Nat) (r : Request),
    (∀ a, Heard s dt 0x22 r a → Takes a r false true false 1 1 → a.dev.code = .idle ∨ a.dev.code = .sorting →
      Ends (.bankEnable dt r) s fun t => t.vlv = { a.vlv with banks := t.vlv.banks } ∧ t.dev = a.dev ∧ t.nib = a.nib ∧
        ∀ b : Bank, t.vlv.banks[b] =
          { a.vlv.banks[b] with en := a.vlv.banks[b].en || (bit (arg r 0) b.val && a.vlv.banks[b].ready) }) ∧
    (∀ a, Heard s dt 0x23 r a → Takes a r true true true 1 1 → a.nib.events = [] → a.nib.aborted = [] →
      a.dev.code ≠ .draining → Ends (.bankDisable dt r) s fun t => t.vlv.chans = a.vlv.chans ∧ t.vlv.valves = a.vlv.valves ∧ t.dev = a.dev ∧
        t.nib = a.nib ∧ ∀ b : Bank, t.vlv.banks[b] =
          { a.vlv.banks[b] with en := a.vlv.banks[b].en && !bit (arg r 0) b.val }) ∧
    (∀ a, Heard s dt 0x23 r a → Takes a r true true true 1 1 → a.nib.aborted = [] → a.dev.code ≠ .draining →
      ∀ (e : Event) (l : Live), a.nib.events = [e] → e.carrier = none → bit (arg r 0) (bankOf e.valve).val = true →
        a.live? e.id = some l →
        let ended (t : State) (wasArmed : Bool) : Prop := t.vlv.banks[bankOf e.valve].en = false ∧ t.vlv.chans = a.vlv.chans ∧
          t.nib.events.map (fun x => (x.id, x.st, x.final, x.wasArmed)) = [(e.id, .retiring, some .cancelled, wasArmed)] ∧
          ∃ c ∈ t.hnd.queue, c.handle = some e.id ∧ c.dst = l.dst ∧ fld (c.words.headD 0) 47 40 = 3
        (e.st = .pending ∧ a.due e = false ∨ e.st = .waiting → l.st = .accepted → e.wasArmed = false →
          a.mode = 0 ∨ a.mode = 1 → Ends (.bankDisable dt r) s fun t => ended t false ∧ t.nib.tokens = a.nib.tokens) ∧
        (e.st = .armed → bit (arg r 0) 8 = false → Ends (.bankDisable dt r) s fun t =>
          t.vlv.banks[bankOf e.valve].en = false ∧ t.nib = a.nib ∧ t.d2d.wait = a.d2d.wait ∧ t.hnd = a.hnd) ∧
        (e.st = .armed → bit (arg r 0) 8 = true → l.st = .armed → a.mode = 0 ∨ a.mode = 1 →
          Ends (.bankDisable dt r) s fun t => ended t true ∧
            let q := (quillOf (bankOf e.valve)).val
            ∃ w ∈ t.d2d.wait, w.link = linkOf (quillOf (bankOf e.valve)) ∧ w.msg = .cut (BitVec.ofNat 32
              (b2n (bit (arg r 0) (2 * q)) * 0xFFFF + b2n (bit (arg r 0) (2 * q + 1)) * 0xFFFF0000)))) ∧
    (∀ a, Heard s dt 0x26 r a → Takes a r false false true 1 1 →
      (∀ (l : Live) (e : Event), a.live? (BitVec.ofNat 16 (fld (arg r 0) 15 0)) = some l → a.event? l.id = some e →
        exec (.eventQuery dt r) s = .next (a.reply 0x26 r .ok 0 0 (a.queryLive l).1)) ∧
      (a.live? (BitVec.ofNat 16 (fld (arg r 0) 15 0)) = none → a.log.staging = [] →
        exec (.eventQuery dt r) s = .next (a.reply 0x26 r .noSuchHandle 0 (fld (arg r 0) 15 0) []))) ∧
    (∀ a, Heard s dt 0x0E r a → Takes a r true false true 1 1 → ∀ h : HandleId, h = BitVec.ofNat 16 (fld (arg r 0) 15 0) →
      (∀ l : Live, (s.elapse dt).armDue.live? h = some l → l.st = .accepted →
        let b := a.armDue
        b.live? h = some l → l.id = h → isEj h = false → l.opc = 0xF0 → b.dev.code ≠ .draining →
        exec (.cancel dt r) s = .next
          ((({ b with fw := { b.fw with load := b.fw.load.filter fun x => x.handle != h } } : State).complete h
            .cancelled 0 0 []).reply 0x0E r .ok 0 0 [])) ∧
      (∀ (e : Event) (l : Live), a.nib.events = [e] → e.id = h → isEj h = true → e.carrier = none → e.wasArmed = false →
        e.st = .pending ∧ a.due e = false ∨ e.st = .waiting → a.live? h = some l → l.st = .accepted →
        a.mode = 0 ∨ a.mode = 1 → a.dev.code ≠ .draining → Ends (.cancel dt r) s fun t =>
          t.nib.events.map (fun x => (x.id, x.st, x.final, x.wasArmed)) = [(h, .retiring, some .cancelled, false)] ∧
          (∃ c ∈ t.hnd.queue, c.handle = some h ∧ c.dst = l.dst ∧ fld (c.words.headD 0) 47 40 = 3) ∧
          t.nib.tokens = a.nib.tokens ∧ t.d2d = a.d2d ∧ t.vlv = a.vlv ∧ t.dev = a.dev ∧
          (r.dst ≠ 62 → r.noreply = false → a.portUp r.port = true →
            ∃ x ∈ ((t.port r.port).lane r.urgent).stored, x.words = [0] ∧
              x.header = mkHeader r.src a.dev.addr 0x0E r.tag 1 true false r.urgent)) ∧
      (∀ l : Live, (s.elapse dt).armDue.live? h = some l → l.st = .retiring →
        (s.elapse dt).armDue.abortedNow (fun e => e.id == h) = [] → exec (.cancel dt r) s =
          .next (a.reply 0x0E r .badState 0 (((l.final.map Status.num).getD 0) * 2 ^ 16 + a.dev.code.num) [])) ∧
      (∀ l : Live, (s.elapse dt).armDue.live? h = some l → l.st = .armed →
        exec (.cancel dt r) s = .next (a.reply 0x0E r .locked 0 h.toNat [])) ∧
      ((s.elapse dt).armDue.live? h = none → exec (.cancel dt r) s = .next (a.reply 0x0E r .noSuchHandle 0 h.toNat [])))

/-- SORT_START, its hold at the master, and SORT_STOP. SORT_START with a job number in IDLE enters SORTING with that job;
a master without a completed enumeration holds it, and SORT_START_HOLD_END carries the held one out once the chain is
complete. SORT_STOP in SORTING drains: with an event outstanding the part is DRAINING and keeps its job, with none it
is IDLE and the job is over; a pending automatic restart is cancelled. The records of a DETECT of the very tick are not
taken: they leave the queues and are counted as outside SORTING; that a DETECT which comes first in the tick of the stop
belongs to that tick is the model's reading (log entry 1). -/
def Obligations.SortJobsStartAndStop : Prop :=
  ∀ (s : State) (dt : Nat),
    (∀ r a, Heard s dt 0x24 r a → Takes a r false true false 1 1 → a.dev.code = .idle → fld (arg r 0) 15 0 ≠ 0 →
      (a.dev.master = false ∨ a.dev.chainOk = true → Ends (.sortStart dt r) s fun t =>
        t.dev = { a.dev with code := .sorting, startStep := 0, job := fld (arg r 0) 15 0 } ∧
        t.dog.aborted = false ∧ t.dog.restartAt = none ∧ t.vlv = a.vlv ∧ t.nib = a.nib ∧ t.time = a.time) ∧
      (a.dev.master = true → a.dev.chainOk = false → exec (.sortStart dt r) s =
        .next { a with dev := { a.dev with heldStarts := a.dev.heldStarts ++ [(r, a.clk)] } })) ∧
    (∀ (r : Request) (at_ : Nat) (a : State), a = s.elapse dt → a.dev.chainOk = true → a.answers = true →
      a.dev.heldStarts = [(r, at_)] → a.dev.code = .idle → fld (arg r 0) 15 0 ≠ 0 →
      Ends (.sortStartHoldEnd dt) s fun t =>
        t.dev = { a.dev with code := .sorting, startStep := 0, job := fld (arg r 0) 15 0, heldStarts := [] }) ∧
    (∀ r a, Heard s dt 0x25 r a → Takes a r true true true 1 1 → a.dev.code = .sorting → bit (arg r 0) 0 = false →
      (a.hnd.ej.live ≠ [] → Ends (.sortStop dt r) s fun t => t.dev = { a.dev with code := .draining, startStep := 0 } ∧
        t.dog.restartAt = none ∧ t.dog.auto = some false ∧ t.hnd.ej = a.hnd.ej ∧ t.nib.events = a.nib.events ∧
        t.vlv = a.vlv ∧ (a.takenNow = [] → t.nib = { a.nib with taken := [] }) ∧
        (∀ x : Arrived, a.takenNow = [x] → x.stale = 0 → a.nib.held = [] → a.tablesWf = true →
          (∀ b : Bank, t.nib.queue b = (a.nib.queue b).filter fun y => !(decide (x.first ≤ y.no) && decide (y.no < x.fin))) ∧
          fld (t.work 0x204) 23 0 = (fld (a.work 0x204) 23 0 + (x.fin - x.first)) % 2 ^ 24)) ∧
      (a.hnd.ej.live = [] → a.nib.qA = [] → a.nib.qB = [] → a.nib.qC = [] → a.nib.qD = [] → a.nib.held = [] →
        Ends (.sortStop dt r) s fun t => t.dev.code = .idle ∧ t.dev.job = 0 ∧ t.dev.lastJob = a.dev.job))

/-- A pulse from coil-on to the end of Hairline. At C_on the first held ARM of a channel without a pulse, or whose earlier
pulse turns off, begins its Swell with BOOST and counts in PULSES; SWELL_PEAK with the first sample that reaches I_S,
above the band, leads to the transition, with its time to peak to 1 us, the signature of the samples and the energy kept
and the SWELL_END report sent; SWELL_TIMEOUT, with no sample at I_S, does so with TTP_LATE; TRANSITION_END leads to
Hairline in the hold decay mode of the shape row, and so does the peak at or below the upper edge of the band, driven from
the battery at the lower edge; HAIRLINE_CHOP, 2 us after the last switching on or off and 1 us after that of MIXED, drives
from the battery at
the lower edge of the band and by the hold decay mode at the upper one; MIXED_DECAY_SWITCH turns the fast decay of MIXED
into slow after MIXED_T. The other channels and the banks stay. That a Swell ends a turn-off which still runs on its channel
is the model's choice (log entry 63), and so are the moment and the windows of the signature's search (log entries 44 and
76). -/
def Obligations.PulseRunsThroughItsPhases : Prop :=
  ∀ (s : State) (dt : Nat) (v : Valve), let a := s.elapse dt
    let c := a.vlv.chans[v]
    let rest (t : State) : Prop := (∀ w : Valve, w ≠ v → t.vlv.chans[w] = a.vlv.chans[w]) ∧ t.vlv.banks = a.vlv.banks ∧
      t.sw = a.sw ∧ t.time = a.time ∧ t.dev = a.dev ∧ t.vlv.chans[v].latched = c.latched
    let free : Prop := a.dog.recalls = []
    (∀ (f : ArmFrame) (l : List ArmFrame), c.held = f :: l → (∀ p ∈ c.pulse, p.phase = .turnOff) → c.latched = false →
      (a.quill (quillOfValve v)).allOff = false → (a.quill (quillOfValve v)).stopped = false →
      (a.quill (quillOfValve v)).reached f.cOn = true →
      Ends (.coilOn dt v) s fun t => rest t ∧ t.vlv.chans[v].held = l ∧ t.vlv.chans[v].drive = .boost ∧
        t.vlv.chans[v].pulse.map (fun p => (p.frame, p.phase, p.outcome, p.startAt)) = some (f, .swell, .fired, a.clk) ∧
        (t.par = a.par ∨ c.pulse ≠ none ∧ t.par = (a.count (0x1018 + (bankOf v).val) true 1).par) ∧
        t.vlv.valves[v].pulses = a.vlv.valves[v].pulses + 1 ∧ t.hnd = a.hnd) ∧
    (∀ (p : Pulse) (drawn : Nat) (current : List Nat), free → c.pulse = some p → p.phase = .swell → p.frame.valve = v →
      a.swellI p.frame ≤ current.getLastD 0 → (∀ i ∈ current.dropLast, i < a.swellI p.frame) →
      16 * a.hairlineI p.frame + fld (a.shapeRow p.frame) 23 16 < current.getLastD 0 →
      Ends (.swellPeak dt v current drawn) s fun t => rest t ∧ t.par = a.par ∧
        t.vlv.chans[v].drive = (if fld (a.shapeRow p.frame) 7 7 = 1 then .slow else .fast) ∧
        (∃ ttp : Nat, (a.clk - p.startAt) / 100 ≤ ttp ∧ ttp ≤ (a.clk - p.startAt + 99) / 100 ∧
          t.vlv.chans[v].pulse.map (fun p => (p.phase, p.ttp, p.sig, p.drawn, p.swellSent)) =
            some (.transition, some ttp, a.signature v current, drawn, true)) ∧
        t.d2d.wait.length = a.d2d.wait.length + 1 ∧ t.hnd = a.hnd ∧ t.nib = a.nib) ∧
    (∀ (p : Pulse) (drawn : Nat) (current : List Nat), free → c.pulse = some p → p.phase = .swell → p.frame.valve = v →
      a.swellI p.frame ≤ current.getLastD 0 → (∀ i ∈ current.dropLast, i < a.swellI p.frame) →
      let i := current.getLastD 0
      let middle := 16 * a.hairlineI p.frame
      let half := fld (a.shapeRow p.frame) 23 16
      let decay : Drive := if fld (a.shapeRow p.frame) 9 8 = 0 then .slow else .fast
      i ≤ middle + half → Ends (.swellPeak dt v current drawn) s fun t => rest t ∧ t.par = a.par ∧
        t.vlv.chans[v].pulse.map (fun p => (p.phase, p.sig, p.drawn, p.swellSent, p.swAt)) =
          some (.hairline, a.signature v current, drawn, true, a.clk) ∧
        (t.vlv.chans[v].drive = .battery ∨ t.vlv.chans[v].drive = decay) ∧
        (i + half ≤ middle → t.vlv.chans[v].drive = .battery) ∧
        (i = middle + half → 0 < half → t.vlv.chans[v].drive = decay)) ∧
    (∀ (p : Pulse) (drawn : Nat) (current : List Nat), free → c.pulse = some p → p.phase = .swell → p.frame.valve = v →
      p.startAt + fld (a.shapeRow p.frame) 15 10 * 10000 ≤ a.clk →
      (∀ i ∈ current, i < a.swellI p.frame) →
      16 * a.hairlineI p.frame + fld (a.shapeRow p.frame) 23 16 < current.getLastD 0 →
      Ends (.swellTimeout dt v current drawn) s fun t => rest t ∧ t.par = a.par ∧
        t.vlv.chans[v].pulse.map (fun p => (p.phase, p.sig, p.drawn, p.diag)) =
          some (.transition, a.signature v current, drawn, 3) ∧
        t.hnd = a.hnd ∧ t.nib = a.nib) ∧
    (∀ p : Pulse, c.pulse = some p → p.phase = .transition → exec (.transitionEnd dt v) s = .next
      (a.modChan v fun c => { c with
        drive := if fld (a.shapeRow p.frame) 9 8 = 0 then .slow else .fast
        pulse := some { p with phase := .hairline, chopAt := a.clk, swAt := a.clk } })) ∧
    (∀ p : Pulse, c.pulse = some p → p.phase = .hairline →
      (p.swAt + 200 ≤ a.clk → p.mixAt + 100 ≤ a.clk → c.drive ≠ .battery → exec (.hairlineChop dt v false) s = .next (a.modChan v fun c => { c with
        drive := .battery, pulse := some { p with swAt := a.clk } })) ∧
      (p.swAt + 200 ≤ a.clk → p.mixAt + 100 ≤ a.clk → c.drive = .battery → exec (.hairlineChop dt v true) s = .next (a.modChan v fun c => { c with
        drive := if fld (a.shapeRow p.frame) 9 8 = 0 then .slow else .fast
        pulse := some { p with chopAt := a.clk, swAt := a.clk } })) ∧
      (∀ e : Bool, a.clk < p.swAt + 200 ∨ a.clk < p.mixAt + 100 → exec (.hairlineChop dt v e) s = .next a) ∧
      (fld (a.shapeRow p.frame) 9 8 = 2 → c.drive = .fast → p.chopAt + fld (a.shapeRow p.frame) 6 1 * 100 ≤ a.clk →
        exec (.mixedDecaySwitch dt v) s = .next (a.modChan v fun c => { c with
          drive := .slow, pulse := some { p with mixAt := a.clk } })))

/-- Turn-off, its end, and the driver protections. COIL_OFF on its tick turns the coil off fast, with NO_MOTION when the
Swell ended without a signature; TURN_OFF_END frees the channel, and counts in OVERRECOVER when the bank met its ceiling,
3.00 V above its target; VALVE_SHORT turns off fast, latches the channel and alerts the Scribe; VALVE_OPEN, 50 us after
C_on with a current below 50 mA, frees the channel at once, counts in OPENS and sends both reports, with code 5 and the
signature of the samples, and the alert; QUILL_OVERTEMP turns every driven coil of the Quill off and drops its
ARMs, and QUILL_COOLDOWN lets it take ARMs again. That OPENS counts at the detection, and that a Swell which C_off ends
without a signature is NO_MOTION, is the model's reading (log entry 44). -/
def Obligations.PulseEndsAndIsProtected : Prop :=
  ∀ (s : State) (dt : Nat) (v : Valve), let a := s.elapse dt
    let c := a.vlv.chans[v]
    let rest (t : State) : Prop := (∀ w : Valve, w ≠ v → t.vlv.chans[w] = a.vlv.chans[w]) ∧ t.vlv.banks = a.vlv.banks ∧
      t.sw = a.sw ∧ t.time = a.time ∧ t.dev = a.dev ∧ t.hnd = a.hnd ∧ t.nib = a.nib
    a.dog.recalls = [] →
    (∀ p : Pulse, c.pulse = some p → p.phase ≠ .turnOff →
      ((a.quill (quillOfValve v)).reached p.frame.cOff = true → ∀ (current : List Nat) (drawn : Nat),
        Ends (.coilOff dt v current drawn) s fun t => rest t ∧ t.par = a.par ∧ t.vlv.chans[v].drive = .fast ∧
          t.vlv.chans[v].pulse.map (fun x => (x.phase, x.frame, x.diag, x.outcome)) =
            some (.turnOff, p.frame, if p.phase = .swell ∧ a.signature v current = none then 4 else p.diag, p.outcome) ∧
          t.vlv.chans[v].held = c.held ∧ t.vlv.chans[v].latched = c.latched) ∧
      (∀ (current : List Nat) (drawn : Nat), Ends (.valveShort dt v current drawn) s fun t => rest t ∧ t.par = a.par ∧
        t.vlv.chans[v].drive = .fast ∧ t.vlv.chans[v].latched = true ∧
        t.vlv.chans[v].pulse.map (fun x => (x.phase, x.diag, x.outcome)) = some (.turnOff, 6, .valveFault) ∧
        t.d2d.wait = a.d2d.wait ++
          [{ link := linkOf (quillOfValve v), msg := .alert (.short v), sentAt := a.clk, fails := 0 }])) ∧
    (∀ (p : Pulse) (rec_ peak : Nat) (samples : List (BitVec 12)), c.pulse = some p → p.phase = .turnOff →
      Ends (.turnOffEnd dt v rec_ peak samples) s fun t => rest t ∧
        t.par = (if (a.vlv.banks[bankOf v].target + 12) * 8 ≤ peak then
          a.count (0x1018 + (bankOf v).val) true 1 else a).par ∧
        t.vlv.chans[v] = { c with drive := .off, pulse := none } ∧
        t.d2d.wait.getLast? = some { link := linkOf (quillOfValve v), msg := p.off rec_ samples, sentAt := a.clk, fails := 0 }) ∧
    (∀ (rec_ peak : Nat) (samples : List (BitVec 12)), c.pulse = none →
      exec (.turnOffEnd dt v rec_ peak samples) s = .next (a.modChan v fun c => { c with drive := .off })) ∧
    (∀ (p : Pulse) (current : List Nat) (drawn : Nat), c.pulse = some p → p.phase = .swell → p.startAt + 5000 ≤ a.clk →
      current.getLastD 0 < 50 → Ends (.valveOpen dt v current drawn) s fun t =>
      rest t ∧ t.par = (a.count (0x1280 + v.val) false 1).par ∧ t.vlv.chans[v] = { c with drive := .off, pulse := none } ∧
      let p' : Pulse := { p with diag := 5, outcome := .valveFault, sig := a.signature v current, drawn }
      t.d2d.wait = a.d2d.wait ++ [p'.swellEnd, p'.off 0 [], .alert (.openCoil v)].map fun m =>
        { link := linkOf (quillOfValve v), msg := m, sentAt := a.clk, fails := 0 }) ∧
    (∀ q : Fin 2, Ends (.quillOvertemp dt q) s fun t => (t.quill q).hot = true ∧ t.vlv.banks = a.vlv.banks ∧
      (∀ w : Valve, quillOfValve w = q → t.vlv.chans[w].held = [] ∧ t.vlv.chans[w].driven = false) ∧
      (∀ w : Valve, quillOfValve w ≠ q → t.vlv.chans[w] = a.vlv.chans[w])) ∧
    (∀ q : Fin 2, (a.quill q).hot = true → Ends (.quillCooldown dt q) s fun t => (t.quill q).hot = false ∧
      t.vlv.chans = a.vlv.chans ∧ t.vlv.banks = a.vlv.banks ∧ t.vlv.valves = a.vlv.valves)

/-- SWELL_END, OFF and ALERT at the Scribe. With the Nib engines running, SWELL_END of a pulse whose Swell has begun takes
its tokens in coil away and keeps time to peak, signature and energy, for a VALVE_TEST too. Unless a VALVE_TEST asked for no
FOLD, a code of NORMAL, TTP_EARLY, TTP_SLOW
or NO_MOTION teaches the Swell energy, seeded from the first measurement and by an eighth of the difference after; and one of
NORMAL, TTP_EARLY or TTP_SLOW with a signature, while LEARN_HOLD is 0, teaches the accumulator of the learned delay: the
measured delay freed of the temperature replaces it at the first measurement, moves it by 1/2^k of the difference within the
gate, and counts an outlier beyond it, whose eighth in a row replaces it; the learned delay is the accumulator with the
temperature term, to the nearest tick. OFF of a pulse whose coil was switched on gives the valve its last diagnostic and
recovered energy, and counts a time-to-peak code in TTP_OUT and NO_MOTION in NO_MOTION; the armed event ends with the status
of the pulse and its completion. ALERT only leaves the list of waiting frames. Which neighbour in 1/16 K the temperature takes
is free (log entry 12). -/
def Obligations.ReportsReachTheScribe : Prop :=
  ∀ (s : State) (dt : Nat) (q : Fin 2), let a := s.elapse dt
    a.nibRuns = true → a.dev.code ≠ .draining →
    (∀ (r : SwellReport) (k : Token), let x := a.vlv.valves[r.valve]
      let held := a.pf (0x1140 + r.valve.val) 0 0
      let others (t : State) : Prop := (∀ w : Valve, w ≠ r.valve → t.vlv.valves[w] = a.vlv.valves[w]) ∧
        t.vlv.chans = a.vlv.chans ∧ t.vlv.banks = a.vlv.banks ∧ t.hnd = a.hnd ∧ t.nib.events = a.nib.events
      let timed : Bool := r.diag == 0 || r.diag == 1 || r.diag == 2
      (a.nib.tokens.find? fun t => t.id == r.handle && t.begun) = some k →
      (Ends (.swellEnd dt q r) s fun t => others t ∧ (t.nib.tokens.any fun t => t.id == r.handle && t.begun) = false ∧
        t.vlv.valves[r.valve].drawnLast = r.drawn ∧ t.vlv.valves[r.valve].ttpLast = r.ttp.getD x.ttpLast ∧
        t.vlv.valves[r.valve].sigLast = r.sig.getD x.sigLast ∧
        t.vlv.tests = (a.vlv.tests.map fun y => if y.handle = r.handle then
          { y with ttp := r.ttp.getD 0, sig := r.sig.getD 0, drawn := r.drawn } else y) ∧
        (k.fold = true → (timed || r.diag == 4) = true →
          t.vlv.valves[r.valve].eSeeded = false ∧ t.vlv.valves[r.valve].eSwell =
            if x.eSeeded then min r.drawn (2 ^ 20 - 1)
            else ((x.eSwell : Int) + (((min r.drawn (2 ^ 20 - 1) : Nat) : Int) - x.eSwell) / 8).toNat) ∧
        (k.fold = false ∨ (timed || r.diag == 4) = false →
          t.vlv.valves[r.valve].eSeeded = x.eSeeded ∧ t.vlv.valves[r.valve].eSwell = x.eSwell) ∧
        (k.fold = false ∨ timed = false ∨ r.sig = none ∨ held ≠ 0 → t.vlv.valves[r.valve].acc = x.acc ∧
          t.vlv.valves[r.valve].dLearn = x.dLearn ∧ t.vlv.valves[r.valve].seeded = x.seeded ∧
          t.vlv.valves[r.valve].outlier = x.outlier ∧ t.par = a.par)) ∧
      (∀ g : Nat, k.fold = true → timed = true → r.sig = some g → held = 0 →
        Ends (.swellEnd dt q r) s fun t => others t ∧ ∃ t16 : Int, x.theta * 16 - 1 < t16 ∧ (t16 : Rat) < x.theta * 16 + 1 ∧
          let kappa := a.ps (0x1140 + r.valve.val) 32 21
          let meas : Int := (g * 10 + a.pf (0x1140 + r.valve.val) 44 33 * 100 : Nat)
          let norm := 16 * (meas * 16 - kappa * (t16 - 320))
          let near := (meas - x.dLearn).natAbs ≤ a.pf (0x1140 + r.valve.val) 20 11 * 100
          let y := t.vlv.valves[r.valve]
          y.seeded = false ∧ y.dLearn = roundHalfUp (y.acc * 16 + kappa * (t16 - 320) * 256) 4096 ∧
          (x.seeded = true → y.acc = norm ∧ y.outlier = x.outlier ∧ t.par = a.par) ∧
          (x.seeded = false → near →
            y.acc = x.acc + (norm - x.acc) / (2 ^ a.pf (0x1140 + r.valve.val) 47 45 : Nat) ∧ y.outlier = 0 ∧ t.par = a.par) ∧
          (x.seeded = false → ¬ near → t.par = (a.count (0x1280 + r.valve.val) true 1).par ∧
            (x.outlier = 7 → y.acc = norm ∧ y.outlier = 0) ∧
            (x.outlier ≠ 7 → y.acc = x.acc ∧ y.outlier = x.outlier + 1)))) ∧
    (∀ r : OffReport, let refused := a.nib.tokens.any fun t => t.id == r.handle && !t.begun
      (refused = false → a.test? r.handle = none → a.event? r.handle = none → Ends (.offReport dt q r) s fun t =>
        t.vlv.valves[r.valve].lastDiag = r.diag ∧ t.vlv.valves[r.valve].recovLast = r.recovered ∧
        t.par = (if r.diag = 1 ∨ r.diag = 2 ∨ r.diag = 3 then a.count (0x1240 + r.valve.val) true 1
          else if r.diag = 4 then a.count (0x1240 + r.valve.val) false 1 else a).par ∧
        t.vlv.chans = a.vlv.chans ∧ t.vlv.banks = a.vlv.banks ∧
        t.hnd = a.hnd ∧ (∀ w : Valve, w ≠ r.valve → t.vlv.valves[w] = a.vlv.valves[w])) ∧
      (∀ (e : Event) (l : Live), a.nib.events = [e] → e.id = r.handle → e.st = .armed → e.carrier = none →
        a.test? r.handle = none → a.live? e.id = some l → l.st = .armed → a.mode = 0 →
        Ends (.offReport dt q r) s fun t =>
          let st : Status := match r.outcome with
            | .valveFault => .valveFault
            | .cut => .cancelled
            | .fired => if e.late then .firedLate else if e.moved then .staggered else .ok
          t.nib.events.map (fun x => (x.id, x.st, x.final)) = [(e.id, .retiring, some st)] ∧
          (∃ c ∈ t.hnd.queue, c.handle = some e.id ∧ c.dst = l.dst ∧ fld (c.words.headD 0) 47 40 = st.num) ∧
          (t.nib.tokens.any fun t => t.id == r.handle && !t.begun) = false ∧
          (refused = true → t.vlv = a.vlv) ∧ t.vlv.chans = a.vlv.chans ∧ t.dev = a.dev)) ∧
    (∀ (x : AlertMsg) (w : D2dWait) (l : List D2dWait), a.d2d.wait = w :: l → w.link = linkOf q → w.msg = .alert x →
      exec (.alert dt q x) s = .next { a with d2d := { a.d2d with wait := l } })

/-- Voltage reports, regulation, BOOST_SET and the inhibit ramp. BSTC_REPORT puts the voltage and the energy estimate of
the bank into the ledger, and its converter switches while the voltage does not lie above the target; BANK_UNREGULATED
takes READY away and counts once the voltage has stayed outside 2 % for 1 ms, BANK_REGULATED gives it back once it has
stayed within for 500 us; BOOST_SET with a permitted voltage takes a handle and gives each named bank its goal;
BOOST_RAMP_STEP moves the target by 0.25 V no faster than BOOST_RAMP; BOOST_SET_TIMEOUT 100 ms after the target was
reached leaves a bank out that is not in regulation; INHIBIT_RAMP lowers the limit in force by 1 K each second. -/
def Obligations.BoostBanksFollowTheirTargets : Prop :=
  ∀ (s : State) (dt : Nat) (b : Bank), let a := s.elapse dt
    let k := a.vlv.banks[b]
    let others (t : State) : Prop := (∀ c : Bank, c ≠ b → t.vlv.banks[c] = a.vlv.banks[c]) ∧ t.vlv.chans = a.vlv.chans ∧
      t.sw = a.sw ∧ t.time = a.time
    (∀ v : Nat, v ≤ 2424 → a.dev.code = .idle → k.goal = none → a.nib.events = [] → Ends (.bstcReport dt b v) s fun t => others t ∧
      t.vlv.banks[b].v = v ∧ t.vlv.banks[b].eEst =
        (a.pf (0x1010 + b.val) 35 27 : Int) * ((v * v : Nat) -
          (64 * a.pf 0x203 (8 * b.val + 7) (8 * b.val) * a.pf 0x203 (8 * b.val + 7) (8 * b.val) : Nat)) / 2048 ∧
      t.vlv.banks[b].target = k.target ∧ t.vlv.banks[b].ready = k.ready ∧ t.hnd = a.hnd ∧ t.par = a.par ∧
      t.vlv.banks[b].switching =
        (!a.power.vbatLow && k.phase != .idle && k.phase != .failed && decide (v ≤ k.target * 8))) ∧
    (∀ x, k.ready = true → k.outAt = some x → x + 100000 ≤ a.clk → Ends (.bankUnregulated dt b) s fun t => others t ∧
      t.vlv.banks[b] = { k with ready := false } ∧ t.par = (a.count (0x1018 + b.val) false 1).par ∧
      t.hnd = a.hnd) ∧
    (k.outAt = none → exec (.bankUnregulated dt b) s = .next a) ∧
    (∀ x, k.phase = .regulated → k.ready = false → k.goal = none → k.bandAt = some x → x + 50000 ≤ a.clk → Ends (.bankRegulated dt b) s fun t => others t ∧
      t.vlv.banks[b] = { k with ready := true } ∧ t.hnd = a.hnd ∧ t.par = a.par) ∧
    (∀ g : Nat, k.goal = some g → k.target < g → k.rampAt + ceilDiv 2500000 (a.pf (0x1010 + b.val) 26 20) ≤ a.clk →
      (k.target + 1 ≠ g ∨ k.ready = false) → exec (.boostRampStep dt b) s = .next (a.modBank b fun k => ({ k with
        target := k.target + 1, rampAt := a.clk, reachedAt := if k.target + 1 = g then some a.clk else none } :
          BankSt).track a.clk a.power.vbatLow)) ∧
    (∀ (h : HandleId) (x : Nat), k.goalHandle = some h → k.goalDone = none → k.reachedAt = some x → x + 10000000 ≤ a.clk →
      (k.ready = false ∨ k.bandAt = none) →
      (∀ c : Bank, c ≠ b → a.vlv.banks[c].goalHandle = none) → Ends (.boostSetTimeout dt b) s fun t => others t ∧
        t.vlv.banks[b] = { k with goal := none, goalHandle := none, goalDone := none, reachedAt := none } ∧
        t.hnd = (a.complete h .partialDone 0 0 []).hnd) ∧
    (k.inhHandles = [] → a.pf (0x1014 + b.val) 31 24 < k.inhibit → k.inhAt + 100000000 ≤ a.clk →
      Ends (.inhibitRamp dt b) s fun t => others t ∧
        t.vlv.banks[b] = { k with inhibit := k.inhibit - 1, inhAt := a.clk } ∧ t.hnd = a.hnd ∧ t.par = a.par) ∧
    (∀ r a, Heard s dt 0x43 r a → Takes a r false true false 1 1 → a.working = true → fld (arg r 0) 3 0 = 2 ^ b.val →
      120 ≤ fld (arg r 0) 47 36 → fld (arg r 0) 47 36 ≤ 288 →
      a.pf 0x203 (8 * b.val + 7) (8 * b.val) + 16 ≤ fld (arg r 0) 47 36 → a.hnd.rs.fresh < 0x4000 →
      a.vlv.banks[b].goalHandle = none → a.vlv.banks[b].phase = .regulated →
      (a.vlv.banks[b].ready = false ∨ a.vlv.banks[b].target ≠ fld (arg r 0) 47 36) → Ends (.boostSet dt r) s fun t =>
        t.vlv.banks[b] = { a.vlv.banks[b] with
          goal := some (fld (arg r 0) 47 36), goalHandle := some (a.hnd.idOf a.hnd.rs.fresh), goalDone := none,
          rampAt := a.clk, reachedAt := if a.vlv.banks[b].target = fld (arg r 0) 47 36 then some a.clk else none } ∧
        (∀ c : Bank, c ≠ b → t.vlv.banks[c] = a.vlv.banks[c]) ∧ t.hnd.rs.fresh = a.hnd.rs.fresh + 1 ∧
        t.vlv.chans = a.vlv.chans ∧ t.dev = a.dev)

/-- Blotter, saved counters, VALVE_SHAPE, VALVE_TEST and VALVE_STATUS. BLOTTER_UPDATE moves its clock on by whole
milliseconds; every coil's temperature rise takes the heat of its current since the last update, its copper loss times
RTH against TAU, its temperature is T_AMB plus the rise, and no channel, bank or count moves; VALVE_COUNTER_SAVE, when due,
stores the counts and learned values of every valve and the clamp energies and marks nothing as changed, and a failed one
leaves the store; VALVE_SHAPE with STAGE writes the row of the stage, and without it the row of the set in force and sends
it to both Quills; VALVE_TEST in IDLE takes a handle, releases a latch with CLEAR, reserves the energy and sends one ARM at
T_commit from now, and for an inhibited coil completes INHIBITED; the OFF report of its pulse completes it with OK or
VALVE_FAULT and six words and one for every four samples; VALVE_STATUS answers the seven words of the valve and
changes no valve. That the Blotter integrates over whole milliseconds is the model's reading (log entry 45), under which
numbers the store keeps the values is its choice (log entry 21), and which neighbour in 1/16 K an answer takes is free (log
entry 12). -/
def Obligations.ValvesAreTestedAndKept : Prop :=
  ∀ (s : State) (dt : Nat), let a := s.elapse dt
    (let ms := (a.clk - a.vlv.blotAt) / 100000
      let tick : Rat := (ms : Rat) / 1000
      a.nibRuns = true → a.vlv.blotAt + 100000 ≤ a.clk → Ends (.blotterUpdate dt) s fun t =>
        t.vlv.blotAt = a.vlv.blotAt + ms * 100000 ∧ t.vlv.chans = a.vlv.chans ∧ t.vlv.banks = a.vlv.banks ∧
        t.hnd = a.hnd ∧ t.par = a.par ∧ t.nib = a.nib ∧
        ∀ v : Valve, let x := a.vlv.valves[v]
          let i : Rat := (x.heatI * 16 : Nat) / 1000
          let q := i * i * ((a.clk - x.heatAt : Nat) : Rat) / 100000000
          let heat := x.heat + if x.heatSwell then q / 3 else q
          let r : Rat := (a.pf (0x1100 + v.val) 47 32 : Rat) / 1000 * (1 + 393 / 100000 * (x.theta - 20))
          let rise := r * heat / tick * ((a.pf (0x1100 + v.val) 31 20 : Rat) / 10)
          let y := t.vlv.valves[v]
          y.delta = x.delta + (rise - x.delta) * tick / (a.pf (0x1100 + v.val) 19 10 : Rat) ∧
          y.theta = (a.ps (0x1010 + (bankOf v).val) 19 12 : Rat) + y.delta ∧ y.heat = 0 ∧ y.heatAt = a.clk ∧
          y.acc = x.acc ∧ y.pulses = x.pulses ∧ y.eSwell = x.eSwell) ∧
    (a.answers = true → (a.vlv.saveDue = true ∨ a.unsaved = true ∧ a.vlv.savedAt + 360000000000 ≤ a.clk) →
      (Ends (.valveCounterSave dt true) s fun t => t.vlv.savedAt = a.clk ∧ t.vlv.saveDue = false ∧
        t.vlv.chans = a.vlv.chans ∧ t.vlv.banks = a.vlv.banks ∧ t.par.work = a.par.work ∧ t.sw = a.sw ∧
        (∀ v : Valve, let x := a.vlv.valves[v]
          tget t.par.store (0x1200 + v.val) = some x.pulses ∧
          tget t.par.store (accKey v.val) = some (BitVec.ofInt 48 x.acc) ∧
          tget t.par.store (seedKey v.val) =
            some (fields [(27, 8, x.eSwell), (1, 1, b2n x.eSeeded), (0, 0, b2n x.seeded)]) ∧
          t.vlv.valves[v] = { x with dirty := false }) ∧
        ∀ n : Sw, tget t.par.store (0x2030 + n.val) = some a.sw.ch[n].clampHi) ∧
      exec (.valveCounterSave dt false) s = .next { a with vlv := { a.vlv with saveDue := false } }) ∧
    (∀ r a fs, Heard s dt 0x40 r a → Takes a r false true false 2 2 → a.stage.st = .open_ →
      let id := 0x1000 + fld (arg r 0) 2 0
      paramFields id = some fs → badField fs (arg r 1) = none → rowBad (arg r 1) = none →
      (bit (arg r 0) 8 = true → a.working = true → Ends (.valveShape dt r) s fun t =>
        tval t.stage.words id = mergeWrite fs (tval a.stage.words id) (arg r 1) ∧
        (∀ j : Nat, j ≠ id → tval t.stage.words j = tval a.stage.words j) ∧ t.stage.st = .open_ ∧
        t.stage.set0 = a.stage.set0 ∧ t.stage.set1 = a.stage.set1 ∧ t.vlv = a.vlv ∧ t.par = a.par ∧ t.d2d = a.d2d) ∧
      (bit (arg r 0) 8 = false → a.dev.code = .idle → Ends (.valveShape dt r) s fun t =>
        let row := mergeWrite fs (a.work id) (arg r 1)
        let m : D2dMsg := .shape a.stage.force (Fin.ofNat 8 (fld (arg r 0) 2 0)) row
        t.work id = row ∧ (∀ j : Nat, j ≠ id → t.work j = a.work j) ∧ tval t.stage.words id = row ∧
        t.d2d.wait = a.d2d.wait ++ [{ link := 0, msg := m, sentAt := a.clk, fails := 0 },
          { link := 1, msg := m, sentAt := a.clk, fails := 0 }] ∧ t.vlv = a.vlv ∧ t.par = a.par)) ∧
    (∀ r a, Heard s dt 0x41 r a → Takes a r false false false 1 1 → a.dev.code = .idle →
      let v : Valve := Fin.ofNat 64 (fld (arg r 0) 5 0)
      let h := a.hnd.idOf a.hnd.rs.fresh
      a.vlv.banks[bankOf v].ready = true → fld (arg r 0) 23 14 ≤ 992 → fld (arg r 0) 31 24 ≠ 0 →
      200 ≤ fld (arg r 0) 47 32 → fld (arg r 0) 47 32 ≤ 50000 → a.hnd.rs.fresh < 0x4000 →
      (a.energyOf v : Int) ≤ a.available (bankOf v) →
      (a.vlv.valves[v].inhibited = false → Ends (.valveTest dt r) s fun t =>
        t.nib.tokens = a.nib.tokens ++
          [{ id := h, bank := bankOf v, energy := a.energyOf v, begun := false, fold := bit (arg r 0) 13 }] ∧
        t.d2d.wait = a.d2d.wait ++ [{ link := linkOf (quillOf (bankOf v)), sentAt := a.clk, fails := 0, msg := .arm {
          valve := v, cOn := a.full + a.tCommit, cOff := a.full + a.tCommit + (fld (arg r 0) 47 32 * 100 : Nat),
          set := a.stage.force, row := Fin.ofNat 8 (fld (arg r 0) 10 8), derate := a.vlv.valves[v].derated, handle := h } }] ∧
        t.vlv.tests.map (·.handle) = a.vlv.tests.map (·.handle) ++ [h] ∧
        t.vlv.chans[v] = { a.vlv.chans[v] with latched := a.vlv.chans[v].latched && !bit (arg r 0) 12 } ∧
        (∀ w : Valve, w ≠ v → t.vlv.chans[w] = a.vlv.chans[w]) ∧ t.hnd.rs.fresh = a.hnd.rs.fresh + 1 ∧
        (t.live? h).map (fun l => (l.st, l.opc, l.dst)) = some (.armed, 0x41, r.src) ∧ t.dev = a.dev ∧ t.par = a.par) ∧
      (a.vlv.valves[v].inhibited = true → (∀ l ∈ a.hnd.rs.live, l.id ≠ h) → Ends (.valveTest dt r) s fun t =>
        t.nib.tokens = a.nib.tokens ∧ t.d2d = a.d2d ∧ (t.live? h).map (·.final) = some (some .inhibited) ∧
        t.hnd.queue.length = a.hnd.queue.length + 1)) ∧
    (∀ (q : Fin 2) (x : OffReport) (k : TestRun) (l : Live), a.nibRuns = true → a.dev.code ≠ .draining → a.vlv.tests = [k] →
      k.handle = x.handle → a.live? k.handle = some l → l.st = .armed → Ends (.offReport dt q x) s fun t =>
        t.vlv.tests = [] ∧ (∃ c ∈ t.hnd.queue, c.handle = some k.handle ∧ c.dst = l.dst ∧
          c.words.length = 6 + (k.samples + 3) / 4 ∧ fld (c.words.headD 0) 47 40 = (if x.outcome = .valveFault then 0x24 else 0) ∧
          fld (c.words.headD 0) 2 0 = x.diag.toNat ∧ c.words.getD 5 0 = word (unsign 48 k.cOn)) ∧
        t.vlv.chans = a.vlv.chans ∧ t.vlv.banks = a.vlv.banks ∧ t.nib.events = a.nib.events) ∧
    (∀ r a, Heard s dt 0x42 r a → Takes a r false false true 1 1 → Ends (.valveStatus dt r) s fun t =>
      let v : Valve := Fin.ofNat 64 (fld (arg r 0) 5 0)
      let x := a.vlv.valves[v]
      let k := a.vlv.banks[bankOf v]
      ∃ t16 meas : Int, ((t16 : Rat) - x.theta * 16 < 1 ∧ x.theta * 16 - (t16 : Rat) < 1) ∧
        ((k.v / 8 : Nat) : Int) ≤ meas ∧ meas ≤ ((k.v + 7) / 8 : Nat) ∧
        ∃ n : Nat, t = ({ a with freeCtr := n } : State).reply 0x42 r .ok 0 0 [
          fields [(47, 28, unsign 20 x.dLearn), (27, 8, x.eSwell), (7, 7, b2n a.vlv.chans[v].latched),
            (6, 6, b2n x.derated), (5, 5, b2n x.inhibited), (4, 4, b2n x.warn), (3, 3, b2n x.seeded),
            (2, 0, x.lastDiag.toNat)],
          fields [(47, 36, x.ttpLast), (35, 20, x.sigLast), (15, 0, unsign 16 t16)],
          fields [(47, 28, sat 20 x.drawnLast), (27, 8, sat 20 x.recovLast)], x.pulses, a.work (0x1240 + v.val),
          fields [(47, 36, meas.toNat), (35, 24, k.target), (23, 16, k.inhibit),
            (3, 3, b2n (k.goal.any (fun g => g != k.target) || a.pf (0x1014 + (bankOf v).val) 31 24 != k.inhibit)),
            (2, 2, b2n (k.phase == .regulated && !k.ready)), (1, 1, b2n k.ready), (0, 0, b2n k.en)],
          a.work (0x1018 + (bankOf v).val)])

/-- SWITCH_SET, its gap steps, DIM and Kennel commands. In a working part outside the Kennel states, SWITCH_SET off turns
every named channel off with its window, keeps latches, with CLEAR all but those of this tick released, and leaves the
other channels; that a channel which began to cool in this tick latches then is the model's reading (log entry 77);
SWITCH_SET on without a gap opens an inrush window on every named channel that is off; one that a CLEAR releases while its
junction is too hot in this tick latches again without THERM_RETRY, and the reply is PARTIAL and names it; SWITCH_GAP_STEP
turns the next waiting channel on when its gap has passed; SWITCH_STATUS answers its nineteen words and changes no
channel; DIM_EDGE sets one pin's level; DIM_MAP writes the working copy; KENNEL_STORE waits for its write, which changes
codes and store, or nothing on failure; KENNEL_RELEASE leaves the Kennel states, and channels that code 01b held on count
as commanded. -/
def Obligations.SwitchesObeyCommands : Prop :=
  ∀ (s : State) (dt : Nat),
    (∀ r a, Heard s dt 0x50 r a → Takes a r true true false 1 1 → a.working = true → a.kennel.active = false →
      fld (arg r 0) 47 32 ≠ 0 →
      (bit (arg r 0) 0 = true → fld (arg r 0) 31 16 = 0 → Ends (.switchSet dt r) s fun t => t.vlv = a.vlv ∧
        t.dev = a.dev ∧ t.time = a.time ∧ ∀ n : Sw, t.sw.ch[n].st = if bit (arg r 0) (32 + n.val) then
          (if a.sw.ch[n].st = .thermalWait ∧ a.sw.ch[n].tripAt = some a.clk then .tripThermal
            else if a.sw.ch[n].st.latched && a.sw.ch[n].tripAt == some a.clk then a.sw.ch[n].st else .off)
          else a.sw.ch[n].st) ∧
      (bit (arg r 0) 0 = false → fld (arg r 0) 31 16 = 0 → Ends (.switchSet dt r) s fun t => t.vlv = a.vlv ∧ t.dev = a.dev ∧ t.time = a.time ∧
        ∀ n : Sw, t.sw.ch[n] = if bit (arg r 0) (32 + n.val) then
          { a.sw.ch[n] with
            commanded := false, kennelOn := false, inrushAt := none
            st := (if a.sw.ch[n].st = .thermalWait ∧ a.sw.ch[n].tripAt = some a.clk then .tripThermal
              else if a.sw.ch[n].st.latched then a.sw.ch[n].st else .off)
            offAt := if a.sw.ch[n].st == .on || a.sw.ch[n].st == .inrush then some a.clk else a.sw.ch[n].offAt
            windowEnd := if a.sw.ch[n].inrushAt.isSome then a.clk else a.sw.ch[n].windowEnd
            checkAt := if a.sw.ch[n].st == .on || a.sw.ch[n].st == .inrush then a.clk else a.sw.ch[n].checkAt
            probing := a.sw.ch[n].probing && a.sw.ch[n].st != .on && a.sw.ch[n].st != .inrush
            droppedAt := if a.limits n then some a.clk else a.sw.ch[n].droppedAt }
          else a.sw.ch[n]) ∧
      (bit (arg r 0) 0 = false → fld (arg r 0) 31 16 = fld (arg r 0) 47 32 → a.pf 0x2010 15 8 = 0 → a.d2d.ferruleHeard ≠ none →
        a.d2d.ferruleAllOff = false → (∀ n : Sw, a.sw.ch[n].hotAt ≠ some a.clk) →
        Ends (.switchSet dt r) s fun t => t.vlv = a.vlv ∧ t.dev = a.dev ∧ t.time = a.time ∧
          ∀ n : Sw, t.sw.ch[n] = if bit (arg r 0) (32 + n.val) then
            (if a.sw.ch[n].st = .off then
              { a.sw.ch[n] with commanded := true, st := .inrush, inrushAt := some a.clk, openLoad := false,
                                shortVbat := false, probing := false }
            else { a.sw.ch[n] with commanded := true })
            else a.sw.ch[n]) ∧
      (∀ n : Sw, bit (arg r 0) 0 = true → fld (arg r 0) 47 32 = 2 ^ n.val → fld (arg r 0) 31 16 = 2 ^ n.val →
        a.pf 0x2010 15 8 = 0 → a.d2d.ferruleHeard ≠ none → a.d2d.ferruleAllOff = false → a.sw.ch[n].st.latched = true →
        a.sw.ch[n].tripAt ≠ some a.clk → a.sw.ch[n].hotAt = some a.clk → a.pf (0x2000 + n.val) 14 14 = 0 →
        Ends (.switchSet dt r) s fun t => t.sw.ch[n].st = .tripThermal ∧ t.par = (a.count (0x2020 + n.val) true 1).par ∧
          (∀ m : Sw, m ≠ n → t.sw.ch[m] = a.sw.ch[m]) ∧ t.vlv = a.vlv ∧ t.dev = a.dev ∧
          (r.dst ≠ 62 → r.noreply = false → a.portUp r.port = true →
            ∃ x ∈ ((t.port r.port).lane r.urgent).stored, x.words = [fields [(47, 40, 7), (39, 24, 0), (23, 0, 2 ^ n.val)]] ∧
              x.header = mkHeader r.src a.dev.addr 0x50 r.tag 1 true false r.urgent))) ∧
    (∀ (a : State) (n : Sw) (l : List Sw) (x : Nat), a = s.elapse dt → a.sw.gaps = [(n :: l, x)] →
      x + a.pf 0x2010 15 8 * 100000 ≤ a.clk → a.d2d.ferruleHeard ≠ none → a.d2d.ferruleAllOff = false →
      a.sw.ch[n].st = .off → Ends (.switchGapStep dt) s fun t => t.sw.ch[n].st = .inrush ∧ t.sw.ch[n].commanded = true ∧
        (∀ m : Sw, m ≠ n → t.sw.ch[m] = a.sw.ch[m]) ∧ t.sw.gaps = (if l = [] then [] else [(l, a.clk)]) ∧
        t.vlv = a.vlv ∧ t.dev = a.dev) ∧
    (∀ r (m : SwitchMeas) a, Heard s dt 0x51 r a → Takes a r false false true 0 0 → Ends (.switchStatus dt r m) s fun t =>
      let sum := m.current.foldl (fun x c => x + c.toNat) 0
      let mask (p : Switch → Bool) : Nat := swMask fun n => p a.sw.ch[n]
      ∃ total : Nat, (sum < 4096 → total = sum) ∧ ∃ k : Nat, t = ({ a with freeCtr := k } : State).reply 0x51 r .ok 0 0
        (fields [(47, 32, mask (·.commanded)), (31, 16, swMask a.conducts), (15, 0, mask (·.st.latched))] ::
        fields [(47, 36, total), (35, 20, mask (·.inrushAt.isSome)), (15, 0, mask (·.openLoad))] ::
        fields [(47, 32, mask (·.shortVbat)),
          (31, 16, swMask fun n => (a.sw.ch[n].st == .on || a.sw.ch[n].st == .inrush) && a.gated n),
          (15, 8, m.ferruleT.toNat)] ::
        (List.finRange 16).map fun n => fields [(47, 36, m.current[n].toNat), (35, 28, m.temp[n].toNat),
          (27, 24, a.chState n (m.limiting.getLsbD n.val)), (23, 0, a.sw.ch[n].clampLast.toNat)])) ∧
    (∀ (pin : Fin 4) (level : Bool), Ends (.dimEdge dt pin level) s fun t =>
      t = { s.elapse dt with sw := { (s.elapse dt).sw with dim := t.sw.dim } } ∧
      ∀ i : Fin 4, t.sw.dim.getLsbD i.val = if i = pin then level else (s.elapse dt).sw.dim.getLsbD i.val) ∧
    (∀ r a, Heard s dt 0x53 r a → Takes a r false true false 2 2 → a.working = true → Ends (.dimMap dt r) s fun t =>
      t.work 0x2012 = arg r 0 ∧ fld (t.work 0x2010) 3 0 = fld (arg r 1) 3 0 ∧
      fld (t.work 0x2010) 47 4 = fld (a.work 0x2010) 47 4 ∧ t.sw = a.sw ∧ t.vlv = a.vlv ∧ t.stage = a.stage) ∧
    (∀ r a, Heard s dt 0x52 r a → Takes a r false true false 1 1 → a.working = true →
      (∀ n : Sw, fld (arg r 0) (2 * n.val + 1) (2 * n.val) ≠ 3) → exec (.kennelStore dt r) s = .next { a with
        par := { a.par with kennelOps := a.par.kennelOps ++ [(r, BitVec.ofNat 32 (fld (arg r 0) 31 0), a.clk)] } }) ∧
    (∀ (a : State) (r : Request) (codes : BitVec 32) (x : Nat) (l : List (Request × BitVec 32 × Nat)), a = s.elapse dt →
      a.par.kennelOps = (r, codes, x) :: l → a.answers = true →
      exec (.kennelStoreDone dt false) s =
        .next (({ a with par := { a.par with kennelOps := l } } : State).reply 0x52 r .storeFail 0 0 []) ∧
      Ends (.kennelStoreDone dt true) s fun t => t.kennel = { a.kennel with stored := codes } ∧ t.sw = a.sw ∧
        tget t.par.store kennelKey = some (word codes.toNat) ∧ t.par.work = a.par.work) ∧
    (∀ r a, Heard s dt 0x54 r a → Takes a r false true false 0 0 → a.working = true → a.watch.expired = false →
      Ends (.kennelRelease dt r) s fun t => t.kennel = { a.kennel with active := false, reason := 0, queue := [] } ∧
        t.vlv = a.vlv ∧ t.dev = a.dev ∧
        ∀ n : Sw, t.sw.ch[n].st = a.sw.ch[n].st ∧ t.sw.ch[n].kennelOn = false ∧
          (t.sw.ch[n].commanded = true ↔ a.sw.ch[n].commanded = true ∨ (a.sw.ch[n].kennelOn = true ∧
            (a.sw.ch[n].st = .on ∨ a.sw.ch[n].st = .inrush ∨ a.sw.ch[n].st = .thermalWait))))

/-- Inrush window, trips, cooling, shedding, clamp events and the off-state check. INRUSH_END after the window leaves the
channel on; a conducting channel outside its window that has limited for LIMIT_T, or below 3.0 V for 200 us, trips and
counts, and before that stays; THERMAL_TURN_OFF cools a channel that retries, and latches it at the eighth turn-off in 1 s
or without retry, and notes the heat of a latched one for a command of the same tick; THERMAL_RESTART opens a window again; SHED_TOTAL latches the last conducting channel of the start order
when the mean of 10 ms exceeds TOTAL_LIMIT; CLAMP_EVENT_END keeps the energy and counts the large ones; the probe, its
verdict and the recheck set and clear the flags, 100 ms apart. The other channels, the valves and the state of the part
stay. That the checks begin 100 ms apart, and run on a channel that cools, is the model's reading (log entry 67), and so is
the latch of a channel that a command of the tick has turned off (log entry 77). -/
def Obligations.SwitchesProtectThemselves : Prop :=
  ∀ (s : State) (dt : Nat) (n : Sw), let a := s.elapse dt
    let c := a.sw.ch[n]
    let only (t : State) : Prop := (∀ m : Sw, m ≠ n → t.sw.ch[m] = a.sw.ch[m]) ∧ t.vlv = a.vlv ∧ t.dev = a.dev ∧
      t.hnd = a.hnd ∧ t.time = a.time
    let cut (st : SwState) : Switch :=
      { c with st, inrushAt := none, checkAt := a.clk, probing := false, tripAt := some a.clk }
    (∀ x, c.inrushAt = some x → x + a.pf (0x2000 + n.val) 31 24 * 100000 ≤ a.clk → c.st = .inrush →
      exec (.inrushEnd dt n) s = .next (a.modSw n fun c => { c with
        inrushAt := none, st := .on, windowEnd := x + a.pf (0x2000 + n.val) 31 24 * 100000 })) ∧
    (∀ m : Nat, c.st = .on → a.gated n = false → c.inrushAt = none →
      let lim := a.pf (0x2000 + n.val) 23 16 * 100000
      (lim ≤ m → c.windowEnd + lim ≤ a.clk → Ends (.tripOverload dt n m) s fun t => only t ∧
        t.sw.ch[n] = cut .tripOverload ∧ t.par = (a.count (0x2020 + n.val) true 1).par) ∧
      (m < lim ∨ a.clk < c.windowEnd + lim → exec (.tripOverload dt n m) s = .next a) ∧
      (20000 ≤ m → c.windowEnd + 20000 ≤ a.clk → Ends (.tripShort dt n m) s fun t => only t ∧
        t.sw.ch[n] = cut .tripShort ∧ t.par = (a.count (0x2020 + n.val) true 1).par) ∧
      (m < 20000 ∨ a.clk < c.windowEnd + 20000 → exec (.tripShort dt n m) s = .next a)) ∧
    (c.st = .on ∨ c.st = .inrush → Ends (.thermalTurnOff dt n) s fun t => only t ∧ t.sw.ch[n].inrushAt = none ∧
      t.par = (a.count (0x2020 + n.val) true 1).par ∧
      t.sw.ch[n].st = (if a.pf (0x2000 + n.val) 14 14 = 0 ∨ c.offAt = some a.clk ∨
        7 ≤ (c.thermals.filter fun x => decide (a.clk < x + 100000000)).length then .tripThermal else .thermalWait)) ∧
    (c.st = .off → c.offAt = some a.clk → Ends (.thermalTurnOff dt n) s fun t => only t ∧ t.sw.ch[n].st = .tripThermal ∧
      t.par = (a.count (0x2020 + n.val) true 1).par) ∧
    (c.st.latched = true → exec (.thermalTurnOff dt n) s = .next (a.modSw n fun c => { c with hotAt := some a.clk })) ∧
    (c.st = .thermalWait → a.d2d.ferruleHeard ≠ none → a.d2d.ferruleAllOff = false →
      exec (.thermalRestart dt n) s = .next (a.modSw n fun c => { c with
        st := .inrush, inrushAt := some a.clk, openLoad := false, shortVbat := false })) ∧
    (∀ sum : Nat, (a.startOrder.filter fun m => a.conducts m && a.gate != some m).getLast? = some n →
      (a.sw.shedAt = 0 ∨ a.sw.shedAt + 1000000 ≤ a.clk) → (∀ m : Sw, a.sw.ch[m].inrushAt = none) →
      (a.pf 0x2014 6 0 * 2500 < sum → Ends (.shedTotal dt sum) s fun t => only t ∧
        t.sw.ch[n] = cut .shedTotal ∧ t.sw.shedAt = a.clk ∧ t.par = a.par) ∧
      (sum ≤ a.pf 0x2014 6 0 * 2500 → exec (.shedTotal dt sum) s = .next a)) ∧
    (∀ energy : Nat, a.dev.code ≠ .off → Ends (.clampEventEnd dt n energy) s fun t => only t ∧
      t.sw.ch[n] = { c with clampLast := BitVec.ofNat 24 (sat 24 energy)
                            clampHi := if 20000 < energy then c.clampHi + 1 else c.clampHi } ∧
      t.par = (if 150000 < energy then a.count (0x2020 + n.val) false 1 else a).par) ∧
    (a.dev.code ≠ .off → c.st = .off ∨ c.st = .thermalWait → a.pf (0x2000 + n.val) 15 15 = 1 → c.checkAt ≤ a.clk →
      (c.probing = false → c.checkAt + 1000000 ≤ a.clk → exec (.openLoadProbe dt n) s = .next
        (a.modSw n fun c => { c with probing := true, probeAt := a.clk })) ∧
      (∀ high : Bool, c.probing = true → c.probeAt + 100000 ≤ a.clk → exec (.openLoadVerdict dt n high) s = .next
        (a.modSw n fun c => { c with
          probing := false, checkAt := c.checkAt + 10000000, shortVbat := high, openLoad := !high })) ∧
      (c.probing = false → exec (.openLoadRecheck dt n false) s = .next
        (a.modSw n fun c => { c with openLoad := false, shortVbat := false, checkAt := c.checkAt + 10000000 })))

/-- Frames, errors and the receive ring of the plant bus. A controller that takes no Mirjan timing puts a received frame
into the ring with its start of frame, the LOST mark, the MIRJAN mark and the next sequence number, and counts it; a full
ring loses it; with no rule that matches, RING_DRAIN keeps the oldest frame under DEFAULT_KEEP with rule 127 and else
discards and counts it; a protocol exception integrates again; integration ends in error-active or listening; a transmit
error that brings the counter to 256 or more is bus-off, which empties the transmit queue; AUTO_RECOVER ends it with clear
counters; a queued frame that was sent leaves the queue and is emitted; CAN_STOPPING_DONE empties the queue and applies the
waiting word, with clear error counters unless the word says OFF. By how much the counters move is the model's, from ISO
11898-1 (log entry 23), and so is the progress mark of the controller at each of these (log entry 57). -/
def Obligations.PlantBusTraffic : Prop :=
  ∀ (s : State) (dt : Nat), let a := s.elapse dt
    let rest (t : State) : Prop := t.vlv = a.vlv ∧ t.sw = a.sw ∧ t.hnd = a.hnd ∧ t.dev = a.dev ∧ t.time = a.time ∧
      t.stage = a.stage ∧ t.nib = a.nib
    a.busRuns = true →
    (∀ (f : CanFrame) (ago : Nat) (half : Bool), a.bus.role ≠ 1 →
      a.bus.st = .errorActive ∧ a.bus.tec < 128 ∧ a.bus.rec_ < 128 ∨ a.bus.st = .listen →
      (a.bus.ring.length < 1024 → exec (.canFrameReceived dt f ago half .clean) s =
        .next { (a.mark 7).count 0x2108 true 1 with bus := { a.bus with
          ring := a.bus.ring ++ [{
            frame := f, sof := a.sofTime ago half, lost := a.bus.lost, rule := 0, seq := a.bus.seq,
            mirjan := (a.bus.refRank f).isSome || (a.bus.fupRank f).isSome }]
          seq := a.bus.seq + 1, lost := false
          rec_ := if a.bus.st = .listen then a.bus.rec_ else a.bus.rec_ - 1 } }) ∧
      (1024 ≤ a.bus.ring.length → exec (.canFrameReceived dt f ago half .clean) s =
        .next { ((a.mark 7).count 0x2108 true 1).count 0x2109 false 1 with bus := { a.bus with
          lost := true, rec_ := if a.bus.st = .listen then a.bus.rec_ else a.bus.rec_ - 1 } })) ∧
    (∀ (x : RxFrame) (l : List RxFrame), a.answers = true → a.clockRuns = true → a.bus.ring = x :: l →
      a.bus.shadow.length < 128 → (∀ i, i < 64 → a.matchesRule x.frame i = false) →
      (bit a.bus.m2 40 = true → exec (.ringDrain dt .clean) s = .next { a with
        bus := { a.bus with ring := l, shadow := a.bus.shadow ++ [{ x with rule := 127 }] } }) ∧
      (bit a.bus.m2 40 = false → exec (.ringDrain dt .clean) s =
        .next (({ a with bus := { a.bus with ring := l } } : State).count 0x2109 true 1))) ∧
    (a.bus.st = .listen → exec (.protocolException dt) s =
      .next (({ a.mark 7 with bus := { a.bus with st := .integrating } } : State).count 0x210B true 1)) ∧
    (a.bus.st = .integrating → a.bus.tec = 0 → a.bus.rec_ = 0 → exec (.canIntegrated dt) s = .next { a.mark 7 with
      bus := { a.bus with st := if fld a.bus.word 1 0 = 2 then .listen else .errorActive } }) ∧
    (∀ n : Nat, a.bus.st = .errorPassive → 256 ≤ a.bus.tec + n → Ends (.canError dt true n) s fun t => rest t ∧
      t.bus.st = .busOff ∧ t.bus.tx = [] ∧ t.bus.ref = none ∧ t.bus.fup = none ∧ t.bus.slotOn = none ∧
      t.bus.ring = a.bus.ring) ∧
    (∀ n : Nat, a.bus.st = .errorActive → a.bus.tec + n < 128 → a.bus.rec_ < 128 → exec (.canError dt true n) s =
      .next { a.mark 7 with bus := { a.bus with tec := a.bus.tec + n } }) ∧
    (a.bus.st = .busOff → bit a.bus.word 2 = true → exec (.busOffRecovery dt) s = .next { a.mark 7 with
      bus := { a.bus with st := .errorActive, tec := 0, rec_ := 0 } }) ∧
    (∀ (x : TxFrame) (ago : Nat) (half : Bool), a.bus.st = .errorActive → a.bus.tec < 128 → a.bus.rec_ < 128 →
      a.bus.ref = none → a.bus.fup = none → a.bus.slotOn = none → a.bus.tx = [x] → x.slot = none → x.at_ + ago ≤ a.clk →
      Ends (.canFrameSent dt ago half) s fun t => rest t ∧ t.out = a.out ++ [.can x.frame] ∧
        t.bus = { a.bus with tx := [], tec := a.bus.tec - 1 } ∧ t.par = (a.count 0x210A true 1).par) ∧
    (a.bus.st = .stopping → Ends (.canStoppingDone dt) s fun t => rest t ∧ t.bus.word = a.bus.waits ∧ t.bus.tx = [] ∧
      t.bus.ref = none ∧ t.bus.fup = none ∧ t.bus.slotOn = none ∧
      t.bus.st = (if fld a.bus.waits 1 0 = 0 then .off else .integrating) ∧
      t.bus.tec = (if fld a.bus.waits 1 0 = 0 then a.bus.tec else 0) ∧
      t.bus.rec_ = (if fld a.bus.waits 1 0 = 0 then a.bus.rec_ else 0))

/-- Slots of the Mirjan schedule. In the tick that reaches a reference slot start the master of an error-active controller
offers the reference frame with its full time, and a backup whose time has come becomes master and does so; a follow-up not
sent by the end of slot 0 is withdrawn and counted; a reference not begun by its guard is withdrawn; in an owned slot the
master offers the oldest frame of the slot, and so does a follower whose projected error is at most half a GUARD, while a
follower without a stored pair skips the slot, sets SLOT_MARGIN and counts; MIRJAN_CONFIG_APPLY in the tick of a cycle start
of the new configuration brings it into force and drops the frames of the schedule, and counts none. From when a backup
counts while nothing is paired, and that the configuration drops the pending frames, is the model's reading (log entry
39). -/
def Obligations.MirjanSchedule : Prop :=
  ∀ (s : State) (dt : Nat), let a := s.elapse dt
    let start := a.bus.cycleStart a.full
    let refFrm : CanFrame := { ide := false, rtr := false, dlc := 8, id := baseId (fld a.bus.m2 26 16 + a.bus.rank),
                               data := beBytes 8 (unsign 64 start) }
    a.busRuns = true →
    (a.bus.st = .errorActive → a.bus.cycleAt ≠ some a.clk → a.bus.cycle ≠ 0 → a.reached start = true → start % (a.bus.refPeriod : Int) = 0 →
      (a.bus.role = 2 → exec (.referenceSlotStart dt) s = .next { a with
        bus := { a.bus with cycleAt := some a.clk, ref := some { frame := refFrm, start, at_ := a.clk } } }) ∧
      (a.takesOver start = true → exec (.referenceSlotStart dt) s = .next { a with
        bus := { a.bus with cycleAt := some a.clk, acting := true, ref := some { frame := refFrm, start, at_ := a.clk } } })) ∧
    (∀ o : Offer, a.bus.fup = some o → o.start + (a.bus.slotLen : Int) ≤ a.full → exec (.followUpWithdraw dt) s =
      .next (({ a with bus := { a.bus with fup := none } } : State).count 0x210C false 1)) ∧
    (∀ o : Offer, a.bus.ref = some o → o.start + (a.bus.guard : Int) ≤ a.full → exec (.slotGuardExpiry dt) s =
      .next (({ a with bus := { a.bus with ref := none } } : State).count 0x210C false 1)) ∧
    (∀ (n : Nat) (x : TxFrame), a.bus.st = .errorActive → a.bus.slotAt ≠ some a.clk → 0 < a.bus.slotLen →
      n = ((a.full - start) / a.bus.slotLen).toNat → a.reached (start + (n * a.bus.slotLen : Nat)) = true →
      (fld a.bus.m3 31 0).testBit n = true → (a.bus.tx.find? fun t => t.slot == some n) = some x →
      (a.bus.isMaster = true → exec (.slotStart dt) s = .next { a with bus := { a.bus with
        slotAt := some a.clk, slotOn := some ({ frame := x.frame, start := start + (n * a.bus.slotLen : Nat), at_ := a.clk }, n) } }) ∧
      (∀ e : Rat, a.project (start + (n * a.bus.slotLen : Nat)) = some e → 2 * e ≤ (a.bus.guard : Rat) * 1000 →
        exec (.slotStart dt) s = .next { a with bus := { a.bus with
          slotAt := some a.clk, slotOn := some ({ frame := x.frame, start := start + (n * a.bus.slotLen : Nat), at_ := a.clk }, n) } }) ∧
      (a.bus.isMaster = false → a.bus.stored = none → exec (.slotStart dt) s =
        .next (({ a with bus := { a.bus with slotAt := some a.clk }, health := { a.health with slotMargin := true } } :
          State).count 0x210C true 1))) ∧
    (let w := a.work 0x2101;
      let cyc : Int := (fld w 29 24 * fld w 23 10 * 100 : Nat);
      a.bus.due = true → cyc ≠ 0 → a.reached (a.full - a.full % cyc) = true →
      exec (.mirjanConfigApply dt) s = .next { a with bus := { a.bus with
        m1 := w, m2 := a.work 0x2102, m3 := a.work 0x2103, since := a.clk, due := false
        origin := a.full - a.full % cyc, tx := a.bus.tx.filter fun x => x.slot.isNone
        slotOn := none, ref := none, fup := none
        acting := a.bus.acting && decide (fld w 47 46 = 1) && bit w 41 } })

/-- BUS_CONFIG, BUS_SEND, BUS_READ, BUS_FILTER and BUS_TIME. In a working part BUS_CONFIG with an accepted word stops the
controller and lets the word wait; BUS_SEND, to a controller that takes part in the traffic or integrates for it, of a frame
with a permitted length outside the Mirjan ranges, with SLOT in its range, joins the queue, for that slot with IN_SLOT; a
SLOT outside its range is BAD_PARAM (R487; that it is judged without IN_SLOT too is the model's reading, log entry 66), and
a controller in bus-off answers BUS_OFF; BUS_READ gives up to the named count of frames, first of the reading
buffer and then of the shadow, which becomes the reading buffer where that has run empty, behind the word of the
controller's state, and is PARTIAL with fewer; BUS_FILTER writes both words of a rule; BUS_TIME answers role, the stored
pair, the next owned slot, and the error projected to it, all ones where that is unbounded. Nothing else changes. That e
between two units of 10 ps, or outside its field, is a free value is the model's (log entries 12 and 14). -/
def Obligations.PlantBusRequests : Prop :=
  ∀ (s : State) (dt : Nat) (r : Request),
    (∀ a fs, Heard s dt 0x60 r a → Takes a r false false false 1 1 → a.working = true → paramFields 0x2100 = some fs →
      badField fs (arg r 0) = none → busBad 0x2100 (arg r 0) (a.work 0x2101) (a.work 0x2102) (a.work 0x2103) = none →
      exec (.busConfig dt r) s = .next ((({ a with bus := { a.bus with
          waits := mergeWrite fs (a.work 0x2100) (arg r 0), st := .stopping } } : State).setWork 0x2100
            (mergeWrite fs (a.work 0x2100) (arg r 0))).reply 0x60 r .ok 0 0 [])) ∧
    (∀ a, Heard s dt 0x61 r a → Takes a r false false false 3 3 → a.working = true →
      a.bus.st = .errorActive ∨ a.bus.st = .errorPassive ∨ a.bus.st = .integrating ∧ fld a.bus.word 1 0 ≠ 2 →
      a.bus.mirjanId (sendFrame r) = false →
      let n := fld (arg r 0) 40 36
      (a.bus.tx.length < 256 → fld (arg r 0) 45 42 ≤ 8 → 1 ≤ n → n < fld a.bus.m1 29 24 →
        (fld a.bus.m3 31 0).testBit n = true → exec (.busSend dt r) s = .next
        (({ a with bus := { a.bus with tx := a.bus.tx ++
            [{ frame := sendFrame r, slot := if bit (arg r 0) 41 then some n else none, at_ := a.clk }] } } :
          State).reply 0x61 r .ok 0 (255 - a.bus.tx.length) [])) ∧
      (n = 0 ∨ fld a.bus.m1 29 24 ≤ n ∨ (fld a.bus.m3 31 0).testBit n = false →
        exec (.busSend dt r) s = .next (a.reply 0x61 r .badParam 0 36 []))) ∧
    (∀ a, Heard s dt 0x61 r a → Takes a r false false false 3 3 → a.working = true → a.bus.st = .busOff →
      exec (.busSend dt r) s = .next (a.reply 0x61 r .busOff 0 0 [])) ∧
    (∀ a, Heard s dt 0x62 r a → Takes a r false false true 1 1 →
      let n := fld (arg r 0) 5 0
      let l := (a.bus.reading ++ a.bus.shadow).take n
      let b : Bus := if n < a.bus.reading.length then { a.bus with reading := a.bus.reading.drop n }
        else { a.bus with reading := a.bus.shadow.drop (n - a.bus.reading.length), shadow := [] }
      let w : Word := fields [(47, 45, b.st.num), (44, 36, b.tec), (35, 28, sat 8 b.rec_),
        (26, 16, b.ring.length + b.shadow.length + b.reading.length), (15, 0, b.seq.toNat)]
      exec (.busRead dt r) s = .next ((({ a with bus := b } : State).count 0x2108 false l.length).reply 0x62 r
        (if l.length < n then .partialDone else .ok) 0 (if l.length < n then l.length else 0)
        (w :: l.flatMap RxFrame.words))) ∧
    (∀ a f0 f1 (w0 x y : Word), Heard s dt 0x63 r a → Takes a r false false false 3 129 → a.working = true →
      r.words = [w0, x, y] → paramFields (0x2140 + 2 * fld w0 5 0) = some f0 →
      paramFields (0x2141 + 2 * fld w0 5 0) = some f1 → exec (.busFilter dt r) s = .next
        (((a.setWork (0x2140 + 2 * fld w0 5 0) (mergeWrite f0 0 x)).setWork (0x2141 + 2 * fld w0 5 0) (mergeWrite f1 0 y)).reply
          0x63 r .ok 0 1 [])) ∧
    (∀ a, Heard s dt 0x64 r a → Takes a r false false false 0 0 → a.working = true →
      let f := if a.bus.role = 1 then a.followed else none
      let p := a.bus.stored
      let w1 : Word := fields [(47, 46, a.bus.role), (45, 45, b2n a.bus.isMaster), (44, 41, a.bus.rank), (40, 37, f.getD 0),
        (36, 36, b2n f.isSome), (35, 35, b2n ((p.map (·.holdover)).getD false)), (34, 34, b2n ((p.map (·.calValid)).getD false))]
      let th := a.wordOf ((p.map (·.theta)).getD 0)
      let at_ : Word := word (unsign 48 (((p.map (·.tRef)).getD 0) / 1000))
      (a.nextSlot = none → exec (.busTime dt r) s = .next (th.2.reply 0x64 r .ok 0 0 [w1, th.1, at_, -1#48, 0])) ∧
      (∀ x : Int, a.nextSlot = some x → th.2.project x = none → exec (.busTime dt r) s =
        .next (th.2.reply 0x64 r .ok 0 0 [w1, th.1, at_, -1#48, word (unsign 48 x)])) ∧
      (∀ (x : Int) (q : Rat), a.nextSlot = some x → th.2.project x = some q →
        let v := th.2.quantise q
        let e := if 0 ≤ v.1 ∧ v.1 < 2 ^ 48 then (BitVec.ofInt 48 v.1, v.2) else v.2.freeWord
        exec (.busTime dt r) s = .next (e.2.reply 0x64 r .ok 0 0 [w1, th.1, at_, e.1, word (unsign 48 x)])))

/-- Power, acquisition, aiding and the read requests of the baseband. GNSS_POWER switches the baseband and RF_EN, restarts
the sample counter, which stands at 0 while RF_CLK is still absent, and off frees every channel; BASEBAND_READY follows RF_SETTLE and a complete epoch; ACQUIRE of a ready
baseband takes a handle and runs at once when the Retriever is free; CAPTURE_START notes t_cap and the first sample,
CAPTURE_COMPLETE with all its samples fills the sample buffer and begins the searches, and ACQUIRE_DONE completes with what
the searches found: NOT_FOUND for nothing, OK for every PRN, else PARTIAL, with t_cap and one word for each PRN found; AIDING
replaces the entry of its PRN and keeps the others, or with CLEAR_ALL drops them first; RF_CLK_LOSS stops the channels that run and RF_CLK_RECOVER sends the stopped ones to
REACQUIRE; NAV_READ and MEAS_READ give stored records away, and LATEST keeps them. That a capture starts at the bridge's edge
is the model's (log entry 70); so is its reading of a complete epoch as two captures and of the nominal sample clock (log
entry 48), of what the loss of the RF clock stops (log entry 47), and that MEAS_READ with LATEST ignores COUNT (log entry
52). -/
def Obligations.GnssRequests : Prop :=
  ∀ (s : State) (dt : Nat),
    (∀ r a, Heard s dt 0x70 r a → Takes a r false false false 1 1 → a.working = true →
      (bit (arg r 0) 0 = true → a.gnss.on = true → exec (.gnssPower dt r) s = .next (a.reply 0x70 r .ok 0 0 [])) ∧
      (bit (arg r 0) 0 = true → a.gnss.on = false → exec (.gnssPower dt r) s = .next (({ a with
        power := { a.power with rfEn := true }
        clocks := { a.clocks with
          sample := 0, start := some (a.now10, a.clk), still := a.clocks.still.map fun _ => (a.now10, a.clk) }
        gnss := { a.gnss with
          on := true, ready := false, onAt := a.clk, onCap := a.clocks.captures, ifFreq := a.pf 0x2200 22 0,
          invert := a.pf 0x2200 24 24 = 1, settle := a.pf 0x2201 9 0 } } : State).reply 0x70 r .ok 0 0 [])) ∧
      (bit (arg r 0) 0 = false → (∀ l ∈ a.hnd.rs.live, l.opc ≠ 0x71) → exec (.gnssPower dt r) s = .next (({ a with
        power := { a.power with rfEn := bit (arg r 0) 1 }
        gnss := { a.gnss with
          on := false, ready := false, chans := Vector.replicate 16 {}, fifo := [], ring := [], running := none,
          queued := [], reacqOn := none, reacqs := [] } } : State).reply 0x70 r .ok 0 0 []))) ∧
    (∀ r a, Heard s dt 0x71 r a → Takes a r false false false 2 2 → a.working = true → a.gnss.on = true →
      a.clocks.rfLoss = false → a.gnss.ready = true → fld (arg r 0) 31 0 ≠ 0 → 1 ≤ fld (arg r 1) 6 0 →
      fld (arg r 1) 6 0 ≤ 64 → 1 ≤ fld (arg r 1) 11 8 → fld (arg r 1) 11 8 ≤ 10 →
      fld (arg r 1) 11 8 * fld (arg r 1) 6 0 ≤ 256 → fld (arg r 1) 15 14 ≠ 3 → 2 ≤ fld (arg r 1) 20 16 →
      fld (arg r 1) 20 16 ≤ 20 → fld (arg r 1) 26 24 ≤ 4 → a.gnss.running = none → a.gnss.queued = [] →
      a.gnss.reacqOn = none → a.gnss.reacqs = [] → a.frozen 1 = false → a.hnd.rs.fresh < 0x4000 →
      Ends (.acquire dt r) s fun t => t.hnd.rs.fresh = a.hnd.rs.fresh + 1 ∧ t.gnss.queued = [] ∧
        t.gnss.running = some ({
          handle := a.hnd.idOf a.hnd.rs.fresh, mask := BitVec.ofNat 32 (fld (arg r 0) 31 0),
          update := fld (arg r 1) 26 24, spacing := fld (arg r 1) 20 16, bin := fld (arg r 1) 15 14,
          auto := bit (arg r 1) 13, aided := bit (arg r 1) 12, nc := fld (arg r 1) 11 8, nnc := fld (arg r 1) 6 0 },
          .waits a.full) ∧ t.gnss.chans = a.gnss.chans ∧ t.vlv = a.vlv) ∧
    (∀ a, a = s.elapse dt → a.frozen 1 = false →
      (a.gnss.on = true → a.clocks.rfLoss = false → a.gnss.onAt + a.gnss.settle * 100000 ≤ a.clk →
        a.gnss.onCap + 2 ≤ a.clocks.captures →
        exec (.basebandReady dt) s = .next { a with gnss := { a.gnss with ready := true } }) ∧
      (∀ (q : Acquire) (since : Int), a.gnss.running = some (q, .waits since) → a.clocks.rfLoss = false →
        a.gnss.on = true → a.clocks.captures ≠ 0 → a.clocks.start = none → nextEpoch since ≤ a.resolve a.clocks.epoch →
        a.clk ≤ a.clocks.capAt + 7 →
        let k : Nat := if a.clocks.delta = 0 then 0 else 1
        let x := a.quantise (a.edge10 + (k : Rat) / sampleRate)
        exec (.captureStart dt) s = .next { x.2 with gnss := { a.gnss with
          running := some ({ q with tCap := some x.1, first := (a.clocks.sample.toNat + k) % 2 ^ 48 }, .captures),
          blocks := {}, buffer := [] } }) ∧
      (∀ (q : Acquire) (l : List BlockStep), a.gnss.running = some (q, .captures) → a.clocks.rfLoss = false →
        a.samplePast (q.first + q.nc * q.nnc * 16368) = true →
        (l.foldl blockStep (a.gnss.blocks, a.gnss.buffer)).1.next = q.nc * q.nnc * 16368 →
        exec (.captureComplete dt l) s = .next (({ a with gnss := { a.gnss with
          running := some (q, .searches), blocks := {},
          buffer := lastBlocks (l.foldl blockStep (a.gnss.blocks, a.gnss.buffer)) } } : State).mark 4)) ∧
      (∀ (q : Acquire) (x : Int) (k : Nat),
        a.gnss.running = some (q, .searches) → q.tCap = some x → a.gnss.queued = [] → a.gnss.reacqs = [] →
        let l := ((a.mark 4).searchAll q).1
        let b := ((a.mark 4).searchAll q).2.acquireWords q l
        let mask := maskOf 32 fun i => l.any fun h => h.prn.val == i
        exec (.acquireDone dt .clean k) s = .next { b.2.complete q.handle
            (if l = [] then .notFound else if mask = q.mask.toNat then .ok else .partialDone) l.length mask
            ([word (unsign 48 (x / 1000)), fields [(47, 32, unsign 16 (x / 1000 / 2 ^ 48)), (9, 0, (x % 1000).toNat)]] ++ b.1)
          with gnss := { b.2.gnss with running := none } }) ∧
      (∀ (q : Acquire) (l : List SearchHit), q.auto = false → a.acquireWords q l = (l.map fun h =>
        fields [(47, 43, h.prn.val), (42, 42, 0), (41, 38, 0), (37, 24, h.code % 16368), (23, 8, unsign 16 h.doppler),
          (7, 0, sat 8 h.metric)], a)) ∧
      (∀ absent : Bool, a.gnss.on = true → a.clocks.rfLoss = false → Ends (.rfClkLoss dt absent) s fun t =>
        t.clocks = { a.clocks with
          rfLoss := true, still := if absent then some (a.past10 1000000, a.clk) else a.clocks.still } ∧
        t.vlv = a.vlv ∧ t.hnd = a.hnd ∧
        (∀ c : PChan, t.gnss.chans[c].st = if a.gnss.chans[c].st.runs then .stopped else a.gnss.chans[c].st)) ∧
      (a.clocks.rfLoss = true → Ends (.rfClkRecover dt) s fun t => t.clocks = { a.clocks with rfLoss := false } ∧
        t.vlv = a.vlv ∧ t.hnd = a.hnd ∧
        (∀ c : PChan, t.gnss.chans[c].st = if a.gnss.chans[c].st = .stopped then .reacquire else a.gnss.chans[c].st))) ∧
    (∀ r a (w0 x w : Word), Heard s dt 0x76 r a → Takes a r false false false 1 65 → a.working = true →
      r.words = [w0, x, w] → a.full ≤ a.resolve x → 1 ≤ fld w 47 42 → fld w 47 42 ≤ 32 →
      fld w 23 10 ≤ 10000 → (sfld w 41 24).natAbs ≤ 10000 → exec (.aiding dt r) s = .next (({ a with
        gnss := { a.gnss with aids := (if bit w0 0 then [] else
          a.gnss.aids.filter fun y => y.1 != Fin.ofNat 32 (fld w 47 42 - 1)) ++ [(Fin.ofNat 32 (fld w 47 42 - 1),
          { until_ := a.resolve x, doppler := sfld w 41 24, span := fld w 23 10 })] } } : State).reply 0x76 r .ok 0 1 [])) ∧
    (∀ r a, Heard s dt 0x74 r a → Takes a r false false true 1 1 → fld (arg r 0) 47 46 = 0 → 1 ≤ fld (arg r 0) 5 0 →
      fld (arg r 0) 5 0 ≤ 36 → fld (arg r 0) 5 0 ≤ a.gnss.nav.length → exec (.navRead dt r) s = .next (({ a with
        gnss := { a.gnss with nav := a.gnss.nav.drop (fld (arg r 0) 5 0) } } : State).reply 0x74 r .ok 0 0
          ((a.gnss.nav.take (fld (arg r 0) 5 0)).flatMap (·.rec_)))) ∧
    (∀ r a, Heard s dt 0x75 r a → Takes a r false false true 1 1 →
      (∀ e : List Word, bit (arg r 0) 8 = true → a.gnss.meas.getLast? = some e →
        exec (.measRead dt r) s = .next (a.reply 0x75 r .ok 0 0 e)) ∧
      (bit (arg r 0) 8 = false → 1 ≤ fld (arg r 0) 1 0 → fld (arg r 0) 1 0 ≤ a.gnss.meas.length →
        exec (.measRead dt r) s = .next (({ a with
          gnss := { a.gnss with meas := a.gnss.meas.drop (fld (arg r 0) 1 0) } } : State).reply 0x75 r .ok 0 0
            (a.gnss.meas.take (fld (arg r 0) 1 0)).flatten)))

/-- A channel's assignment, dumps, loops, estimates, searches and measurement epochs. TRACK_ASSIGN of a free named channel
starts it in PULL_IN for its PRN; TRACK_RELEASE frees the named channels; DUMP_CLOSE with the samples of the integration that
ends puts one dump with its epoch, sample and the quarters of their correlation sums into the FIFO, moves the epoch and the
code phase on, and brings a waiting NCO update of that boundary into force; two bits in error cost the dump. LOOP_UPDATE over
a complete period takes its dumps, moves to the next period and lets one NCO update wait for the boundary, and over a period
with a dump missing counts an overrun and sends none; BIT_SYNC_COUNT_CLEAR after 10 s clears the sign changes; CN0_ESTIMATE
clears its sums and notes the estimate, 0 without signal power and else 10 log10 in quarters between two neighbours, below
LOSS_CN0 it sends the channel to REACQUIRE, as an estimate below 0 dB-Hz does whatever the field shows, and one past 63.75
does not; a search is requested for a channel in REACQUIRE, one with a peak within 2 chips
of the prediction restarts it, and one without counts a try and loses the channel at the limit; MEASUREMENT_EPOCH stores one
record of every channel that runs or is stopped. No other channel changes. That rounding of 10 log10 is free, and that the
equal-peak choice is, are the model's (log entries 13, 14); so is its reading that one low estimate is the second of R384 (log
entry 50), and that the EPOCH of a first dump is 0 (log entry 48). -/
def Obligations.PointerChannels : Prop :=
  ∀ (s : State) (dt : Nat),
    (∀ r a, Heard s dt 0x72 r a → Takes a r false false false 3 3 → a.working = true → a.gnss.on = true →
      a.clocks.rfLoss = false → a.gnss.ready = true → bit (arg r 1) 43 = false →
      let c : PChan := Fin.ofNat 16 (fld (arg r 1) 47 44)
      a.gnss.chans[c].st = .free → a.resolve (arg r 0) ≤ a.full → a.full - a.resolve (arg r 0) ≤ 100000000 →
      2 ≤ fld (arg r 1) 33 29 → fld (arg r 1) 33 29 ≤ 20 → fld (arg r 1) 36 34 ≤ 4 → 1 ≤ fld (arg r 1) 42 37 →
      fld (arg r 1) 42 37 ≤ 32 → fld (arg r 2) 17 0 ≤ 261887 → (sfld (arg r 2) 47 24).natAbs ≤ 320000 →
      a.prnHeld (fld (arg r 1) 42 37 - 1) (some c) = false → Ends (.trackAssign dt r) s fun t =>
        t.gnss.chans[c].st = .pullIn ∧ t.gnss.chans[c].prn = Fin.ofNat 32 (fld (arg r 1) 42 37 - 1) ∧
        t.gnss.chans[c].epoch = 0 ∧ t.gnss.chans[c].update = fld (arg r 1) 36 34 ∧
        t.gnss.chans[c].spacing = fld (arg r 1) 33 29 ∧ t.gnss.chans[c].dopp = (sfld (arg r 2) 47 24 : Rat) / 16 ∧
        (∀ d : PChan, d ≠ c → t.gnss.chans[d] = a.gnss.chans[d]) ∧ t.vlv = a.vlv ∧ t.hnd = a.hnd) ∧
    (∀ r a, Heard s dt 0x73 r a → Takes a r false false false 1 1 → a.working = true → Ends (.trackRelease dt r) s fun t =>
      (∀ c : PChan, t.gnss.chans[c] = if bit (arg r 0) c.val then {} else a.gnss.chans[c]) ∧ t.vlv = a.vlv ∧
      t.hnd = a.hnd ∧ t.gnss.nav = a.gnss.nav) ∧
    (∀ (c : PChan) (a : State), a = s.elapse dt → a.frozen 1 = false →
      let p := a.gnss.chans[c]
      let rest (t : State) : Prop := (∀ d : PChan, d ≠ c → t.gnss.chans[d] = a.gnss.chans[d]) ∧ t.vlv = a.vlv ∧
        t.hnd = a.hnd ∧ t.dev = a.dev
      (∀ (rf : List RfPair) (ecc : Ecc),
        let n := (((p.at_ : Int) + p.left) % 2 ^ 48).toNat
        let inc : BitVec 32 := BitVec.ofNat 32 p.carInc
        let x := correlate (caCode p.prn) ((p.spacing : Rat) / 40) ((p.codeInc : Rat) / 2 ^ 32) inc rf
          (p.code - (p.taken : Rat) * p.codeInc / 2 ^ 32) (p.carNco + BitVec.ofInt 32 (-(p.taken : Int) * p.carInc)) {}
        a.gnss.on = true → a.clocks.rfLoss = false → p.st.runs = true → (rf.length : Int) = p.taken + p.left →
        a.samplePast n = true → a.gnss.fifo = [] → ecc = .clean ∨ ecc = .uncorrectable →
        Ends (.dumpClose dt c rf ecc) s fun t => rest t ∧ t.gnss.chans[c].epoch = p.epoch + 1 ∧
          t.gnss.chans[c].st = p.st ∧ t.gnss.chans[c].at_ = n ∧ t.gnss.chans[c].taken = 0 ∧
          t.gnss.chans[c].code = p.code + (p.left : Rat) * p.codeInc / 2 ^ 32 - 1023 ∧
          (∀ (e i k : Nat), p.waiting = some (e, i, k) → e ≤ p.epoch →
            t.gnss.chans[c].carInc = i ∧ t.gnss.chans[c].codeInc = k ∧ t.gnss.chans[c].waiting = none) ∧
          (p.waiting = none → t.gnss.chans[c].carInc = p.carInc ∧ t.gnss.chans[c].codeInc = p.codeInc) ∧
          t.gnss.fifo.map (fun e => (e.chan, e.at_, e.epoch, e.sample)) =
            (if ecc = .clean then [(c, a.clk, BitVec.ofNat 12 p.epoch, n)] else []) ∧
          t.gnss.fifo.map (fun e => [e.pI, e.pQ, e.eI, e.eQ, e.lI, e.lQ, e.nI, e.nQ]) =
            (if ecc = .clean then [[x.pI, x.pQ, x.eI, x.eQ, x.lI, x.lQ, x.nI, x.nQ].map quarter] else [])) ∧
      (∀ late : Bool, p.st.runs = true → p.st ≠ .reacquire → a.gnss.fifo = [] → p.next + p.period ≤ p.epoch →
        let ds := (a.gnss.ring.filter fun d => d.chan == c && decide (p.dumpNo d.epoch < p.next + p.period)).filter fun d =>
          decide (p.next ≤ p.dumpNo d.epoch)
        Ends (.loopUpdate dt c late) s fun t => rest t ∧ t.gnss.chans[c].next = p.next + p.period ∧
          t.gnss.ring = (a.gnss.ring.filter fun d => !(d.chan == c && decide (p.dumpNo d.epoch < p.next + p.period))) ∧
          (p.period ≤ ds.length → late = false →
            t.gnss.chans[c].waiting.map (fun w => w.1) = some (max (p.next + p.period) p.epoch) ∧
            t.gnss.chans[c].overruns = p.overruns + (if p.next + p.period < p.epoch then 1 else 0)) ∧
          (ds.length < p.period → t.gnss.chans[c].waiting = p.waiting ∧
            t.gnss.chans[c].overruns = p.overruns + 1)) ∧
      (p.st = .track → p.bitSync = false → p.clearAt + 1000000000 ≤ a.clk → exec (.bitSyncCountClear dt c) s =
        .next (a.modPtr c fun p => { p with changes := Vector.replicate 20 0, clearAt := a.clk })) ∧
      (p.st.runs = true → p.cn0At + 100000000 ≤ a.clk → Ends (.cn0Estimate dt c) s fun t => rest t ∧
        t.gnss.chans[c].pSum = 0 ∧ t.gnss.chans[c].nSum = 0 ∧ t.gnss.chans[c].powers = 0 ∧
        t.gnss.chans[c].cn0At = a.clk ∧ (p.powers ≠ 0 → p.pSum ≤ p.nSum → t.gnss.chans[c].cn0 = 0) ∧
        (∀ n : Nat, p.nSum ≠ 0 → p.nSum < p.pSum → quarterDb (1000 * ((p.pSum : Rat) - p.nSum) / p.nSum) = some n →
          t.gnss.chans[c].cn0.toNat = n ∨ t.gnss.chans[c].cn0.toNat = min (n + 1) 255) ∧
        (let x : Rat := 1000 * ((p.pSum : Rat) - p.nSum) / p.nSum
          if p.nSum ≠ 0 ∧ p.nSum < p.pSum ∧ quarterDb x = none then
            t.gnss.chans[c].st = if p.st ≠ .reacquire ∧ x < 1 then .reacquire else p.st
          else t.gnss.chans[c].st =
            if p.st ≠ .reacquire ∧ t.gnss.chans[c].cn0.toNat < a.pf 0x2203 7 0 then .reacquire else p.st)) ∧
      (p.st = .reacquire → p.failedAt = none → a.gnss.on = true → a.gnss.reacqs = [] → a.gnss.reacqOn = none →
        a.gnss.running = none → Ends (.reacqSearchRequest dt c) s fun t => rest t ∧
          t.gnss = { a.gnss with reacqOn := some c, reacqFrom := a.lastSample } ∧ t.par = a.par) ∧
      (∀ (first : BitVec 48) (l : List BlockStep) (k : Nat),
        a.gnss.reacqOn = some c → a.clocks.rfLoss = false → a.gnss.reacqs = [] → a.gnss.queued = [] →
        0 ≤ sampleDiff (first.toNat : Rat) (a.gnss.reacqFrom : Rat) → a.samplePast (first.toNat + 16 * 16368) = true →
        (l.foldl blockStep ({}, [])).1.next = 16 * 16368 →
        let b : State := ({ a with gnss := { a.gnss with
          reacqOn := none, blocks := {}, buffer := lastBlocks (l.foldl blockStep ({}, [])) } } : State).mark 4
        let x := b.searchPrn p.prn 4 4 250 (binsAt p.dopp 250 2)
        let off (h : SearchHit) : Rat := wrapChips ((h.code : Rat) / 16 - (a.nco p (first.toNat : Rat)).1 + 1023 / 2) - 1023 / 2
        exec (.reacqSearchDone dt c first l .clean k) s = .next
          (match x.1.filter fun h => decide (-2 ≤ off h) && decide (off h ≤ 2) with
          | some h => x.2.restartChan c h first.toNat (a.nco p (first.toNat : Rat)).1 (off h)
          | none => x.2.modPtr c fun p => { p with
              tries := p.tries + 1, failedAt := some a.clk,
              st := if a.pf 0x2203 15 8 ≤ p.tries + 1 then .lost else p.st }))) ∧
    (∀ a, a = s.elapse dt → a.frozen 1 = false → a.pf 0x2204 9 0 ≠ 0 → a.clocks.captures ≠ a.gnss.measCap →
      a.clocks.epoch.toNat % (a.pf 0x2204 9 0 * 100000) = 0 → a.clocks.capAt = a.clk → a.clocks.start = none →
      a.gnss.meas.length < 16 →
      let on (c : PChan) : Bool := a.gnss.chans[c].st.runs || a.gnss.chans[c].st == .stopped
      let t := a.resolve a.clocks.epoch
      let e := a.measList (a.sampleAt ((t * 1000 : Int) : Rat)) ((List.finRange 16).filter on)
      (∃ c : PChan, on c = true) → Ends (.measurementEpoch dt) s fun u => u.gnss.measCap = a.clocks.captures ∧
        u.gnss.meas = a.gnss.meas ++ [[a.clocks.epoch, fields [(47, 32, unsign 16 (t / 2 ^ 48)),
          (31, 31, b2n a.clocks.stepped), (30, 30, b2n a.time.holdover), (29, 27, a.time.source.toNat), (25, 16, a.fraction),
          (15, 0, maskOf 16 fun i => ((List.finRange 16).filter on).any fun c => c.val == i)]] ++ e.1] ∧
        (∀ c : PChan, u.gnss.chans[c] =
          if on c then { a.gnss.chans[c] with reacqNew := false, slip := false } else a.gnss.chans[c]) ∧
        u.vlv = a.vlv ∧ u.hnd = a.hnd)

/-- TIME_GET, TIME_SOURCE, CALENDAR_SET, CALENDAR_GET, DISCIPLINE and PPS_CONFIG. TIME_GET answers the instant with era,
flags, rates and offset, on the tick of a step already the new ones, or the newest reports or captures of PPS; TIME_SOURCE to a source that the part may have takes it
with an empty filter, in holdover at once for CHAIN; CALENDAR_SET outside BUS and CHAIN with a possible date and no waiting
step drops the phase term, schedules one step and answers the disciplined time on its tick; CALENDAR_GET answers the
calendar, the instant and the leap field; DISCIPLINE of a disciplined source with a small offset ends the holdover, keeps the
offset and schedules no step, and one with FORCE_STEP schedules one; PPS_CONFIG takes its fields. None of them moves the time
base itself, a valve or a switch. That TIME_SOURCE drops the last offset and the count of offsets above the threshold, and the
tick that CALENDAR_SET answers, are the model's reading (log entries 32, 75). -/
def Obligations.TimeRequests : Prop :=
  ∀ (s : State) (dt : Nat) (r : Request),
    let rest (a t : State) : Prop := t.time.n = a.time.n ∧ t.time.e = a.time.e ∧ t.time.phi = a.time.phi ∧ t.vlv = a.vlv ∧
      t.sw = a.sw ∧ t.hnd = a.hnd ∧ t.dev = a.dev
    (∀ a : State, (a.time.pending = [] → a.shown = a) ∧ ∀ p l, a.time.pending = p :: l → a.clockRuns = true →
      a.shown = if p.boundary ≤ a.full then { a with time := { a.time.setFine (max 0 (a.fine + p.amount)) with
        pending := l, calValid := a.time.calValid || p.sets } } else a) ∧
    (∀ a, Heard s dt 0x80 r a → Takes a r true false true 0 1 →
      (fld (arg r 0) 1 0 = 0 → let v := a.shown
        let th := a.wordOf a.time.theta
        exec (.timeGet dt r) s = .next (th.2.reply 0x80 r .ok 0 0 [v.time.n,
          fields [(47, 32, v.time.e.toNat), (31, 31, b2n v.time.calValid), (30, 30, b2n v.calLimit),
            (29, 29, b2n a.time.holdover), (28, 28, b2n !v.time.pending.isEmpty), (27, 25, a.time.source.toNat),
            (9, 0, v.fraction)],
          fields [(47, 24, unsign 24 a.time.rho), (23, 0, unsign 24 a.time.rhoFreq)], th.1])) ∧
      (∀ l : List PpsRec, fld (arg r 0) 1 0 = 1 ∧ l = a.pps.reports ∨ fld (arg r 0) 1 0 = 2 ∧ l = a.pps.captures →
        1 ≤ fld (arg r 0) 12 8 → fld (arg r 0) 12 8 ≤ 16 → fld (arg r 0) 12 8 ≤ l.length → exec (.timeGet dt r) s =
          .next (a.reply 0x80 r .ok 0 0 ((l.take (fld (arg r 0) 12 8)).flatMap fun p => [p.w0, p.w1, p.w2])))) ∧
    (∀ a, Heard s dt 0x81 r a → Takes a r false false false 1 1 → fld (arg r 0) 2 0 < 5 →
      (fld (arg r 0) 2 0 = 1 → a.dev.master = false) → (fld (arg r 0) 2 0 = 2 → a.pf 0x2101 47 46 = 1) →
      Ends (.timeSource dt r) s fun t => rest a t ∧
        t.time.source = BitVec.ofNat 3 (fld (arg r 0) 2 0) ∧ t.time.forceStep = bit (arg r 0) 8 ∧
        t.time.lastOffset = none ∧ t.time.overs = 0 ∧ t.time.theta = 0 ∧ t.time.heardAt = a.clk ∧
        t.time.chainSet = false ∧ t.time.holdover = decide (fld (arg r 0) 2 0 = 1) ∧ t.time.rhoPhase = 0 ∧
        t.time.rhoFreq = a.time.rhoFreq) ∧
    (∀ a (d : Int), Heard s dt 0x82 r a → Takes a r false false false 2 2 → a.time.source ≠ 1 → a.time.source ≠ 2 →
      a.time.pending = [] → a.calToFull (arg r 0) = some d → 0 ≤ d + (a.full - a.resolve (arg r 1)) →
      let b := ({ a with time := { a.time with overs := 0 } } : State).setRho a.time.rhoFreq 0
      let p : PendingStep := { boundary := b.stepBoundary, sets := true,
                               amount := (d - a.resolve (arg r 1)) * 2 ^ 32 - (a.time.phi.toNat : Int) }
      exec (.calendarSet dt r) s = .next (({ b with time := { b.time with pending := [p] } } : State).reply 0x82 r .ok 0 0
        [word (unsign 48 (b.afterStep p / 2 ^ 32)), word (unsign 16 (b.afterStep p / 2 ^ 32 / 2 ^ 48))])) ∧
    (∀ a, Heard s dt 0x83 r a → Takes a r false false true 0 0 → let v := a.shown
      0 ≤ v.full / 100000000 - v.leapCount →
      exec (.calendarGet dt r) s = .next (a.reply 0x83 r (if v.calLimit then .calendarLimit else .ok) 0 0
        [v.calNow, v.time.n, fields [(18, 17, v.pf 0x106 17 16), (16, 16, b2n v.time.calValid),
          (15, 0, v.time.e.toNat)]])) ∧
    (∀ a, Heard s dt 0x84 r a → Takes a r false false false 4 4 → a.time.source = 3 → a.time.forceStep = false →
      arg r 0 = a.time.n → fld (arg r 2) 31 0 = 0 → a.time.history = [] →
      (arg r 3 = 0 → (sfld (arg r 1) 47 0).natAbs < a.pf 0x101 19 0 * 100000 → Ends (.discipline dt r) s fun t =>
        rest a t ∧ t.time.theta = sfld (arg r 1) 47 0 ∧ t.time.holdover = false ∧ t.time.heardAt = a.clk ∧
        t.time.lastOffset = some a.clk ∧ t.time.overs = 0 ∧ t.time.pending = a.time.pending) ∧
      (arg r 3 = 2 → a.time.pending = [] → Ends (.discipline dt r) s fun t =>
        rest a t ∧ t.time.theta = sfld (arg r 1) 47 0 ∧ t.time.holdover = false ∧ t.time.overs = 0 ∧
        t.time.rhoPhase = 0 ∧ ∃ p : PendingStep, t.time.pending = [p] ∧
          (p.amount * 1000 + sfld (arg r 1) 47 0 * 2 ^ 32).natAbs < 1000)) ∧
    (∀ a, Heard s dt 0x85 r a → Takes a r false false false 2 2 → 1 ≤ fld (arg r 1) 18 0 → fld (arg r 1) 18 0 ≤ 500000 →
      exec (.ppsConfig dt r) s = .next (({ a with pps := { a.pps with
          outEn := bit (arg r 0) 0, outPol := bit (arg r 0) 1, outGate := bit (arg r 0) 2, inEn := bit (arg r 0) 3,
          inEdge := bit (arg r 0) 4, width := fld (arg r 1) 18 0,
          level := if a.pps.trailAt = none then bit (arg r 0) 1 else a.pps.level } } : State).reply 0x85 r .ok 0 0 []))

/-- Steps, holdover, leap seconds and PPS edges. STEP_APPLY at its boundary adds the amount to the disciplined time, never
below 0, moves the pulses of the events, and of those not armed their camera instants too, and the instants of the stage with
COMMIT_AT by the change of the full time, counts, sets the calendar valid
for its steps and takes the step off the list; the change by a waiting step, or the next insertion or deletion, goes to both
Quills; a silent source enters
holdover, keeping the frequency term; LEAP_SECOND after the inserted second counts and clears the announcement;
CALENDAR_END changes nothing, the limit follows the time; TIME_RECORD_SECOND in the tick that reaches a second only writes a
record, once. PPS_OUT_EDGE gives the level on the clock edge nearest to the second, with its trailing time and a report,
PPS_OUT_TRAILING takes it back, PPS_IN_EDGE captures. -/
def Obligations.TimeBaseEvents : Prop :=
  ∀ (s : State) (dt : Nat), let a := s.elapse dt
    (∀ p : PendingStep, a.time.pending = [p] → a.clockRuns = true → p.boundary ≤ a.full → a.frozen 0 = false →
      a.tablesWf = true → Ends (.stepApply dt) s fun t =>
        let d := t.full - a.full
        let onArmed (e : Event) : Bool := a.nib.events.any fun x => e.carrier == some x.id && x.st == .armed
        t.fine = (if a.fine + p.amount < 0 then 0 else (a.fine + p.amount) % 2 ^ 96) ∧ t.time.pending = [] ∧
        t.time.announced = false ∧ t.time.calValid = (a.time.calValid || p.sets) ∧
        t.clocks = { a.clocks with stepSince := true } ∧
        t.nib = { a.nib with events := a.nib.events.map fun e => if e.st = .retiring then e else { e with
          cOn := e.cOn + d, cOff := e.cOff + d, cOff0 := e.cOff0 + d
          cam := if e.st = .armed ∨ e.st = .passenger ∧ onArmed e = true then e.cam else e.cam + d } } ∧
        t.stage = { a.stage with
          at_ := a.stage.at_ + d, lastAt := if a.stage.lastAt = 0 then 0 else a.stage.lastAt + d
          commit := a.stage.commit.map fun c => { c with at_ := c.at_ + d } } ∧
        t.work 0x2501 = a.work 0x2501 + BitVec.ofInt 48 d ∧
        fld (t.work 0x109) 47 24 = (fld (a.work 0x109) 47 24 + 1) % 2 ^ 24 ∧
        t.vlv.chans = a.vlv.chans ∧ t.sw = a.sw ∧ t.hnd = a.hnd ∧ t.dev = a.dev) ∧
    (∀ p : PendingStep, a.time.pending = [p] → a.clockRuns = true → a.full < p.boundary → exec (.stepApply dt) s = .next a) ∧
    (∀ (p : PendingStep) (c : Nat) (x : Int), a.time.pending = [p] → a.clockRuns = true → a.dev.linksUp = true →
      a.time.announced = false → a.reach p.boundary = (c, x) → a.clk + 200 ≤ c → c ≤ a.clk + 1000 →
      let m : D2dMsg := .step ((x + stepAmount x p.amount) / 2 ^ 32 - x / 2 ^ 32) p.boundary
      exec (.timeChangeAnnounce dt) s = .next { a with
        time := { a.time with announced := true }
        d2d := { a.d2d with wait := a.d2d.wait ++ [{ link := 0, msg := m, sentAt := a.clk, fails := 0 },
          { link := 1, msg := m, sentAt := a.clk, fails := 0 }] } }) ∧
    (∀ (c : Nat) (del : Bool) (x : Int), a.time.pending = [] → a.clockRuns = true → a.dev.linksUp = true →
      a.nextChange = some (c, del, x) → exec (.timeChangeAnnounce dt) s = .next { a with
        d2d := { a.d2d with wait := a.d2d.wait ++ [{ link := 0, msg := .adjust del x, sentAt := a.clk, fails := 0 },
          { link := 1, msg := .adjust del x, sentAt := a.clk, fails := 0 }] } }) ∧
    (a.clockRuns = true → a.time.heardAt + a.lossTicks ≤ a.clk → a.time.source ≠ 0 → a.time.holdover = false →
      Ends (.sourceHoldover dt) s fun t => t.time.holdover = true ∧ t.time.rhoPhase = 0 ∧
        t.time.rhoFreq = a.time.rhoFreq ∧ t.fine = a.fine ∧ t.vlv = a.vlv ∧ t.hnd = a.hnd) ∧
    (a.calLimit = false → a.pf 0x106 17 16 = 1 → a.leapEnd.2 + 1 ≤ a.full / 100000000 - a.leapCount →
      a.leapCount < 127 → a.tablesWf = true → Ends (.leapSecond dt) s fun t => t.leapCount = a.leapCount + 1 ∧ t.pf 0x106 17 16 = 0 ∧
        t.time = a.time ∧ t.vlv = a.vlv ∧ t.hnd = a.hnd) ∧
    (exec (.calendarEnd dt) s = .next a ∧ bit a.regHealth 23 = a.calLimit) ∧
    (a.reached (a.full / 100000000 * 100000000) = true → a.time.secondAt ≠ some a.clk → a.log.started = true →
      a.log.xspiOk = true → a.log.lost = 0 → a.log.staging.length < 4096 → Ends (.timeRecordSecond dt) s fun t =>
        let b : State := { a with time := { a.time with secondAt := some a.clk } }
        t = b.timeRec (a.full / 100000000 * 100000000) 0 a.time.theta ∧ t.log.nextLsn = a.log.nextLsn + 1 ∧
        t.log.staging.length = a.log.staging.length + 1 ∧ t.time = b.time ∧ t.vlv = a.vlv ∧ t.hnd = a.hnd ∧ t.par = a.par) ∧
    (a.time.secondAt = some a.clk → exec (.timeRecordSecond dt) s = .next a) ∧
    (∀ x : Nat, a.pps.trailAt = some x → x ≤ 2 * a.clk + 1 → exec (.ppsOutTrailing dt) s = .next { a with
      pps := { a.pps with level := a.pps.outPol, trailAt := none }, out := a.out ++ [.pps a.pps.outPol (x % 2 == 1) 0] }) ∧
    (let cable := a.ps 0x103 31 0
      let second := (a.now10 + cable + 50000000000) / 100000000000
      let th := a.wordOf a.time.theta
      (∀ (half : Bool) (q : Int), a.clockRuns = true → a.dev.code ≠ .off → a.pps.outEn = true → a.pps.trailAt = none →
        a.pps.outGate = false ∨ a.time.source ≠ 0 ∧ a.time.holdover = false →
        a.nearEdge (second * 100000000000 - cable) = some (half, q) → exec (.ppsOutEdge dt) s = .next { th.2 with
          pps := { a.pps with
            level := !a.pps.outPol, trailAt := some (2 * a.clk + b2n half + a.pps.width * 200), stepOut := false
            reports := ({ w0 := word (unsign 48 (second * 100000000)), w2 := th.1,
                          w1 := a.ppsFlags (second * 100000000) a.pps.stepOut (a.isLeap second) (unsign 16 q) } ::
              a.pps.reports).take 16 }
          out := a.out ++ [.pps (!a.pps.outPol) half q] }) ∧
      (cable = 0 → a.time.phi = 0 → a.full % 100000000 = 0 → -(2 ^ 32) < a.time.rho → -(2 ^ 32) < a.lastRate →
        a.nearEdge (second * 100000000000 - cable) = some (false, 0))) ∧
    (∀ half : Bool, a.clockRuns = true → a.dev.code ≠ .off → a.pps.inEn = true → a.pps.lastIn = none →
      a.time.source ≠ 4 →
      let x := a.at10 (if half then 500 else 0) - 1000 - a.ps 0x104 31 0
      let n := a.nearest ((x : Rat) / 100000000000)
      let th := n.2.wordOf (x - n.1 * 100000000000)
      exec (.ppsInEdge dt a.pps.inEdge half) s = .next { th.2 with pps := { a.pps with
        lastIn := some a.clk, stepIn := false
        captures := ({ w0 := word (unsign 48 (x / 1000)), w2 := th.1,
                       w1 := a.ppsFlags (x / 1000) a.pps.stepIn false (x % 1000).toNat } :: a.pps.captures).take 16 } })

/-- TIMEMARK and CHAIN_MARK. The master sends one TIMEMARK after each instant divisible by 100,000 on its trained down
port, and one of a new second makes a CHAIN_MARK due; CHAIN_MARK_BROADCAST sends it once, as a broadcast PARAM_SET of
CHAIN_MARK, CHAIN_ERA and LEAP. A follower forwards a
TIMEMARK unchanged and keeps it first among its marks; with another source than CHAIN its time base does not change. -/
def Obligations.ChainTimeTravels : Prop :=
  ∀ (s : State) (dt : Nat), let a := s.elapse dt
    (∀ sub : Nat, a.dev.master = true → a.linkRuns = true → a.down.state = .up →
      epochOf a.time.sentMark ≠ epochOf (a.at10 sub / 1000) → Ends (.timemarkSend dt sub) s fun t =>
        t.time = { a.time with
          sentMark := a.at10 sub / 1000
          markDue := a.time.markDue || decide (a.time.sentMark - a.time.sentMark % 2 ^ 48 % 100000000 ≠
            a.at10 sub / 1000 - a.at10 sub / 1000 % 2 ^ 48 % 100000000) } ∧
        t.out = a.out ++ [.timemark .down (BitVec.ofInt 22 (a.at10 sub / 1000)) (BitVec.ofInt 10 (a.at10 sub % 1000))] ∧
        t.hnd = a.hnd ∧ t.vlv = a.vlv) ∧
    (a.dev.master = true → a.time.markDue = true → a.answers = true → a.down.state = .up → Ends (.chainMarkBroadcast dt) s fun t =>
      t.time = { a.time with markDue := false } ∧
      (let x := a.time.sentMark
       t.down.bulk.stored = a.down.bulk.stored ++ [{
        header := mkHeader 62 a.dev.addr 0x07 0 6 false false false
        words := [word 0x107, word (unsign 48 x), word 0x108, word (unsign 16 (x / 2 ^ 48)), word 0x106, a.work 0x106] }]) ∧
      t.hnd = a.hnd ∧ t.par = a.par ∧ t.vlv = a.vlv) ∧
    (∀ (dep : BitVec 22) (fr : BitVec 10) (sub : Nat), a.linkRuns = true → a.up.state = .up → a.down.state = .up →
      a.time.source ≠ 1 → Ends (.timemark dt dep fr sub) s fun t => t.out = a.out ++ [.timemark .down dep fr] ∧
        (∃ m : Mark, t.time = { a.time with marks := (m :: a.time.marks).take 32 } ∧ m.field = dep ∧ m.fraction = fr ∧
          m.resolved % 2 ^ 22 = dep.toNat ∧ m.arrival = a.at10 sub ∧ m.at_ = a.clk) ∧ t.vlv = a.vlv ∧ t.hnd = a.hnd)

/-- Bursts, and the requests on the trace log. A burst takes up to its size of the staged records when the ring has room,
and at its end they stand last in the ring, the head follows the last of them and staging is shorter by as many;
LOG_MARK stages one record with the next LSN; LOG_CONFIG with CLEAR in IDLE empties the ring; LOG_READ takes a handle
and waits, and LOG_READ_DONE ends it with the records from its start that the ring holds. Valves, switches and time
stay. -/
def Obligations.TraceLogMoves : Prop :=
  ∀ (s : State) (dt : Nat),
    (∀ a, a = s.elapse dt → a.logRuns = true →
      (a.log.xspiOk = true → a.log.burst = 0 → a.log.staging ≠ [] → a.pf 0x2301 0 0 = 0 →
        a.log.ring.length + a.log.staging.length ≤ a.ringCap → exec (.logBurstStart dt [] .clean) s = .next { a with
          log := { a.log with burst := min (burstMax a.log.clk) a.log.staging.length } }) ∧
      (a.log.lost = 0 → 0 < a.log.burst → a.log.burst ≤ a.log.staging.length → Ends (.logBurstDone dt) s fun t =>
        t.log.ring = a.log.ring ++ a.log.staging.take a.log.burst ∧ t.log.staging = a.log.staging.drop a.log.burst ∧
        t.log.burst = 0 ∧ (∀ x, a.log.staging[a.log.burst - 1]? = some x → t.log.head = x.1 + 1) ∧
        t.vlv = a.vlv ∧ t.sw = a.sw ∧ t.hnd = a.hnd ∧ t.time = a.time) ∧
      (∀ (h : HandleId) (start : Word) (n : Nat) (x : Word × Rec) (l : List (Word × Rec)),
        a.log.read = some (h, start, n, false) → a.log.passed = 0 → a.log.xspiOk = true →
        (a.log.ring.filter fun x => !lsnLt x.1 start) = x :: l → 0 < n → n ≤ l.length + 1 →
        exec (.logReadDone dt) s = .next (({ a with log := { a.log with read := none, passed := 0 } } : State).complete h .ok
          n n ([x.1, a.log.head] ++ ((x :: l).take n).flatMap fun y => recWords y.2)))) ∧
    (∀ r a, Heard s dt 0xA1 r a → Takes a r false true false 2 3 → a.working = true → fld (arg r 1) 35 32 ≤ 2 →
      a.log.started = true → a.log.xspiOk = true → a.log.lost = 0 → a.log.staging.length < 4096 →
      let x : Rec := mkRec [(127, 124, 2), (123, 76, (arg r 0).toNat), (75, 72, fld (arg r 1) 35 32),
        (71, 40, fld (arg r 1) 31 0), (39, 0, fld (arg r 2) 39 0)]
      Ends (.logMark dt r) s fun t => t.log.staging = a.log.staging ++ [(a.log.nextLsn, x)] ∧
        t.log.nextLsn = a.log.nextLsn + 1 ∧ t.log.ring = a.log.ring ∧ t.log.head = a.log.head ∧
        x.extractLsb' 76 48 = arg r 0 ∧ x.extractLsb' 124 4 = 2 ∧ t.vlv = a.vlv ∧ t.hnd = a.hnd ∧ t.time = a.time) ∧
    (∀ r a, Heard s dt 0xA2 r a → Takes a r false false false 1 2 → a.dev.code = .idle → bit (arg r 0) 8 = true →
      bit (arg r 0) 9 = false → a.log.lostFill = 0 → a.tablesWf = true → (∀ x ∈ a.log.ring, lsnLt x.1 a.log.head = true) →
      Ends (.logConfig dt r) s fun t => t.log.ring = [] ∧ t.log.tail = a.log.head ∧ t.log.head = a.log.head ∧
        t.log.staging = a.log.staging ∧ fld (t.work 0x2301) 0 0 = fld (arg r 0) 0 0 ∧ t.vlv = a.vlv ∧ t.hnd = a.hnd) ∧
    (∀ r a, Heard s dt 0xA0 r a → Takes a r false false true 2 2 → a.dev.code ≠ .starting →
      (∀ l ∈ a.hnd.rs.live, l.opc ≠ 0xA0) → 1 ≤ fld (arg r 1) 6 0 → fld (arg r 1) 6 0 ≤ 83 → a.hnd.rs.fresh < 0x4000 →
      lsnLt (arg r 0) a.log.tail = false → Ends (.logRead dt r) s fun t =>
        t.log = { a.log with
          read := some (a.hnd.idOf a.hnd.rs.fresh, arg r 0, fld (arg r 1) 6 0, false), passed := 0 } ∧
        t.hnd.rs.fresh = a.hnd.rs.fresh + 1 ∧ t.vlv = a.vlv ∧ t.dev = a.dev)

/-- FW_BEGIN, its erase, FW_BLOCK, FW_END and FW_SWITCH. In a working part FW_BEGIN of a permitted length makes the other
slot invalid and takes a handle; FW_ERASE_DONE lets blocks in; FW_BLOCK at the next offset appends its words up to the
image's length, and the last one again changes nothing; FW_END of a good image makes the other slot valid and ends it OK, and
of another one IMAGE_BAD with DETAIL 1 for a short one, 2 for a wrong CRC and 3 for a bad header; FW_SWITCH in IDLE with a
valid other slot makes that slot active and resets the part. -/
def Obligations.FirmwareIsLoaded : Prop :=
  ∀ (s : State) (dt : Nat) (r : Request),
    (∀ a, Heard s dt 0xF0 r a → Takes a r false false false 2 2 → a.working = true → (∀ l ∈ a.hnd.rs.live, l.opc ≠ 0xF0) →
      4096 ≤ fld (arg r 0) 20 0 → fld (arg r 0) 20 0 ≤ 1048576 → a.hnd.rs.fresh < 0x4000 → Ends (.fwBegin dt r) s fun t =>
        t.fw.load = some { handle := a.hnd.idOf a.hnd.rs.fresh, len := fld (arg r 0) 20 0,
                           crc := BitVec.ofNat 32 (fld (arg r 1) 31 0) } ∧
        t.fw.active = a.fw.active ∧ (if a.fw.active then t.fw.valid0 else t.fw.valid1) = false ∧
        (if a.fw.active then t.fw.valid1 = a.fw.valid1 else t.fw.valid0 = a.fw.valid0) ∧
        t.hnd.rs.fresh = a.hnd.rs.fresh + 1 ∧ t.vlv = a.vlv ∧ t.dev = a.dev) ∧
    (∀ a l, a = s.elapse dt → a.fw.load = some l →
      exec (.fwEraseDone dt) s = .next { a with fw := { a.fw with load := some { l with erased := true } } }) ∧
    (∀ a l, Heard s dt 0xF1 r a → Takes a r false false false 2 255 → a.fw.load = some l →
      l.handle.toNat = fld (arg r 0) 15 0 → l.erased = true →
      (fld (arg r 0) 35 16 = l.bytes → exec (.fwBlock dt r) s = .next (({ a with fw := { a.fw with load := some { l with
        words := (l.words ++ r.words.drop 1).take ((l.len + 5) / 6), bytes := l.bytes + 6 * (r.words.length - 1),
        lastOff := some (fld (arg r 0) 35 16), last := r.words.drop 1 } } } : State).reply 0xF1 r .ok 0 0 [])) ∧
      (fld (arg r 0) 35 16 ≠ l.bytes → l.lastOff = some (fld (arg r 0) 35 16) → l.last = r.words.drop 1 →
        exec (.fwBlock dt r) s = .next (a.reply 0xF1 r .ok 0 0 []))) ∧
    (∀ a l, Heard s dt 0xF2 r a → Takes a r false false false 1 1 → a.fw.load = some l →
      l.handle.toNat = fld (arg r 0) 15 0 →
      let good := ({ a.fw with load := none } : Firmware).setOther true (Config.imageVersion l.image)
      exec (.fwEnd dt r) s = .next ((({ a with fw := if l.verdict = 0 then good else { a.fw with load := none } } : State).reply
        0xF2 r .ok 0 0 []).complete l.handle (if l.verdict = 0 then .ok else .imageBad) l.verdict 0 []) ∧
      (l.bytes < l.len → l.verdict = 1) ∧
      (l.len ≤ l.bytes → l.crcOf ≠ l.crc → l.verdict = 2) ∧
      (l.len ≤ l.bytes → l.crcOf = l.crc → l.verdict = if Config.imageHeaderOk l.image then 0 else 3)) ∧
    (∀ a, Heard s dt 0xF3 r a → Takes a r false false true 1 1 → a.dev.code = .idle → bit (arg r 0) 0 = true →
      (if a.fw.active then a.fw.valid0 else a.fw.valid1) = true → Ends (.fwSwitch dt r) s fun t =>
        t.dev.code = .off ∧ t.fw.active = !a.fw.active ∧ t.power.resetOwn = some a.clk ∧
        t.power.causeFerrule = some (false, a.d2d.ferruleAllOff, 3) ∧ t.par.store = a.par.store)

/-- Staging, from the preparation to the end of settling. STAGE_PREPARE of a stage whose tables pass its checks takes a
handle, copies the stage into the set not in force and is preparing; STAGE_PREPARE_DONE ends it prepared; STAGE_COMMIT_AT
at the master arms it for an instant far enough ahead; STAGE_ARM from the master arms it at another device;
STAGE_READINESS_POLL asks each device not yet found armed for 2500h and 2503h, on a down port that carries packets; STAGE_DECISION keeps the commit where every device has been
found armed, and in a chain of one without an armed stage abandons it; COMMIT at the instant brings the other set into
force; STAGE_CONFIRM_READ and STAGE_COMMIT_TIMEOUT end the run; STAGE_PERSIST_DONE stores the staged tables as the set in
force has them, or marks the failure;
SETTLING_END opens the stage again; STAGE_ABANDON ends it with nothing in force changed, and one on which the link engine
has acted already is answered only. The order of a device's outcome and the master's reads is the model's reading (log entry
36). -/
def Obligations.StagesAreCommitted : Prop :=
  ∀ (s : State) (dt : Nat),
    let rest (a t : State) : Prop := t.vlv = a.vlv ∧ t.sw = a.sw ∧ t.time = a.time ∧ t.dev = a.dev
    (∀ r a, Heard s dt 0x08 r a → Takes a r false true false 1 1 → a.working = true →
      a.stage.st = .open_ ∨ a.stage.st = .prepared → fld (arg r 0) 15 0 ≠ 0 → mapCheck a.stage.words = none →
      (∀ k, k < 8 → rowBad (tval a.stage.words (0x1000 + k)) = none) → a.hnd.rs.fresh < 0x4000 →
      Ends (.stagePrepare dt r) s fun t => rest a t ∧ t.stage.st = .preparing ∧
        t.stage.id = BitVec.ofNat 16 (fld (arg r 0) 15 0) ∧ t.stage.setTab (!a.stage.force) = a.stage.words ∧
        t.stage.setTab a.stage.force = a.stage.setTab a.stage.force ∧ t.stage.force = a.stage.force ∧
        t.d2d.wait.length = a.d2d.wait.length + 16 ∧ t.hnd.rs.fresh = a.hnd.rs.fresh + 1) ∧
    (∀ a, a = s.elapse dt →
      (∀ h d, a.stage.st = .preparing → a.answers = true → a.stage.handle = some (h, d) →
        exec (.stagePrepareDone dt) s = .next (({ a with stage := { a.stage with
          st := .prepared, handle := none, preparedAt := some a.clk } } : State).complete h .ok 0 a.stage.id.toNat [])) ∧
      (∀ c : CommitRun, a.stage.commit = some c → a.answers = true →
        (c.decided = false → c.polledAt + 100000 ≤ a.clk → a.full < a.decideAt c.at_ →
          Ends (.stageReadinessPoll dt) s fun t => rest a t ∧ t.hnd = a.hnd ∧
            t.stage = { a.stage with commit := some { c with polledAt := a.clk } } ∧
            (a.chainLength = 1 ∨ a.dev.addr = 1 ∧ a.portIsDown .down = true → t = { a with stage := t.stage }) ∧
            (a.dev.addr = 1 → a.portIsDown .down = false →
              let asked : List (Addr × Nat) := (((List.range a.chainLength).drop 1).filterMap fun k =>
                if c.armed.getLsbD k then none else some (BitVec.ofNat 6 (k + 1))).zipIdx
              t.down.bulk.stored = a.down.bulk.stored ++ (asked.map fun x => {
                header := mkHeader x.1 1 0x06 (a.tagNext + BitVec.ofNat 14 x.2) 2 false false false
                words := [word 0x2500, word 0x2503] }) ∧
              t.own = a.own ++ (asked.map fun x => {
                kind := .stagePoll x.1, tag := a.tagNext + BitVec.ofNat 14 x.2, dst := x.1, opc := 0x06, atClk := a.clk }))) ∧
        (c.decided = false → a.decideAt c.at_ ≤ a.full → a.stage.st = .armed → a.stage.id = c.id →
          (c.armed ||| 1) &&& a.chainMask = a.chainMask → exec (.stageDecision dt) s = .next
            { a with stage := { a.stage with commit := some { c with decided := true, armed := c.armed ||| 1 } } }) ∧
        (c.decided = false → a.decideAt c.at_ ≤ a.full → a.stage.st = .open_ → c.armed = 0 → a.chainLength = 1 →
          Ends (.stageDecision dt) s fun t => rest a t ∧ t.hnd = a.hnd ∧
            t.stage = { a.stage with commit := some { c with decided := true, abandonedAtD := true } }) ∧
        (c.lastSent = false → c.at_ ≤ a.full → a.stage.st = .settling → a.chainLength = 1 → c.answered = 0 →
          c.committed = 0 → a.stage.outcome = 1 → a.stage.lastId = c.id → a.stage.lastAt = c.at_ →
          Ends (.stageConfirmRead dt) s fun t => rest a t ∧ t.stage = { a.stage with commit := none } ∧
            t.hnd = (a.complete c.handle .ok
              (1 + (1 - (bitsOf 32 c.armed.toNat).length) * 256) 1 [word (unsign 48 c.at_), word c.armed.toNat]).hnd) ∧
        (c.at_ + 1000000 ≤ a.full → Ends (.stageCommitTimeout dt) s fun t => rest a t ∧
          t.stage = { a.stage with commit := none } ∧ t = a.finishCommit c (a.commitStatus c))) ∧
      (a.stage.st = .armed → a.clockRuns = true → a.stage.at_ ≤ a.full → exec (.commit dt) s = .next
        (({ a with stage := { a.stage with
          force := !a.stage.force, outcome := 1, lastId := a.stage.id, lastAt := a.stage.at_, storeFailed := false,
          st := .settling, persistDue := a.stage.persist } } : State).count 0x2504 true 1)) ∧
      (a.stage.persistDue = true →
        exec (.stagePersistDone dt false) s = .next
          (({ a with stage := { a.stage with persistDue := false, storeFailed := true } } : State).count 0x2505 false 1) ∧
        (a.tablesWf = true → Ends (.stagePersistDone dt true) s fun t => t.stage = { a.stage with persistDue := false } ∧
          t.par = { a.par with store := t.par.store } ∧ rest a t ∧ t.hnd = a.hnd ∧
          ∀ id : Nat, tget t.par.store id = if staged id then
            some (storeWord ((paramFields id).getD []) (a.work id)) else tget a.par.store id)) ∧
      (a.stage.st = .settling → a.clockRuns = true → a.stage.lastAt + 40000000 ≤ a.full → exec (.settlingEnd dt) s = .next
        { a with stage := { a.stage with st := .open_, words := a.stage.setTab a.stage.force } })) ∧
    (∀ r a, Heard s dt 0x09 r a → Takes a r false false false 2 2 → r.src = 0 → a.dev.master = true →
      a.working = true → a.dev.chainOk = true → a.resolve (arg r 0) - a.full ≤ 6000000000 →
      2 * (a.tReach : Int) ≤ a.resolve (arg r 0) - a.full → a.stage.st = .prepared →
      a.stage.id.toNat = fld (arg r 1) 15 0 → (∀ l ∈ a.hnd.rs.live, l.opc ≠ 0x09) → a.hnd.rs.fresh < 0x4000 →
      a.tablesWf = true → Ends (.stageCommitAt dt r) s fun t => rest a t ∧ t.stage.st = .armed ∧
        t.work 0x2501 = word (unsign 48 (a.resolve (arg r 0))) ∧ t.work 0x2502 = word (fld (arg r 1) 15 0) ∧
        t.stage.at_ = a.resolve (arg r 0) ∧ t.stage.commit.map (fun c => (c.handle, c.at_, c.id, c.armed, c.decided)) =
          some (a.hnd.idOf a.hnd.rs.fresh, a.resolve (arg r 0), a.stage.id, 0, false) ∧ t.stage.force = a.stage.force) ∧
    (∀ r a (x w : Word), Heard s dt 0x07 r a → Takes a r false true false 2 32 → r.words = [0x2501, x, 0x2502, w] →
      r.src = 1 → fld w 47 16 = 0 → a.stage.st = .prepared → a.stage.id.toNat = w.toNat →
      a.full < a.decideAt (a.resolve x) → Ends (.stageArm dt r) s fun t => rest a t ∧
        t.stage = { a.stage with st := .armed, at_ := a.resolve x }) ∧
    (∀ r a, Heard s dt 0x0A r a → Takes a r true true true 1 1 →
      ((r.urgent = true → ∀ w ∈ s.urgentQ, w.is 0x0A r = false) → a.stage.st = .prepared →
        bit (arg r 0) 16 = true ∨ a.stage.id.toNat = fld (arg r 0) 15 0 →
        Ends (.stageAbandon dt r) s fun t => rest a t ∧ t.stage.st = .open_ ∧ t.stage.outcome = 2 ∧ t.stage.why = 1 ∧
          t.stage.words = a.stage.setTab a.stage.force ∧ t.stage.set0 = a.stage.set0 ∧ t.stage.set1 = a.stage.set1 ∧
          t.stage.force = a.stage.force ∧ t.par = (a.count 0x2504 false 1).par) ∧
      (∀ (w : Waiting) (hit : Bool), r.urgent = true → (s.urgentQ.find? fun x => x.is 0x0A r) = some w →
        w.acted = some hit → exec (.stageAbandon dt r) s = .next (a.reply 0x0A r .ok 0 (b2n hit) [])))

/-- Leash, synchronisation timeout, collection and resumption of a recall. In a watched part, LEASH_EXPIRY of a busy
engine whose Leash is over, in a job not being recalled, puts a recall of that job with cause 0 in progress; SYNC_TIMEOUT
does so with cause 1 for the waiter's job and with cause 2 for another job of the holder; outside an open sort job valves,
switches, device and time stay. PROCESSOR_LEASH_EXPIRY makes core 0 count as hung. RECALL_COLLECT_DONE fills the slot of
the running collection with header, the blocks of the job's engines, the words of the objects and the full section, and
marks the recall collected; RECALL_RESUME ends the recall of its job: the ejection events of an empty Inkwell stay none,
an ACQUIRE that ran is over, the LOG engine has no burst and no read, the bus error counters are zero and the controller
integrates or listens, and a port that was up trains again or is held. FAULTN_RECALL_END lets FAULT_N go after 1 ms. What a
Leash runs from is the model's reading (log entry 57), the ticks of a freeze are free (log entry 24), and what of a record
the collector names is its reading too (log entry 38). -/
def Obligations.HangsAreRecalled : Prop :=
  ∀ (s : State) (dt : Nat) (a : State), a = s.elapse dt →
    let rest (t : State) : Prop := t.vlv = a.vlv ∧ t.sw = a.sw ∧ t.dev = a.dev ∧ t.time = a.time
    let recalled (t : State) (j : Fin 5) (e : Fin 10) (cause : Nat) (waiter holder : Option (Fin 10)) (object : BitVec 13) : Prop :=
      ∃ r ∈ t.dog.recalls, r.job = j ∧ r.engine = e ∧ r.cause = cause ∧ r.waiter = waiter ∧ r.holder = holder ∧
        r.object = object ∧ r.detect = a.time.n ∧ r.era = a.time.e ∧ r.sortJob = a.sortJob
    (∀ (e : Fin 9) (x : Fin 10) (l : Nat) (j : Fin 5), x = ⟨e.val, by omega⟩ → jobOf x = some j → a.watching = true →
      a.frozen j = false → l = (if a.dog.engines[x].leash = 0 then a.leashOf x else a.dog.engines[x].leash) →
      a.busy x l = true → a.dog.engines[x].markAt + l ≤ a.time.core →
      Ends (.leashExpiry dt e) s fun t =>
        recalled t j x 0 none none 0 ∧ (a.sortJob = 0 ∧ a.nib.events = [] ∨ j ≠ 0 → rest t)) ∧
    (∀ x : Engine, x = a.dog.engines[(9 : Fin 10)] → a.watching = true → a.dev.dead = none →
      x.markAt + (if x.leash = 0 then a.leashOf 9 else x.leash) ≤ a.time.core → exec (.processorLeashExpiry dt) s = .next
      (({ a with dev := { a.dev with dead := some .hung, hung := true } } : State).count 0x2411 true 1)) ∧
    (∀ (waiter : Fin 9) (w : Fin 10) (holder : Option (Fin 10)) (object : BitVec 13) (j : Fin 5) (waited : Nat),
      w = ⟨waiter.val, by omega⟩ → jobOf w = some j → a.watching = true → a.frozen j = false → a.syncTo w (a.time.core - waited) ≤ waited →
      Ends (.syncTimeout dt waiter holder object waited) s fun t => recalled t j w 1 (some w) holder object ∧
        (a.sortJob = 0 → a.nib.events = [] → rest t) ∧
        (∀ (h : Fin 10) (k : Fin 5), holder = some h → jobOf h = some k → k ≠ j → a.frozen k = false → a.sortJob = 0 →
          recalled t k h 2 (some w) holder object)) ∧
    (∀ (quick full : List Word) (objects : BitVec 8) (r : Recall) (k : Fin 8), a.clockRuns = true →
      a.dog.recalls.find? (fun r => !r.collected && r.slot.isSome) = some r → r.slot = some k.val →
      let e := (jobEngines r.job).1.val
      let n := (jobEngines r.job).2
      let m := min objects.toNat ((341 - 16 * n) / 2)
      let q := a.quickBlocks n e quick ++ a.objectWords (padWords (quick.drop (16 * n)) (2 * m))
      let f := if r.collect = some true then fullSection full (fullWords r.engine full.length) else []
      Ends (.recallCollectDone dt quick full objects) s fun t =>
        t.dog.slots[k].st = .full ∧ t.dog.slots[k].words =
          a.recallHeader r (Config.freezeTicks a.freeCtr).val q.length f.length (BitVec.ofNat 8 m) ++ q ++ f ∧
        q.length ≤ 341 ∧ f.length ≤ 683 ∧
        (∃ x ∈ t.dog.recalls, x.job = r.job ∧ x.collected = true) ∧ t.hnd = a.hnd ∧ rest t) ∧
    (∀ (j : Fin 5) (r : Recall), a.clockRuns = true → a.dog.recalls.find? (fun r => r.job == j && r.collected) = some r →
      Ends (.recallResume dt j) s fun t => t.frozen j = false ∧
        (j = 0 → r.handle = none → a.dev.code ≠ .draining → a.nib.events = [] → a.hnd.ej.live = [] →
          a.dog.heldReports = [] → t.nib = a.nib ∧ t.hnd = a.hnd ∧ rest t) ∧
        (j = 1 → a.gnss.queued = [] → a.gnss.reacqs = [] → a.gnss.reacqOn = none → a.dev.code ≠ .draining →
          t.gnss = { a.gnss with running := none, reacqFrom := a.lastSample } ∧ rest t) ∧
        (j = 2 → a.dev.code ≠ .draining → t.log.burst = 0 ∧ t.log.read = none ∧ t.log.ring = a.log.ring ∧
          t.log.staging = a.log.staging ∧ rest t ∧
          (a.log.read = none → r.handle = none → t.log = { a.log with burst := 0 } ∧ t.hnd = a.hnd)) ∧
        (j = 3 → r.handle = none → a.dev.code ≠ .draining → a.bus.st ≠ .off →
          t.bus = { a.bus with
            tec := 0, rec_ := 0,
            st := if a.bus.st = .stopping then .stopping else if fld a.bus.word 1 0 = 2 then .listen else .integrating } ∧
          t.hnd = a.hnd ∧ rest t) ∧
        (j = 4 → (a.up.state = .up → t.up.state = .training 1 ∨ t.up.state = .held) ∧
          (a.down.state = .up → t.down.state = .training 1 ∨ t.down.state = .held))) ∧
    (∀ x, a.power.faultNRecall = some x → a.dog.recalls = [] → x + 100000 ≤ a.clk →
      exec (.faultnRecallEnd dt) s = .next { a with power := { a.power with faultNRecall := none } })

/-- Aborts of a sort job, the automatic restart, and the Sheepdog's requests. ABORT_JOB of the open job takes a handle and
aborts it: no record waits any more, and with ejection handles in use the part drains and the command waits for its end,
with none it is IDLE with no job and the command completes OK with the job, whether it opens again, the number of events
aborted and the instant. ABORT_RELAY for the open job aborts it likewise, for
another it is counted. AUTO_RESTART opens the last job again after RESTART_DELAY, at a master whose chain is not enumerated too (R435), and is given
up in a device that is cut off. RECALL_CONFIG sets its fields; RECALL_READ answers the words of a full slot, frees it when asked, and answers PARTIAL
for a free one; ENGINE_RESET of a job takes a handle and recalls it with cause 4. -/
def Obligations.SheepdogObeysRequests : Prop :=
  ∀ (s : State) (dt : Nat),
    let dropped (t : State) : Prop := t.nib.qA = [] ∧ t.nib.qB = [] ∧ t.nib.qC = [] ∧ t.nib.qD = [] ∧ t.nib.held = [] ∧
      t.dog.aborted = true
    (∀ r a, Heard s dt 0x93 r a → Takes a r true false false 1 1 → a.dev.code = .sorting → fld (arg r 0) 15 0 = a.dev.job →
      fld (arg r 0) 17 16 = 0 → fld (arg r 0) 19 18 ≤ 2 → bit (arg r 0) 20 = false → fld (arg r 0) 23 21 ≤ 2 → a.hnd.rs.fresh < 0x4000 →
      a.dog.aborted = false → a.nib.events = [] → a.dog.aborts = [] → a.mode ≠ 2 →
      (a.hnd.ej.live ≠ [] → Ends (.abortJob dt r) s fun t => dropped t ∧
        t.dev = { a.dev with code := .draining, startStep := 0 } ∧ t.dog.aborts = [{
          handle := a.hnd.idOf a.hnd.rs.fresh, dst := r.src, job := a.dev.job, count := 0, atInst := a.time.n }] ∧
        t.hnd.rs.fresh = a.hnd.rs.fresh + 1 ∧ t.hnd.queue = a.hnd.queue ∧ t.vlv = a.vlv ∧ t.time = a.time) ∧
      (a.hnd.ej.live = [] → Ends (.abortJob dt r) s fun t => dropped t ∧
        t.dev = { a.dev with code := .idle, startStep := 0, lastJob := a.dev.job, job := 0 } ∧ t.dog.aborts = [] ∧
        t.vlv.chans = a.vlv.chans ∧ t.time = a.time ∧
        (let f := fld (arg r 0) 19 18
         let again := f = 1 ∨ f = 0 ∧ a.pf 0x2410 8 8 = 1
         let h := a.hnd.idOf a.hnd.rs.fresh
         t.dog.restartAt = (if again then some a.clk else none) ∧
         t.hnd.queue = a.hnd.queue ++ [{
           dst := r.src, handle := some h, tag := BitVec.ofNat 14 a.hnd.rs.fresh
           words := [fields [(47, 40, Status.ok.num), (39, 24, h.toNat),
               (23, 0, a.dev.job + if again then 2 ^ 16 else 0)],
             a.time.n, fields [(47, 40, 0x93), (39, 32, 0), (31, 0, 0)], a.time.n] }] ∧
         ∃ l ∈ t.hnd.rs.live, l.id = h ∧ l.st = .retiring ∧ l.final = some .ok ∧ l.dst = r.src))) ∧
    (∀ (side : Side) (p : Packet) (a : State), a = s.elapse dt → a.linkRuns = true → isRelay p = true →
      (a.dev.code = .sorting → a.dev.job ≠ 0 → fld (p.words.headD 0) 15 0 = a.dev.job → a.dog.aborted = false →
        a.nib.events = [] → a.hnd.ej.live ≠ [] → Ends (.abortRelay dt side p) s fun t => dropped t ∧
          t.dev = { a.dev with code := .draining, startStep := 0 } ∧ t.vlv = a.vlv ∧ t.hnd = a.hnd ∧ t.time = a.time) ∧
      (a.sortJob ≠ fld (p.words.headD 0) 15 0 ∨ a.sortJob = 0 →
        exec (.abortRelay dt side p) s = .next (a.count 0x2413 true 1))) ∧
    (∀ (a : State) (x : Nat), a = s.elapse dt → a.dog.restartAt = some x → a.dev.code = .idle → a.dev.dead = none →
      (a.dev.cutOff = true → exec (.autoRestart dt) s = .next { a with dog := { a.dog with restartAt := none } }) ∧
      (a.dev.cutOff = false →
      a.frozen 0 = false → x + a.pf 0x2410 47 38 * 100000 ≤ a.clk →
      Ends (.autoRestart dt) s fun t => t.dev = { a.dev with code := .sorting, startStep := 0, job := a.dev.lastJob } ∧
        t.dog = { a.dog with aborted := false, auto := none, restartAt := none, engines := t.dog.engines } ∧
        t.vlv = a.vlv ∧ t.nib = a.nib ∧ t.hnd = a.hnd ∧ t.time = a.time)) ∧
    (∀ r a, Heard s dt 0x90 r a → Takes a r false true false 1 1 → a.working = true → fld (arg r 0) 37 32 ≤ 32 →
      fld (arg r 0) 47 38 ≤ 1000 → a.tablesWf = true → Ends (.recallConfig dt r) s fun t =>
        fld (t.work 0x2410) 4 0 = fld (arg r 0) 4 0 ∧ fld (t.work 0x2410) 8 8 = fld (arg r 0) 8 8 ∧
        fld (t.work 0x2410) 9 9 = fld (arg r 0) 9 9 ∧ fld (t.work 0x2410) 37 32 = fld (arg r 0) 37 32 ∧
        fld (t.work 0x2410) 47 38 = fld (arg r 0) 47 38 ∧ t.dog = a.dog ∧ t.dev = a.dev ∧ t.hnd = a.hnd) ∧
    (∀ r a (k : Fin 8), Heard s dt 0x91 r a → Takes a r false false true 1 1 → k = Fin.ofNat 8 (fld (arg r 0) 2 0) →
      fld (arg r 0) 18 8 ≤ 1364 → 1 ≤ fld (arg r 0) 31 24 → fld (arg r 0) 31 24 ≤ 253 →
      (a.dog.slots[k].st = .full → fld (arg r 0) 18 8 + fld (arg r 0) 31 24 ≤ a.dog.slots[k].words.length →
        exec (.recallRead dt r []) s = .next ((if bit (arg r 0) 40 then
            { a with dog := { a.dog with slots := a.dog.slots.set k {} } } else a).reply 0x91 r .ok 0 0
          (fields [(47, 46, 2), (45, 35, a.dog.slots[k].words.length)] ::
            (a.dog.slots[k].words.drop (fld (arg r 0) 18 8)).take (fld (arg r 0) 31 24)))) ∧
      (a.dog.slots[k].st = .free →
        exec (.recallRead dt r []) s = .next (a.reply 0x91 r .partialDone 0 0 [fields [(47, 46, 0), (45, 35, 0)]]))) ∧
    (∀ r a (j : Fin 5), Heard s dt 0x92 r a → Takes a r true false true 1 1 → fld (arg r 0) 2 0 = j.val →
      fld (arg r 0) 9 8 ≠ 3 → a.frozen j = false → a.hnd.rs.fresh < 0x4000 → Ends (.engineReset dt r) s fun t =>
        (∃ x ∈ t.dog.recalls, x.job = j ∧ x.engine = (jobEngines j).1 ∧ x.cause = 4 ∧
          x.handle = some (a.hnd.idOf a.hnd.rs.fresh) ∧ x.dst = r.src ∧ x.detect = a.time.n) ∧
        (a.sortJob = 0 ∧ a.nib.events = [] ∨ j ≠ 0 → t.vlv = a.vlv ∧ t.sw = a.sw ∧ t.dev = a.dev ∧ t.time = a.time ∧
          t.hnd.rs.fresh = a.hnd.rs.fresh + 1))

/-- The reset state meets the invariants, with the values that the spec gives. At reset the device is in step 1 of
STARTING at address 63, no master, with no handle in use, every channel and switch off, instant, era and fraction
zero, every parameter at its reset value, staging open, no recall, WATCH off, and FIRST FFh; and it meets LegalNumbers,
HandlesAddUp, CreditsBounded and OneForm. That POWER_ON has just caused the reset is the model's choice (log entry 3). -/
def Obligations.ResetIsLegal : Prop :=
  let z := State.reset
  z.dev.code = .starting ∧ z.dev.startStep = 1 ∧ z.dev.addr = 63 ∧ z.dev.master = false ∧ z.pending = [] ∧
  z.hnd.ej.live = [] ∧ z.hnd.rs.live = [] ∧ z.full = 0 ∧ z.time.phi = 0 ∧ z.time.rho = 0 ∧
  (∀ v : Valve, z.vlv.chans[v].drive = .off) ∧ (∀ n : Sw, z.sw.ch[n].st = .off) ∧
  (∀ id : Nat, z.work id = paramReset id) ∧ z.stage.st = .open_ ∧ z.dog.recalls = [] ∧ z.watch.enable = false ∧
  z.faults.first = 0xFF ∧ z.LegalNumbers ∧ z.HandlesAddUp ∧ z.CreditsBounded ∧ z.OneForm

/-- Every step keeps address, master role, PPS width and watchdog period legal, the handles accounted for and the credits
bounded. In a state where the address is 63 or 1 to 32, the master is exactly the device at address 1, the width of PPS_OUT lies
between 1 and 500,000 us and the watchdog period between 10 and 1000 ms, every next state is such a state. Where in each pool
every handle given out is in use or free once and free, accepted, armed and retiring handles add up to 16,128 and to 256, they
do so in every next state. Where no class of a port holds more than 2,048 bulk or 256 urgent credits, none does in any next
state. -/
def Obligations.NumbersStayLegal : Prop :=
  Kept State.LegalNumbers ∧ Kept State.HandlesAddUp ∧ Kept State.CreditsBounded

/-- Every step keeps every table of words in its one form. In a state whose tables of words (the working copy, the store,
the start parameters, the two sets, the stage, the generations of the handles and the counts of the interval) have
strictly rising numbers, and where the working copy, the sets and the stage list no value equal to the reset value,
every next state is such a state. The form of the tables is the model's choice. -/
def Obligations.TablesKeepOneForm : Prop :=
  Kept State.OneForm
end

