-- ==== Sys2Proof/Laws/Ops.lean ====
section
/-! SUPPORT. Laws of the shared operations: when a request is carried out and when it is turned away, what a handle taken
from a pool is, and the ticks of a command. -/

namespace Sys2Proof.Laws

open Sys2Proof.Machine

/-- Taking a request out of its queue leaves the device's state. -/
theorem unqueue_dev (s : State) (opc : Nat) (r : Request) : (s.unqueue opc r).dev = s.dev := by
  unfold State.unqueue; split <;> rfl

/-- A request that the part takes up in its turn, and that no check from 4 to 7 turns away, has its own effect
(R109). -/
theorem serve_of_takes {s : State} {i : OpInfo} {r : Request} {c4 c5 c6 c7 : Reject} {act : State → State}
    (h : Takes (s.unqueue i.opc r) r i.urgent i.bcast i.fault i.minLen i.maxLen) (ht : s.turn i.opc r = true)
    (hl : i.lenOk r.words.length = true) (h4 : c4 = none) (h5 : c5 = none) (h6 : c6 = none) (h7 : c7 = none) :
    s.serve i r c4 c5 c6 c7 act = act (s.unqueue i.opc r) := by
  obtain ⟨ho, hd, hs, hu, hb, hlo, hhi, hf⟩ := h
  rw [unqueue_dev] at ho hd hf
  have e2 : i.check2 r = none := by
    unfold OpInfo.check2 rejIf
    cases hx : r.urgent <;> cases hy : (r.dst == 62) <;> simp_all [firstRej]
  have e3 : i.check3 r = none := by
    unfold OpInfo.check3 rejIf
    have a : ¬ r.words.length < i.minLen := by omega
    have b : ¬ i.maxLen < r.words.length := by omega
    simp [a, b, hl]
  have ef : i.checkFault s = none := by
    unfold OpInfo.checkFault rejIf
    cases hx : (s.dev.code == Code.fault) <;> simp_all
  have ef' : i.checkFault (s.unqueue i.opc r) = none := by
    unfold OpInfo.checkFault State.badState at ef ⊢
    rw [unqueue_dev]; exact ef
  have ans : s.answers = true := by
    unfold State.answers; simp [ho, hd]
  have n32 : ¬ 32 < r.src.toNat := by omega
  subst h4 h5 h6 h7
  simp [State.serve, ans, ht, n32, e2, e3, ef', firstRej]

/-- While core 0 does not work a request waits in its queue, and nothing changes (R491). -/
theorem serve_of_silent {s : State} {i : OpInfo} {r : Request} {c4 c5 c6 c7 : Reject} {act : State → State}
    (h : s.answers = false) : s.serve i r c4 c5 c6 c7 act = s := by
  simp [State.serve, h]

/-- A request waits behind an earlier one of its source and class, and nothing changes (R114). -/
theorem serve_of_later {s : State} {i : OpInfo} {r : Request} {c4 c5 c6 c7 : Reject} {act : State → State}
    (h : s.turn i.opc r = false) : s.serve i r c4 c5 c6 c7 act = s := by
  simp [State.serve, h]

/-- A request from a source that no device has is discarded and counted (R108). -/
theorem serve_of_stranger {s : State} {i : OpInfo} {r : Request} {c4 c5 c6 c7 : Reject} {act : State → State}
    (h : s.answers = true) (ht : s.turn i.opc r = true) (hs : 32 < r.src.toNat) :
    s.serve i r c4 c5 c6 c7 act = (s.unqueue i.opc r).count 0x45 true 1 := by
  simp [State.serve, h, ht, hs]

/-- Everything that a request can lead to: waiting, a count, one rejection, or its own effect (R108, R109). -/
theorem serve_cases (s : State) (i : OpInfo) (r : Request) (c4 c5 c6 c7 : Reject) (act : State → State) :
    s.serve i r c4 c5 c6 c7 act = s ∨
    s.serve i r c4 c5 c6 c7 act = (s.unqueue i.opc r).count 0x45 true 1 ∨
    (∃ st d, s.serve i r c4 c5 c6 c7 act = (s.unqueue i.opc r).reply i.opc r st 0 d []) ∨
    s.serve i r c4 c5 c6 c7 act = act (s.unqueue i.opc r) := by
  unfold State.serve
  dsimp only
  split
  · exact .inl rfl
  · split
    · exact .inr (.inl rfl)
    · split
      · exact .inr (.inr (.inl ⟨_, _, rfl⟩))
      · exact .inr (.inr (.inr rfl))

/-- With an index never used left, the reserved pool gives the lowest one (R120). -/
theorem takeRs_of_fresh {s : State} (opc : Nat) (dst : Addr) (st : HState) (h : s.hnd.rs.fresh < 0x4000) :
    s.takeRs opc dst st = some (s.hnd.idOf s.hnd.rs.fresh, { s with hnd := { s.hnd with
      rs := { s.hnd.rs with fresh := s.hnd.rs.fresh + 1, live := s.hnd.rs.live ++
        [{ id := s.hnd.idOf s.hnd.rs.fresh, st, opc := BitVec.ofNat 8 opc, dst }] } } }) := by
  simp [State.takeRs, Pool.next, h]

/-- With an index never used left, the ejection pool gives the lowest one (R120). -/
theorem takeEj_of_fresh {s : State} (dst : Addr) (h : s.hnd.ej.fresh < 0x3F00) :
    s.takeEj dst = some (s.hnd.idOf s.hnd.ej.fresh, { s with hnd := { s.hnd with
      ej := { s.hnd.ej with fresh := s.hnd.ej.fresh + 1, live := s.hnd.ej.live ++
        [{ id := s.hnd.idOf s.hnd.ej.fresh, st := .accepted, opc := 0x20, dst }] } } }) := by
  simp [State.takeEj, Pool.next, h]

/-- Check 7 passes while an index never used is left. -/
theorem needHandle_of_fresh {s : State} (h : s.hnd.rs.fresh < 0x4000) : s.needHandle = none := by
  simp [State.needHandle, Pool.next, h, rejIf]

/-- Ticks count in clk whether or not the core clock runs. -/
theorem elapse_clk (s : State) (dt : Nat) : (s.elapse dt).clk = s.clk + dt := by
  unfold State.elapse; split <;> rfl

/-- Passing ticks leaves everything but the emissions, the clock, the time base and the mirrors. -/
theorem elapse_frame (s : State) (dt : Nat) :
    s.elapse dt = { s with out := [], clk := s.clk + dt, time := (s.elapse dt).time, vlv := (s.elapse dt).vlv } := by
  unfold State.elapse; split <;> rfl

/-- Passing ticks moves no channel, valve or bank. -/
theorem elapse_vlv (s : State) (dt : Nat) :
    (s.elapse dt).vlv = { s.vlv with quill0 := (s.elapse dt).vlv.quill0, quill1 := (s.elapse dt).vlv.quill1 } := by
  unfold State.elapse; split <;> rfl

/-- Counting moves the working copy of the parameters and what has been counted in this tick, nothing else. -/
theorem count_par (s : State) (id : Nat) (upper : Bool) (n : Nat) :
    s.count id upper n = { s with par := { s.par with
      work := (s.count id upper n).par.work, seenAt := s.clk, seen := (s.count id upper n).par.seen } } := rfl

end Sys2Proof.Laws
end

