-- ==== Sys2Proof/WellFormed.lean ====
section
/-! DEFINITION. Which commands a sender may form: lengths that a packet can carry, frames that CAN knows, instants on
the time base's scale. The meanings do not rest on it. -/

namespace Sys2Proof

/-- LEN fits its field (R107) and TAG and addresses their widths by type. -/
def Request.wf (r : Request) : Bool := decide (r.words.length ≤ 255)

/-- A classical data frame carries DLC bytes, at most eight; a remote frame none (R337). -/
def CanFrame.wf (f : CanFrame) : Bool :=
  if f.rtr then f.data.isEmpty else decide (f.data.length = min f.dlc.toNat 8)

/-- A pulse of an ARM ends after it begins. -/
def ArmFrame.wf (f : ArmFrame) : Bool := decide (f.cOn < f.cOff)

/-- A packet holds at most 255 payload words. -/
def Packet.wf (p : Packet) : Bool := decide (p.words.length ≤ 255)

/-- The commands a sender may form, constructor by constructor. -/
def Instr.wf : Instr → Bool
  | .arm _ _ f => f.wf
  | .packetReceived _ _ _ _ _ p _ _ => p.wf
  | .replyReceived _ _ p _ => p.wf
  | .timemark _ _ fraction _ => decide (fraction.toNat < 1000)
  | .echo _ r _ _ => r.wf
  | .enumerateChain _ r _ => r.wf
  | .serviceReadFrame _ _ values => decide (values ≤ 255)
  | .canFrameReceived _ f _ _ _ => f.wf
  | .bstcReport _ _ v => decide (v ≤ 2424)
  | .abortRelay _ _ p => p.wf
  | .enumerateAssign _ r | .enumerateClear _ r | .ping _ r | .identify _ r | .readReg _ r
  | .writeReg _ r | .paramGet _ r | .paramSet _ r | .storeErase _ r | .chainMark _ r | .cancel _ r
  | .detect _ r | .ejectDirect _ r | .bankEnable _ r | .bankDisable _ r | .sortStart _ r | .sortStop _ r
  | .eventQuery _ r | .valveShape _ r | .valveTest _ r | .valveStatus _ r | .boostSet _ r | .switchSet _ r
  | .switchStatus _ r _ | .kennelStore _ r | .dimMap _ r | .kennelRelease _ r | .busConfig _ r | .busSend _ r
  | .busRead _ r | .busFilter _ r | .busTime _ r | .gnssPower _ r | .acquire _ r | .aiding _ r
  | .trackAssign _ r | .trackRelease _ r | .navRead _ r | .measRead _ r | .timeGet _ r | .timeSource _ r
  | .calendarSet _ r | .calendarGet _ r | .discipline _ r | .ppsConfig _ r | .logConfig _ r | .logMark _ r
  | .logRead _ r | .recallConfig _ r | .recallRead _ r _ | .engineReset _ r | .abortJob _ r | .fwBegin _ r
  | .fwBlock _ r | .fwEnd _ r | .fwSwitch _ r | .stagePrepare _ r | .stageCommitAt _ r | .stageArm _ r
  | .stageAbandon _ r => r.wf
  | .supplyValid _ | .resetNLow _ _ | .resetNRise _ | .vbatLoss _ | .vioLoss _ | .vbatLow _ | .vbatRecover _ _ _
  | .vbatUv _ | .vbatHigh _ | .railsValid _ | .referenceSelect _ _ | .pllLock _ | .firmwareCheck _ _ _
  | .sramClear _ _ | .d2dTraining _ | .startOpenLoadCheck _ _ _ | .boostBankBegin _ _ | .boostPrechargeDone _ _
  | .boostRegulation _ _ | .boostStartFail _ _ | .startSwitchOn _ | .startingComplete _ | .referenceLoss _
  | .referenceReturn _ | .holdoverLimitExpiry _ | .rfClkLoss _ _ | .rfClkRecover _ | .bridgeEpoch _ _ _
  | .cut _ _ _ | .shape _ _ _ _ _ | .adjust _ _ _ _ | .d2dStep _ _ _ _ | .mirrorAdjust _ | .d2dCrcFail _ _ _
  | .d2dAckTimeout _ _ _ | .heartbeatSend _ | .heartbeat _ _ _ | .heartbeatTimeout _ _ | .scribeSupplyFault _
  | .forwardedClockStop _ _ _ | .scribeResume _ | .scrub _ _ _ | .packetForward _ _ _ _ | .orderedSetDiscard _ _
  | .train _ _ _ | .trainingDone _ _ _ | .ack _ _ _ _ | .nak _ _ _ _ _ | .credit _ _ _ _ | .creditSend _ _ _
  | .ackSend _ _ _ | .replayTimeout _ _ _ _ | .portTrainTimeout _ _ | .portDown _ _ | .portHoldExpiry _ _
  | .breakSet _ _ _ _ | .timemarkSend _ _ | .echoMeasure _ _ _ | .assignRetry _ | .enumTimeout _
  | .chainPingTimeout _ | .registerWrite _ _ _ _ | .forceFault _ _ | .resetReq _ _ | .forceFaultAndReset _ _
  | .instantRead _ _ | .mailboxWrite _ _ _ | .mailboxRead _ | .watchConfigure _ _ _ _ _ _ _
  | .watchFeed _ _ _ _ | .watchClear _ _ | .watchdogExpiry _ | .kennelSwitchOn _ | .paramStoreWriteDone _ _
  | .chainMarkBroadcast _ | .completionSent _ _ | .summaryInterval _ | .nibRecordSolve _ _ _
  | .eventArming _ _ _ | .sortStartHoldEnd _ | .coilOn _ _ | .swellPeak _ _ _ _
  | .swellTimeout _ _ _ _ | .transitionEnd _ _ | .hairlineChop _ _ _ | .coilOff _ _ _ _
  | .turnOffEnd _ _ _ _ _ | .swellEnd _ _ _ | .offReport _ _ _ | .alert _ _ _ | .valveShort _ _ _ _
  | .valveOpen _ _ _ _ | .quillOvertemp _ _ | .quillCooldown _ _ | .blotterUpdate _ | .inhibitRamp _ _
  | .bankUnregulated _ _ | .bankRegulated _ _ | .boostRampStep _ _ | .boostSetTimeout _ _
  | .valveCounterSave _ _ | .switchGapStep _ | .kennelStoreDone _ _ | .inrushEnd _ _ | .tripOverload _ _ _
  | .tripShort _ _ _ | .thermalTurnOff _ _ | .thermalRestart _ _ | .shedTotal _ _ | .clampEventEnd _ _ _
  | .openLoadProbe _ _ | .openLoadVerdict _ _ _ | .dimEdge _ _ _ | .protocolException _ | .canIntegrated _
  | .canError _ _ _ | .busOffRecovery _ | .canFrameSent _ _ _ | .canStoppingDone _ | .ringDrain _ _
  | .referenceSlotStart _ | .followUpWithdraw _ | .slotStart _ | .slotGuardExpiry _ | .basebandReady _
  | .captureStart _ | .captureComplete _ _ | .acquireDone _ _ _ | .dumpClose _ _ _ _ | .loopUpdate _ _ _ | .bitSyncCountClear _ _
  | .cn0Estimate _ _ | .reacqSearchRequest _ _ | .reacqSearchDone _ _ _ _ _ _ | .measurementEpoch _ | .stepApply _
  | .sourceHoldover _ | .leapSecond _ | .calendarEnd _ | .timeRecordSecond _ | .ppsOutEdge _
  | .ppsOutTrailing _ | .ppsInEdge _ _ _ | .logBurstStart _ _ _ | .logBurstDone _ | .logReadDone _
  | .leashExpiry _ _ | .processorLeashExpiry _ | .syncTimeout _ _ _ _ _ | .recallCollectDone _ _ _ _
  | .recallResume _ _ | .autoRestart _ | .faultnRecallEnd _ | .fwEraseDone _ | .stagePrepareDone _
  | .stageReadinessPoll _ | .stageDecision _ | .commit _ | .stageConfirmRead _ | .stageCommitTimeout _
  | .stagePersistDone _ _ | .settlingEnd _ | .d2dAck _ _ _ | .timeChangeAnnounce _ | .mixedDecaySwitch _ _
  | .openLoadRecheck _ _ _ | .mirjanConfigApply _ | .supervisorRailLoss _ | .supervisorRailReturn _
  | .vbatHighEnd _ => true

end Sys2Proof
end

