-- ==== Sys2Proof/Laws/PerInstr.lean ====
section
/-! SUPPORT. Statements made of every command, one lemma for each constructor. -/

namespace Sys2Proof.Laws

/-- A request of a well-formed command, from the equations of reqOf and wf. -/
theorem fit {r r' : Request} {a b : Machine.Row} (h : some (a, r) = some (b, r')) (w : r.wf = true) :
    r'.words.length ≤ 255 := by
  cases h
  simpa [Request.wf] using w

/-- A request that a well-formed command carries fits one packet (R107, R113). -/
def RequestsFit.Statement (i : Instr) : Prop :=
  ∀ (row : Machine.Row) (r : Request), Machine.reqOf i = some (row, r) → i.wf = true → r.words.length ≤ 255

theorem RequestsFit.supplyValid (dt : Nat) :
    Statement (.supplyValid dt) := fun _ _ h => nomatch h
theorem RequestsFit.resetNLow (dt : Nat) (joined : Bool) :
    Statement (.resetNLow dt joined) := fun _ _ h => nomatch h
theorem RequestsFit.resetNRise (dt : Nat) :
    Statement (.resetNRise dt) := fun _ _ h => nomatch h
theorem RequestsFit.vbatLoss (dt : Nat) :
    Statement (.vbatLoss dt) := fun _ _ h => nomatch h
theorem RequestsFit.vioLoss (dt : Nat) :
    Statement (.vioLoss dt) := fun _ _ h => nomatch h
theorem RequestsFit.vbatLow (dt : Nat) :
    Statement (.vbatLow dt) := fun _ _ h => nomatch h
theorem RequestsFit.vbatRecover (dt : Nat) (above165 : Bool) (stay : Nat) :
    Statement (.vbatRecover dt above165 stay) := fun _ _ h => nomatch h
theorem RequestsFit.vbatUv (dt : Nat) :
    Statement (.vbatUv dt) := fun _ _ h => nomatch h
theorem RequestsFit.vbatHigh (dt : Nat) :
    Statement (.vbatHigh dt) := fun _ _ h => nomatch h
theorem RequestsFit.railsValid (dt : Nat) :
    Statement (.railsValid dt) := fun _ _ h => nomatch h
theorem RequestsFit.referenceSelect (dt : Nat) (refin : Bool) :
    Statement (.referenceSelect dt refin) := fun _ _ h => nomatch h
theorem RequestsFit.pllLock (dt : Nat) :
    Statement (.pllLock dt) := fun _ _ h => nomatch h
theorem RequestsFit.firmwareCheck (dt : Nat) (activeOk : Bool) (otherOk : Bool) :
    Statement (.firmwareCheck dt activeOk otherOk) := fun _ _ h => nomatch h
theorem RequestsFit.sramClear (dt : Nat) (psramOk : Bool) :
    Statement (.sramClear dt psramOk) := fun _ _ h => nomatch h
theorem RequestsFit.d2dTraining (dt : Nat) :
    Statement (.d2dTraining dt) := fun _ _ h => nomatch h
theorem RequestsFit.startOpenLoadCheck (dt : Nat) (highFirst : BitVec 16) (highSecond : BitVec 16) :
    Statement (.startOpenLoadCheck dt highFirst highSecond) := fun _ _ h => nomatch h
theorem RequestsFit.boostBankBegin (dt : Nat) (b : Bank) :
    Statement (.boostBankBegin dt b) := fun _ _ h => nomatch h
theorem RequestsFit.boostPrechargeDone (dt : Nat) (b : Bank) :
    Statement (.boostPrechargeDone dt b) := fun _ _ h => nomatch h
theorem RequestsFit.boostRegulation (dt : Nat) (b : Bank) :
    Statement (.boostRegulation dt b) := fun _ _ h => nomatch h
theorem RequestsFit.boostStartFail (dt : Nat) (b : Bank) :
    Statement (.boostStartFail dt b) := fun _ _ h => nomatch h
theorem RequestsFit.startSwitchOn (dt : Nat) :
    Statement (.startSwitchOn dt) := fun _ _ h => nomatch h
theorem RequestsFit.startingComplete (dt : Nat) :
    Statement (.startingComplete dt) := fun _ _ h => nomatch h
theorem RequestsFit.referenceLoss (dt : Nat) :
    Statement (.referenceLoss dt) := fun _ _ h => nomatch h
theorem RequestsFit.referenceReturn (dt : Nat) :
    Statement (.referenceReturn dt) := fun _ _ h => nomatch h
theorem RequestsFit.holdoverLimitExpiry (dt : Nat) :
    Statement (.holdoverLimitExpiry dt) := fun _ _ h => nomatch h
theorem RequestsFit.rfClkLoss (dt : Nat) (absent : Bool) :
    Statement (.rfClkLoss dt absent) := fun _ _ h => nomatch h
theorem RequestsFit.rfClkRecover (dt : Nat) :
    Statement (.rfClkRecover dt) := fun _ _ h => nomatch h
theorem RequestsFit.bridgeEpoch (dt : Nat) (edges : BitVec 48) (delta : Fin 13) :
    Statement (.bridgeEpoch dt edges delta) := fun _ _ h => nomatch h
theorem RequestsFit.arm (dt : Nat) (q : Fin 2) (f : ArmFrame) :
    Statement (.arm dt q f) := fun _ _ h => nomatch h
theorem RequestsFit.cut (dt : Nat) (q : Fin 2) (mask : BitVec 32) :
    Statement (.cut dt q mask) := fun _ _ h => nomatch h
theorem RequestsFit.shape (dt : Nat) (q : Fin 2) (set : Bool) (row : Fin 8) (value : Word) :
    Statement (.shape dt q set row value) := fun _ _ h => nomatch h
theorem RequestsFit.adjust (dt : Nat) (q : Fin 2) (delete : Bool) (atTick : Int) :
    Statement (.adjust dt q delete atTick) := fun _ _ h => nomatch h
theorem RequestsFit.d2dStep (dt : Nat) (q : Fin 2) (amount : Int) (atTick : Int) :
    Statement (.d2dStep dt q amount atTick) := fun _ _ h => nomatch h
theorem RequestsFit.mirrorAdjust (dt : Nat) :
    Statement (.mirrorAdjust dt) := fun _ _ h => nomatch h
theorem RequestsFit.d2dCrcFail (dt : Nat) (link : Fin 3) (m : D2dMsg) :
    Statement (.d2dCrcFail dt link m) := fun _ _ h => nomatch h
theorem RequestsFit.d2dAckTimeout (dt : Nat) (link : Fin 3) (m : D2dMsg) :
    Statement (.d2dAckTimeout dt link m) := fun _ _ h => nomatch h
theorem RequestsFit.heartbeatSend (dt : Nat) :
    Statement (.heartbeatSend dt) := fun _ _ h => nomatch h
theorem RequestsFit.heartbeat (dt : Nat) (link : Fin 3) (instant : BitVec 48) :
    Statement (.heartbeat dt link instant) := fun _ _ h => nomatch h
theorem RequestsFit.heartbeatTimeout (dt : Nat) (link : Fin 3) :
    Statement (.heartbeatTimeout dt link) := fun _ _ h => nomatch h
theorem RequestsFit.scribeSupplyFault (dt : Nat) :
    Statement (.scribeSupplyFault dt) := fun _ _ h => nomatch h
theorem RequestsFit.forwardedClockStop (dt : Nat) (q : Fin 2) (coreClock : Bool) :
    Statement (.forwardedClockStop dt q coreClock) := fun _ _ h => nomatch h
theorem RequestsFit.scribeResume (dt : Nat) :
    Statement (.scribeResume dt) := fun _ _ h => nomatch h
theorem RequestsFit.scrub (dt : Nat) (found : Ecc) (rewritten : Bool) :
    Statement (.scrub dt found rewritten) := fun _ _ h => nomatch h
theorem RequestsFit.packetReceived (dt : Nat) (side : Side) (urgentSof : Bool) (slots : Nat) (eofBad : Bool) (p : Packet) (crcWord : Word)
    (ecc : Ecc) : Statement (.packetReceived dt side urgentSof slots eofBad p crcWord ecc) := fun _ _ h => nomatch h
theorem RequestsFit.packetForward (dt : Nat) (side : Side) (urgent : Bool) (ecc : Ecc) :
    Statement (.packetForward dt side urgent ecc) := fun _ _ h => nomatch h
theorem RequestsFit.replyReceived (dt : Nat) (side : Side) (p : Packet) (sub : Nat) :
    Statement (.replyReceived dt side p sub) := fun _ _ h => nomatch h
theorem RequestsFit.orderedSetDiscard (dt : Nat) (side : Side) :
    Statement (.orderedSetDiscard dt side) := fun _ _ h => nomatch h
theorem RequestsFit.train (dt : Nat) (side : Side) (stepNo : Fin 3) :
    Statement (.train dt side stepNo) := fun _ _ h => nomatch h
theorem RequestsFit.trainingDone (dt : Nat) (side : Side) (tHop : Nat) :
    Statement (.trainingDone dt side tHop) := fun _ _ h => nomatch h
theorem RequestsFit.ack (dt : Nat) (side : Side) (urgent : Bool) (seq : BitVec 12) :
    Statement (.ack dt side urgent seq) := fun _ _ h => nomatch h
theorem RequestsFit.nak (dt : Nat) (side : Side) (urgent : Bool) (seq : BitVec 12) (ecc : Ecc) :
    Statement (.nak dt side urgent seq ecc) := fun _ _ h => nomatch h
theorem RequestsFit.credit (dt : Nat) (side : Side) (urgent : Bool) (freed : BitVec 12) :
    Statement (.credit dt side urgent freed) := fun _ _ h => nomatch h
theorem RequestsFit.creditSend (dt : Nat) (side : Side) (urgent : Bool) :
    Statement (.creditSend dt side urgent) := fun _ _ h => nomatch h
theorem RequestsFit.ackSend (dt : Nat) (side : Side) (urgent : Bool) :
    Statement (.ackSend dt side urgent) := fun _ _ h => nomatch h
theorem RequestsFit.replayTimeout (dt : Nat) (side : Side) (urgent : Bool) (ecc : Ecc) :
    Statement (.replayTimeout dt side urgent ecc) := fun _ _ h => nomatch h
theorem RequestsFit.portTrainTimeout (dt : Nat) (side : Side) :
    Statement (.portTrainTimeout dt side) := fun _ _ h => nomatch h
theorem RequestsFit.portDown (dt : Nat) (side : Side) :
    Statement (.portDown dt side) := fun _ _ h => nomatch h
theorem RequestsFit.portHoldExpiry (dt : Nat) (side : Side) :
    Statement (.portHoldExpiry dt side) := fun _ _ h => nomatch h
theorem RequestsFit.breakSet (dt : Nat) (side : Side) (addr : Addr) (downLost : Bool) :
    Statement (.breakSet dt side addr downLost) := fun _ _ h => nomatch h
theorem RequestsFit.timemarkSend (dt : Nat) (sub : Nat) :
    Statement (.timemarkSend dt sub) := fun _ _ h => nomatch h
theorem RequestsFit.timemark (dt : Nat) (departure : BitVec 22) (fraction : BitVec 10) (sub : Nat) :
    Statement (.timemark dt departure fraction sub) := fun _ _ h => nomatch h
theorem RequestsFit.echoMeasure (dt : Nat) (k : Addr) (sub : Nat) :
    Statement (.echoMeasure dt k sub) := fun _ _ h => nomatch h
theorem RequestsFit.enumerateAssign (dt : Nat) (r : Request) :
    Statement (.enumerateAssign dt r) := fun _ _ h w => fit h w
theorem RequestsFit.enumerateChain (dt : Nat) (r : Request) (sorts : Bool) :
    Statement (.enumerateChain dt r sorts) := fun _ _ h w => fit h w
theorem RequestsFit.enumerateClear (dt : Nat) (r : Request) :
    Statement (.enumerateClear dt r) := fun _ _ h w => fit h w
theorem RequestsFit.assignRetry (dt : Nat) :
    Statement (.assignRetry dt) := fun _ _ h => nomatch h
theorem RequestsFit.enumTimeout (dt : Nat) :
    Statement (.enumTimeout dt) := fun _ _ h => nomatch h
theorem RequestsFit.chainPingTimeout (dt : Nat) :
    Statement (.chainPingTimeout dt) := fun _ _ h => nomatch h
theorem RequestsFit.ping (dt : Nat) (r : Request) :
    Statement (.ping dt r) := fun _ _ h w => fit h w
theorem RequestsFit.identify (dt : Nat) (r : Request) :
    Statement (.identify dt r) := fun _ _ h w => fit h w
theorem RequestsFit.echo (dt : Nat) (r : Request) (ago : Nat) (sub : Nat) :
    Statement (.echo dt r ago sub) := fun _ _ h w => fit h w
theorem RequestsFit.readReg (dt : Nat) (r : Request) :
    Statement (.readReg dt r) := fun _ _ h w => fit h w
theorem RequestsFit.writeReg (dt : Nat) (r : Request) :
    Statement (.writeReg dt r) := fun _ _ h w => fit h w
theorem RequestsFit.serviceReadFrame (dt : Nat) (addr : BitVec 4) (values : Nat) :
    Statement (.serviceReadFrame dt addr values) := fun _ _ h => nomatch h
theorem RequestsFit.registerWrite (dt : Nat) (path : Path) (addr : BitVec 4) (value : Option Word) :
    Statement (.registerWrite dt path addr value) := fun _ _ h => nomatch h
theorem RequestsFit.forceFault (dt : Nat) (path : Path) :
    Statement (.forceFault dt path) := fun _ _ h => nomatch h
theorem RequestsFit.resetReq (dt : Nat) (path : Path) :
    Statement (.resetReq dt path) := fun _ _ h => nomatch h
theorem RequestsFit.forceFaultAndReset (dt : Nat) (path : Path) :
    Statement (.forceFaultAndReset dt path) := fun _ _ h => nomatch h
theorem RequestsFit.instantRead (dt : Nat) (path : Path) :
    Statement (.instantRead dt path) := fun _ _ h => nomatch h
theorem RequestsFit.mailboxWrite (dt : Nat) (path : Path) (value : Word) :
    Statement (.mailboxWrite dt path value) := fun _ _ h => nomatch h
theorem RequestsFit.mailboxRead (dt : Nat) :
    Statement (.mailboxRead dt) := fun _ _ h => nomatch h
theorem RequestsFit.watchConfigure (dt : Nat) (path : Path) (enable : Bool) (clearExpired : Bool) (period : BitVec 10) (seed : BitVec 8) (token : BitVec 8) :
    Statement (.watchConfigure dt path enable clearExpired period seed token) := fun _ _ h => nomatch h
theorem RequestsFit.watchFeed (dt : Nat) (path : Path) (clearExpired : Bool) (token : BitVec 8) :
    Statement (.watchFeed dt path clearExpired token) := fun _ _ h => nomatch h
theorem RequestsFit.watchClear (dt : Nat) (path : Path) :
    Statement (.watchClear dt path) := fun _ _ h => nomatch h
theorem RequestsFit.watchdogExpiry (dt : Nat) :
    Statement (.watchdogExpiry dt) := fun _ _ h => nomatch h
theorem RequestsFit.kennelSwitchOn (dt : Nat) :
    Statement (.kennelSwitchOn dt) := fun _ _ h => nomatch h
theorem RequestsFit.paramGet (dt : Nat) (r : Request) :
    Statement (.paramGet dt r) := fun _ _ h w => fit h w
theorem RequestsFit.paramSet (dt : Nat) (r : Request) :
    Statement (.paramSet dt r) := fun _ _ h w => fit h w
theorem RequestsFit.paramStoreWriteDone (dt : Nat) (ok : Bool) :
    Statement (.paramStoreWriteDone dt ok) := fun _ _ h => nomatch h
theorem RequestsFit.storeErase (dt : Nat) (r : Request) :
    Statement (.storeErase dt r) := fun _ _ h w => fit h w
theorem RequestsFit.chainMark (dt : Nat) (r : Request) :
    Statement (.chainMark dt r) := fun _ _ h w => fit h w
theorem RequestsFit.chainMarkBroadcast (dt : Nat) :
    Statement (.chainMarkBroadcast dt) := fun _ _ h => nomatch h
theorem RequestsFit.cancel (dt : Nat) (r : Request) :
    Statement (.cancel dt r) := fun _ _ h w => fit h w
theorem RequestsFit.completionSent (dt : Nat) (route : Route) :
    Statement (.completionSent dt route) := fun _ _ h => nomatch h
theorem RequestsFit.summaryInterval (dt : Nat) :
    Statement (.summaryInterval dt) := fun _ _ h => nomatch h
theorem RequestsFit.detect (dt : Nat) (r : Request) :
    Statement (.detect dt r) := fun _ _ h w => fit h w
theorem RequestsFit.nibRecordSolve (dt : Nat) (b : Bank) (ecc : Ecc) :
    Statement (.nibRecordSolve dt b ecc) := fun _ _ h => nomatch h
theorem RequestsFit.eventArming (dt : Nat) (b : Bank) (ecc : Ecc) :
    Statement (.eventArming dt b ecc) := fun _ _ h => nomatch h
theorem RequestsFit.ejectDirect (dt : Nat) (r : Request) :
    Statement (.ejectDirect dt r) := fun _ _ h w => fit h w
theorem RequestsFit.bankEnable (dt : Nat) (r : Request) :
    Statement (.bankEnable dt r) := fun _ _ h w => fit h w
theorem RequestsFit.bankDisable (dt : Nat) (r : Request) :
    Statement (.bankDisable dt r) := fun _ _ h w => fit h w
theorem RequestsFit.sortStart (dt : Nat) (r : Request) :
    Statement (.sortStart dt r) := fun _ _ h w => fit h w
theorem RequestsFit.sortStartHoldEnd (dt : Nat) :
    Statement (.sortStartHoldEnd dt) := fun _ _ h => nomatch h
theorem RequestsFit.sortStop (dt : Nat) (r : Request) :
    Statement (.sortStop dt r) := fun _ _ h w => fit h w
theorem RequestsFit.eventQuery (dt : Nat) (r : Request) :
    Statement (.eventQuery dt r) := fun _ _ h w => fit h w
theorem RequestsFit.bstcReport (dt : Nat) (b : Bank) (v : Nat) :
    Statement (.bstcReport dt b v) := fun _ _ h => nomatch h
theorem RequestsFit.coilOn (dt : Nat) (v : Valve) :
    Statement (.coilOn dt v) := fun _ _ h => nomatch h
theorem RequestsFit.swellPeak (dt : Nat) (v : Valve) (current : List Nat) (drawn : Nat) :
    Statement (.swellPeak dt v current drawn) := fun _ _ h => nomatch h
theorem RequestsFit.swellTimeout (dt : Nat) (v : Valve) (current : List Nat) (drawn : Nat) :
    Statement (.swellTimeout dt v current drawn) := fun _ _ h => nomatch h
theorem RequestsFit.transitionEnd (dt : Nat) (v : Valve) :
    Statement (.transitionEnd dt v) := fun _ _ h => nomatch h
theorem RequestsFit.hairlineChop (dt : Nat) (v : Valve) (upperEdge : Bool) :
    Statement (.hairlineChop dt v upperEdge) := fun _ _ h => nomatch h
theorem RequestsFit.coilOff (dt : Nat) (v : Valve) (current : List Nat) (drawn : Nat) :
    Statement (.coilOff dt v current drawn) := fun _ _ h => nomatch h
theorem RequestsFit.turnOffEnd (dt : Nat) (v : Valve) (recovered : Nat) (peak : Nat) (samples : List (BitVec 12)) :
    Statement (.turnOffEnd dt v recovered peak samples) := fun _ _ h => nomatch h
theorem RequestsFit.swellEnd (dt : Nat) (q : Fin 2) (r : SwellReport) :
    Statement (.swellEnd dt q r) := fun _ _ h => nomatch h
theorem RequestsFit.offReport (dt : Nat) (q : Fin 2) (r : OffReport) :
    Statement (.offReport dt q r) := fun _ _ h => nomatch h
theorem RequestsFit.alert (dt : Nat) (q : Fin 2) (a : AlertMsg) :
    Statement (.alert dt q a) := fun _ _ h => nomatch h
theorem RequestsFit.valveShort (dt : Nat) (v : Valve) (current : List Nat) (drawn : Nat) :
    Statement (.valveShort dt v current drawn) := fun _ _ h => nomatch h
theorem RequestsFit.valveOpen (dt : Nat) (v : Valve) (current : List Nat) (drawn : Nat) :
    Statement (.valveOpen dt v current drawn) := fun _ _ h => nomatch h
theorem RequestsFit.quillOvertemp (dt : Nat) (q : Fin 2) :
    Statement (.quillOvertemp dt q) := fun _ _ h => nomatch h
theorem RequestsFit.quillCooldown (dt : Nat) (q : Fin 2) :
    Statement (.quillCooldown dt q) := fun _ _ h => nomatch h
theorem RequestsFit.blotterUpdate (dt : Nat) :
    Statement (.blotterUpdate dt) := fun _ _ h => nomatch h
theorem RequestsFit.inhibitRamp (dt : Nat) (b : Bank) :
    Statement (.inhibitRamp dt b) := fun _ _ h => nomatch h
theorem RequestsFit.bankUnregulated (dt : Nat) (b : Bank) :
    Statement (.bankUnregulated dt b) := fun _ _ h => nomatch h
theorem RequestsFit.bankRegulated (dt : Nat) (b : Bank) :
    Statement (.bankRegulated dt b) := fun _ _ h => nomatch h
theorem RequestsFit.boostRampStep (dt : Nat) (b : Bank) :
    Statement (.boostRampStep dt b) := fun _ _ h => nomatch h
theorem RequestsFit.boostSetTimeout (dt : Nat) (b : Bank) :
    Statement (.boostSetTimeout dt b) := fun _ _ h => nomatch h
theorem RequestsFit.valveCounterSave (dt : Nat) (ok : Bool) :
    Statement (.valveCounterSave dt ok) := fun _ _ h => nomatch h
theorem RequestsFit.valveShape (dt : Nat) (r : Request) :
    Statement (.valveShape dt r) := fun _ _ h w => fit h w
theorem RequestsFit.valveTest (dt : Nat) (r : Request) :
    Statement (.valveTest dt r) := fun _ _ h w => fit h w
theorem RequestsFit.valveStatus (dt : Nat) (r : Request) :
    Statement (.valveStatus dt r) := fun _ _ h w => fit h w
theorem RequestsFit.boostSet (dt : Nat) (r : Request) :
    Statement (.boostSet dt r) := fun _ _ h w => fit h w
theorem RequestsFit.switchSet (dt : Nat) (r : Request) :
    Statement (.switchSet dt r) := fun _ _ h w => fit h w
theorem RequestsFit.switchGapStep (dt : Nat) :
    Statement (.switchGapStep dt) := fun _ _ h => nomatch h
theorem RequestsFit.switchStatus (dt : Nat) (r : Request) (m : SwitchMeas) :
    Statement (.switchStatus dt r m) := fun _ _ h w => fit h w
theorem RequestsFit.kennelStore (dt : Nat) (r : Request) :
    Statement (.kennelStore dt r) := fun _ _ h w => fit h w
theorem RequestsFit.kennelStoreDone (dt : Nat) (ok : Bool) :
    Statement (.kennelStoreDone dt ok) := fun _ _ h => nomatch h
theorem RequestsFit.dimMap (dt : Nat) (r : Request) :
    Statement (.dimMap dt r) := fun _ _ h w => fit h w
theorem RequestsFit.kennelRelease (dt : Nat) (r : Request) :
    Statement (.kennelRelease dt r) := fun _ _ h w => fit h w
theorem RequestsFit.inrushEnd (dt : Nat) (n : Sw) :
    Statement (.inrushEnd dt n) := fun _ _ h => nomatch h
theorem RequestsFit.tripOverload (dt : Nat) (n : Sw) (limited : Nat) :
    Statement (.tripOverload dt n limited) := fun _ _ h => nomatch h
theorem RequestsFit.tripShort (dt : Nat) (n : Sw) (low : Nat) :
    Statement (.tripShort dt n low) := fun _ _ h => nomatch h
theorem RequestsFit.thermalTurnOff (dt : Nat) (n : Sw) :
    Statement (.thermalTurnOff dt n) := fun _ _ h => nomatch h
theorem RequestsFit.thermalRestart (dt : Nat) (n : Sw) :
    Statement (.thermalRestart dt n) := fun _ _ h => nomatch h
theorem RequestsFit.shedTotal (dt : Nat) (sum : Nat) :
    Statement (.shedTotal dt sum) := fun _ _ h => nomatch h
theorem RequestsFit.clampEventEnd (dt : Nat) (n : Sw) (energy : Nat) :
    Statement (.clampEventEnd dt n energy) := fun _ _ h => nomatch h
theorem RequestsFit.openLoadProbe (dt : Nat) (n : Sw) :
    Statement (.openLoadProbe dt n) := fun _ _ h => nomatch h
theorem RequestsFit.openLoadVerdict (dt : Nat) (n : Sw) (stillHigh : Bool) :
    Statement (.openLoadVerdict dt n stillHigh) := fun _ _ h => nomatch h
theorem RequestsFit.dimEdge (dt : Nat) (pin : Fin 4) (level : Bool) :
    Statement (.dimEdge dt pin level) := fun _ _ h => nomatch h
theorem RequestsFit.canFrameReceived (dt : Nat) (f : CanFrame) (sofAgo : Nat) (half : Bool) (ecc : Ecc) :
    Statement (.canFrameReceived dt f sofAgo half ecc) := fun _ _ h => nomatch h
theorem RequestsFit.protocolException (dt : Nat) :
    Statement (.protocolException dt) := fun _ _ h => nomatch h
theorem RequestsFit.canIntegrated (dt : Nat) :
    Statement (.canIntegrated dt) := fun _ _ h => nomatch h
theorem RequestsFit.canError (dt : Nat) (transmit : Bool) (amount : Nat) :
    Statement (.canError dt transmit amount) := fun _ _ h => nomatch h
theorem RequestsFit.busOffRecovery (dt : Nat) :
    Statement (.busOffRecovery dt) := fun _ _ h => nomatch h
theorem RequestsFit.canFrameSent (dt : Nat) (sofAgo : Nat) (half : Bool) :
    Statement (.canFrameSent dt sofAgo half) := fun _ _ h => nomatch h
theorem RequestsFit.canStoppingDone (dt : Nat) :
    Statement (.canStoppingDone dt) := fun _ _ h => nomatch h
theorem RequestsFit.ringDrain (dt : Nat) (ecc : Ecc) :
    Statement (.ringDrain dt ecc) := fun _ _ h => nomatch h
theorem RequestsFit.referenceSlotStart (dt : Nat) :
    Statement (.referenceSlotStart dt) := fun _ _ h => nomatch h
theorem RequestsFit.followUpWithdraw (dt : Nat) :
    Statement (.followUpWithdraw dt) := fun _ _ h => nomatch h
theorem RequestsFit.slotStart (dt : Nat) :
    Statement (.slotStart dt) := fun _ _ h => nomatch h
theorem RequestsFit.slotGuardExpiry (dt : Nat) :
    Statement (.slotGuardExpiry dt) := fun _ _ h => nomatch h
theorem RequestsFit.busConfig (dt : Nat) (r : Request) :
    Statement (.busConfig dt r) := fun _ _ h w => fit h w
theorem RequestsFit.busSend (dt : Nat) (r : Request) :
    Statement (.busSend dt r) := fun _ _ h w => fit h w
theorem RequestsFit.busRead (dt : Nat) (r : Request) :
    Statement (.busRead dt r) := fun _ _ h w => fit h w
theorem RequestsFit.busFilter (dt : Nat) (r : Request) :
    Statement (.busFilter dt r) := fun _ _ h w => fit h w
theorem RequestsFit.busTime (dt : Nat) (r : Request) :
    Statement (.busTime dt r) := fun _ _ h w => fit h w
theorem RequestsFit.gnssPower (dt : Nat) (r : Request) :
    Statement (.gnssPower dt r) := fun _ _ h w => fit h w
theorem RequestsFit.basebandReady (dt : Nat) :
    Statement (.basebandReady dt) := fun _ _ h => nomatch h
theorem RequestsFit.acquire (dt : Nat) (r : Request) :
    Statement (.acquire dt r) := fun _ _ h w => fit h w
theorem RequestsFit.captureStart (dt : Nat) :
    Statement (.captureStart dt) := fun _ _ h => nomatch h
theorem RequestsFit.captureComplete (dt : Nat) (l : List BlockStep) :
    Statement (.captureComplete dt l) := fun _ _ h => nomatch h
theorem RequestsFit.acquireDone (dt : Nat) (ecc : Ecc) (block : Nat) :
    Statement (.acquireDone dt ecc block) := fun _ _ h => nomatch h
theorem RequestsFit.aiding (dt : Nat) (r : Request) :
    Statement (.aiding dt r) := fun _ _ h w => fit h w
theorem RequestsFit.trackAssign (dt : Nat) (r : Request) :
    Statement (.trackAssign dt r) := fun _ _ h w => fit h w
theorem RequestsFit.trackRelease (dt : Nat) (r : Request) :
    Statement (.trackRelease dt r) := fun _ _ h w => fit h w
theorem RequestsFit.dumpClose (dt : Nat) (c : PChan) (rf : List RfPair) (ecc : Ecc) :
    Statement (.dumpClose dt c rf ecc) := fun _ _ h => nomatch h
theorem RequestsFit.loopUpdate (dt : Nat) (c : PChan) (late : Bool) :
    Statement (.loopUpdate dt c late) := fun _ _ h => nomatch h
theorem RequestsFit.bitSyncCountClear (dt : Nat) (c : PChan) :
    Statement (.bitSyncCountClear dt c) := fun _ _ h => nomatch h
theorem RequestsFit.cn0Estimate (dt : Nat) (c : PChan) :
    Statement (.cn0Estimate dt c) := fun _ _ h => nomatch h
theorem RequestsFit.reacqSearchRequest (dt : Nat) (c : PChan) :
    Statement (.reacqSearchRequest dt c) := fun _ _ h => nomatch h
theorem RequestsFit.reacqSearchDone (dt : Nat) (c : PChan) (first : BitVec 48) (l : List BlockStep) (ecc : Ecc) (block : Nat) :
    Statement (.reacqSearchDone dt c first l ecc block) := fun _ _ h => nomatch h
theorem RequestsFit.measurementEpoch (dt : Nat) :
    Statement (.measurementEpoch dt) := fun _ _ h => nomatch h
theorem RequestsFit.navRead (dt : Nat) (r : Request) :
    Statement (.navRead dt r) := fun _ _ h w => fit h w
theorem RequestsFit.measRead (dt : Nat) (r : Request) :
    Statement (.measRead dt r) := fun _ _ h w => fit h w
theorem RequestsFit.timeGet (dt : Nat) (r : Request) :
    Statement (.timeGet dt r) := fun _ _ h w => fit h w
theorem RequestsFit.timeSource (dt : Nat) (r : Request) :
    Statement (.timeSource dt r) := fun _ _ h w => fit h w
theorem RequestsFit.calendarSet (dt : Nat) (r : Request) :
    Statement (.calendarSet dt r) := fun _ _ h w => fit h w
theorem RequestsFit.calendarGet (dt : Nat) (r : Request) :
    Statement (.calendarGet dt r) := fun _ _ h w => fit h w
theorem RequestsFit.discipline (dt : Nat) (r : Request) :
    Statement (.discipline dt r) := fun _ _ h w => fit h w
theorem RequestsFit.stepApply (dt : Nat) :
    Statement (.stepApply dt) := fun _ _ h => nomatch h
theorem RequestsFit.sourceHoldover (dt : Nat) :
    Statement (.sourceHoldover dt) := fun _ _ h => nomatch h
theorem RequestsFit.leapSecond (dt : Nat) :
    Statement (.leapSecond dt) := fun _ _ h => nomatch h
theorem RequestsFit.calendarEnd (dt : Nat) :
    Statement (.calendarEnd dt) := fun _ _ h => nomatch h
theorem RequestsFit.timeRecordSecond (dt : Nat) :
    Statement (.timeRecordSecond dt) := fun _ _ h => nomatch h
theorem RequestsFit.ppsOutEdge (dt : Nat) :
    Statement (.ppsOutEdge dt) := fun _ _ h => nomatch h
theorem RequestsFit.ppsOutTrailing (dt : Nat) :
    Statement (.ppsOutTrailing dt) := fun _ _ h => nomatch h
theorem RequestsFit.ppsInEdge (dt : Nat) (falling : Bool) (half : Bool) :
    Statement (.ppsInEdge dt falling half) := fun _ _ h => nomatch h
theorem RequestsFit.ppsConfig (dt : Nat) (r : Request) :
    Statement (.ppsConfig dt r) := fun _ _ h w => fit h w
theorem RequestsFit.logBurstStart (dt : Nat) (bad : List Nat) (ecc : Ecc) :
    Statement (.logBurstStart dt bad ecc) := fun _ _ h => nomatch h
theorem RequestsFit.logBurstDone (dt : Nat) :
    Statement (.logBurstDone dt) := fun _ _ h => nomatch h
theorem RequestsFit.logConfig (dt : Nat) (r : Request) :
    Statement (.logConfig dt r) := fun _ _ h w => fit h w
theorem RequestsFit.logMark (dt : Nat) (r : Request) :
    Statement (.logMark dt r) := fun _ _ h w => fit h w
theorem RequestsFit.logRead (dt : Nat) (r : Request) :
    Statement (.logRead dt r) := fun _ _ h w => fit h w
theorem RequestsFit.logReadDone (dt : Nat) :
    Statement (.logReadDone dt) := fun _ _ h => nomatch h
theorem RequestsFit.leashExpiry (dt : Nat) (e : Fin 9) :
    Statement (.leashExpiry dt e) := fun _ _ h => nomatch h
theorem RequestsFit.processorLeashExpiry (dt : Nat) :
    Statement (.processorLeashExpiry dt) := fun _ _ h => nomatch h
theorem RequestsFit.syncTimeout (dt : Nat) (waiter : Fin 9) (holder : Option (Fin 10)) (object : BitVec 13) (waited : Nat) :
    Statement (.syncTimeout dt waiter holder object waited) := fun _ _ h => nomatch h
theorem RequestsFit.abortRelay (dt : Nat) (side : Side) (p : Packet) :
    Statement (.abortRelay dt side p) := fun _ _ h => nomatch h
theorem RequestsFit.recallCollectDone (dt : Nat) (quick : List Word) (full : List Word) (objects : BitVec 8) :
    Statement (.recallCollectDone dt quick full objects) := fun _ _ h => nomatch h
theorem RequestsFit.recallResume (dt : Nat) (job : Fin 5) :
    Statement (.recallResume dt job) := fun _ _ h => nomatch h
theorem RequestsFit.autoRestart (dt : Nat) :
    Statement (.autoRestart dt) := fun _ _ h => nomatch h
theorem RequestsFit.faultnRecallEnd (dt : Nat) :
    Statement (.faultnRecallEnd dt) := fun _ _ h => nomatch h
theorem RequestsFit.recallConfig (dt : Nat) (r : Request) :
    Statement (.recallConfig dt r) := fun _ _ h w => fit h w
theorem RequestsFit.recallRead (dt : Nat) (r : Request) (unreadable : List Nat) :
    Statement (.recallRead dt r unreadable) := fun _ _ h w => fit h w
theorem RequestsFit.engineReset (dt : Nat) (r : Request) :
    Statement (.engineReset dt r) := fun _ _ h w => fit h w
theorem RequestsFit.abortJob (dt : Nat) (r : Request) :
    Statement (.abortJob dt r) := fun _ _ h w => fit h w
theorem RequestsFit.fwBegin (dt : Nat) (r : Request) :
    Statement (.fwBegin dt r) := fun _ _ h w => fit h w
theorem RequestsFit.fwEraseDone (dt : Nat) :
    Statement (.fwEraseDone dt) := fun _ _ h => nomatch h
theorem RequestsFit.fwBlock (dt : Nat) (r : Request) :
    Statement (.fwBlock dt r) := fun _ _ h w => fit h w
theorem RequestsFit.fwEnd (dt : Nat) (r : Request) :
    Statement (.fwEnd dt r) := fun _ _ h w => fit h w
theorem RequestsFit.fwSwitch (dt : Nat) (r : Request) :
    Statement (.fwSwitch dt r) := fun _ _ h w => fit h w
theorem RequestsFit.stagePrepare (dt : Nat) (r : Request) :
    Statement (.stagePrepare dt r) := fun _ _ h w => fit h w
theorem RequestsFit.stagePrepareDone (dt : Nat) :
    Statement (.stagePrepareDone dt) := fun _ _ h => nomatch h
theorem RequestsFit.stageCommitAt (dt : Nat) (r : Request) :
    Statement (.stageCommitAt dt r) := fun _ _ h w => fit h w
theorem RequestsFit.stageArm (dt : Nat) (r : Request) :
    Statement (.stageArm dt r) := fun _ _ h w => fit h w
theorem RequestsFit.stageReadinessPoll (dt : Nat) :
    Statement (.stageReadinessPoll dt) := fun _ _ h => nomatch h
theorem RequestsFit.stageDecision (dt : Nat) :
    Statement (.stageDecision dt) := fun _ _ h => nomatch h
theorem RequestsFit.commit (dt : Nat) :
    Statement (.commit dt) := fun _ _ h => nomatch h
theorem RequestsFit.stageConfirmRead (dt : Nat) :
    Statement (.stageConfirmRead dt) := fun _ _ h => nomatch h
theorem RequestsFit.stageCommitTimeout (dt : Nat) :
    Statement (.stageCommitTimeout dt) := fun _ _ h => nomatch h
theorem RequestsFit.stagePersistDone (dt : Nat) (ok : Bool) :
    Statement (.stagePersistDone dt ok) := fun _ _ h => nomatch h
theorem RequestsFit.settlingEnd (dt : Nat) :
    Statement (.settlingEnd dt) := fun _ _ h => nomatch h
theorem RequestsFit.stageAbandon (dt : Nat) (r : Request) :
    Statement (.stageAbandon dt r) := fun _ _ h w => fit h w
theorem RequestsFit.d2dAck (dt : Nat) (link : Fin 3) (m : D2dMsg) :
    Statement (.d2dAck dt link m) := fun _ _ h => nomatch h
theorem RequestsFit.timeChangeAnnounce (dt : Nat) :
    Statement (.timeChangeAnnounce dt) := fun _ _ h => nomatch h
theorem RequestsFit.mixedDecaySwitch (dt : Nat) (v : Valve) :
    Statement (.mixedDecaySwitch dt v) := fun _ _ h => nomatch h
theorem RequestsFit.openLoadRecheck (dt : Nat) (n : Sw) (high : Bool) :
    Statement (.openLoadRecheck dt n high) := fun _ _ h => nomatch h
theorem RequestsFit.mirjanConfigApply (dt : Nat) :
    Statement (.mirjanConfigApply dt) := fun _ _ h => nomatch h
theorem RequestsFit.supervisorRailLoss (dt : Nat) :
    Statement (.supervisorRailLoss dt) := fun _ _ h => nomatch h
theorem RequestsFit.supervisorRailReturn (dt : Nat) :
    Statement (.supervisorRailReturn dt) := fun _ _ h => nomatch h
theorem RequestsFit.vbatHighEnd (dt : Nat) :
    Statement (.vbatHighEnd dt) := fun _ _ h => nomatch h

end Sys2Proof.Laws
end

