-- ==== Sys2Proof/Laws/State.lean ====
section
/-! SUPPORT. Laws of the state: what each named operation leaves alone, field by field, and what a changed part reads as
afterwards. Later proofs cite these and unfold no record update. -/

namespace Sys2Proof.Laws

open Sys2Proof.Machine

/-! ### What each operation leaves alone -/

/-- `emit` writes only out. -/
@[simp] theorem emit_keeps (s : State) (o : Out) :
    (s.emit o).pending = s.pending ∧ (s.emit o).clk = s.clk ∧ (s.emit o).freeCtr = s.freeCtr ∧ (s.emit o).dev =
    s.dev ∧ (s.emit o).power = s.power ∧ (s.emit o).clocks = s.clocks ∧ (s.emit o).fw = s.fw ∧ (s.emit o).regs =
    s.regs ∧ (s.emit o).faults = s.faults ∧ (s.emit o).health = s.health ∧ (s.emit o).watch = s.watch ∧ (s.emit
    o).kennel = s.kennel ∧ (s.emit o).time = s.time ∧ (s.emit o).pps = s.pps ∧ (s.emit o).up = s.up ∧ (s.emit
    o).down = s.down ∧ (s.emit o).bulkQ = s.bulkQ ∧ (s.emit o).urgentQ = s.urgentQ ∧ (s.emit o).own = s.own ∧
    (s.emit o).tagNext = s.tagNext ∧ (s.emit o).enumRun = s.enumRun ∧ (s.emit o).echoRun = s.echoRun ∧ (s.emit
    o).hnd = s.hnd ∧ (s.emit o).par = s.par ∧ (s.emit o).nib = s.nib ∧ (s.emit o).vlv = s.vlv ∧ (s.emit o).d2d =
    s.d2d ∧ (s.emit o).sw = s.sw ∧ (s.emit o).bus = s.bus ∧ (s.emit o).gnss = s.gnss ∧ (s.emit o).log = s.log ∧
    (s.emit o).dog = s.dog ∧ (s.emit o).stage = s.stage := by
  unfold State.emit
  and_intros <;> rfl

/-- `setWork` writes only par, stage. -/
@[simp] theorem setWork_keeps (s : State) (id : Nat) (v : Word) :
    (s.setWork id v).pending = s.pending ∧ (s.setWork id v).out = s.out ∧ (s.setWork id v).clk = s.clk ∧ (s.setWork
    id v).freeCtr = s.freeCtr ∧ (s.setWork id v).dev = s.dev ∧ (s.setWork id v).power = s.power ∧ (s.setWork id
    v).clocks = s.clocks ∧ (s.setWork id v).fw = s.fw ∧ (s.setWork id v).regs = s.regs ∧ (s.setWork id v).faults =
    s.faults ∧ (s.setWork id v).health = s.health ∧ (s.setWork id v).watch = s.watch ∧ (s.setWork id v).kennel =
    s.kennel ∧ (s.setWork id v).time = s.time ∧ (s.setWork id v).pps = s.pps ∧ (s.setWork id v).up = s.up ∧
    (s.setWork id v).down = s.down ∧ (s.setWork id v).bulkQ = s.bulkQ ∧ (s.setWork id v).urgentQ = s.urgentQ ∧
    (s.setWork id v).own = s.own ∧ (s.setWork id v).tagNext = s.tagNext ∧ (s.setWork id v).enumRun = s.enumRun ∧
    (s.setWork id v).echoRun = s.echoRun ∧ (s.setWork id v).hnd = s.hnd ∧ (s.setWork id v).nib = s.nib ∧ (s.setWork
    id v).vlv = s.vlv ∧ (s.setWork id v).d2d = s.d2d ∧ (s.setWork id v).sw = s.sw ∧ (s.setWork id v).bus = s.bus ∧
    (s.setWork id v).gnss = s.gnss ∧ (s.setWork id v).log = s.log ∧ (s.setWork id v).dog = s.dog := by
  unfold State.setWork
  repeat' split
  all_goals (and_intros <;> rfl)

/-- `count` writes only par. -/
@[simp] theorem count_keeps (s : State) (id : Nat) (upper : Bool) (n : Nat) :
    (s.count id upper n).pending = s.pending ∧ (s.count id upper n).out = s.out ∧ (s.count id upper n).clk = s.clk ∧
    (s.count id upper n).freeCtr = s.freeCtr ∧ (s.count id upper n).dev = s.dev ∧ (s.count id upper n).power =
    s.power ∧ (s.count id upper n).clocks = s.clocks ∧ (s.count id upper n).fw = s.fw ∧ (s.count id upper n).regs =
    s.regs ∧ (s.count id upper n).faults = s.faults ∧ (s.count id upper n).health = s.health ∧ (s.count id upper
    n).watch = s.watch ∧ (s.count id upper n).kennel = s.kennel ∧ (s.count id upper n).time = s.time ∧ (s.count id
    upper n).pps = s.pps ∧ (s.count id upper n).up = s.up ∧ (s.count id upper n).down = s.down ∧ (s.count id upper
    n).bulkQ = s.bulkQ ∧ (s.count id upper n).urgentQ = s.urgentQ ∧ (s.count id upper n).own = s.own ∧ (s.count id
    upper n).tagNext = s.tagNext ∧ (s.count id upper n).enumRun = s.enumRun ∧ (s.count id upper n).echoRun =
    s.echoRun ∧ (s.count id upper n).hnd = s.hnd ∧ (s.count id upper n).nib = s.nib ∧ (s.count id upper n).vlv =
    s.vlv ∧ (s.count id upper n).d2d = s.d2d ∧ (s.count id upper n).sw = s.sw ∧ (s.count id upper n).bus = s.bus ∧
    (s.count id upper n).gnss = s.gnss ∧ (s.count id upper n).log = s.log ∧ (s.count id upper n).dog = s.dog ∧
    (s.count id upper n).stage = s.stage := by
  unfold State.count
  and_intros <;> rfl

/-- `elapse` writes only out, clk, time, vlv. -/
@[simp] theorem elapse_keeps (s : State) (dt : Nat) :
    (s.elapse dt).pending = s.pending ∧ (s.elapse dt).freeCtr = s.freeCtr ∧ (s.elapse dt).dev = s.dev ∧ (s.elapse
    dt).power = s.power ∧ (s.elapse dt).clocks = s.clocks ∧ (s.elapse dt).fw = s.fw ∧ (s.elapse dt).regs = s.regs ∧
    (s.elapse dt).faults = s.faults ∧ (s.elapse dt).health = s.health ∧ (s.elapse dt).watch = s.watch ∧ (s.elapse
    dt).kennel = s.kennel ∧ (s.elapse dt).pps = s.pps ∧ (s.elapse dt).up = s.up ∧ (s.elapse dt).down = s.down ∧
    (s.elapse dt).bulkQ = s.bulkQ ∧ (s.elapse dt).urgentQ = s.urgentQ ∧ (s.elapse dt).own = s.own ∧ (s.elapse
    dt).tagNext = s.tagNext ∧ (s.elapse dt).enumRun = s.enumRun ∧ (s.elapse dt).echoRun = s.echoRun ∧ (s.elapse
    dt).hnd = s.hnd ∧ (s.elapse dt).par = s.par ∧ (s.elapse dt).nib = s.nib ∧ (s.elapse dt).d2d = s.d2d ∧ (s.elapse
    dt).sw = s.sw ∧ (s.elapse dt).bus = s.bus ∧ (s.elapse dt).gnss = s.gnss ∧ (s.elapse dt).log = s.log ∧ (s.elapse
    dt).dog = s.dog ∧ (s.elapse dt).stage = s.stage := by
  unfold State.elapse
  repeat' split
  all_goals (and_intros <;> rfl)

/-- `modBank` writes only vlv. -/
@[simp] theorem modBank_keeps (s : State) (b : Bank) (f : BankSt → BankSt) :
    (s.modBank b f).pending = s.pending ∧ (s.modBank b f).out = s.out ∧ (s.modBank b f).clk = s.clk ∧ (s.modBank b
    f).freeCtr = s.freeCtr ∧ (s.modBank b f).dev = s.dev ∧ (s.modBank b f).power = s.power ∧ (s.modBank b f).clocks
    = s.clocks ∧ (s.modBank b f).fw = s.fw ∧ (s.modBank b f).regs = s.regs ∧ (s.modBank b f).faults = s.faults ∧
    (s.modBank b f).health = s.health ∧ (s.modBank b f).watch = s.watch ∧ (s.modBank b f).kennel = s.kennel ∧
    (s.modBank b f).time = s.time ∧ (s.modBank b f).pps = s.pps ∧ (s.modBank b f).up = s.up ∧ (s.modBank b f).down =
    s.down ∧ (s.modBank b f).bulkQ = s.bulkQ ∧ (s.modBank b f).urgentQ = s.urgentQ ∧ (s.modBank b f).own = s.own ∧
    (s.modBank b f).tagNext = s.tagNext ∧ (s.modBank b f).enumRun = s.enumRun ∧ (s.modBank b f).echoRun = s.echoRun
    ∧ (s.modBank b f).hnd = s.hnd ∧ (s.modBank b f).par = s.par ∧ (s.modBank b f).nib = s.nib ∧ (s.modBank b f).d2d
    = s.d2d ∧ (s.modBank b f).sw = s.sw ∧ (s.modBank b f).bus = s.bus ∧ (s.modBank b f).gnss = s.gnss ∧ (s.modBank b
    f).log = s.log ∧ (s.modBank b f).dog = s.dog ∧ (s.modBank b f).stage = s.stage := by
  unfold State.modBank
  and_intros <;> rfl

/-- `modBanks` writes only vlv. -/
@[simp] theorem modBanks_keeps (s : State) (f : BankSt → BankSt) :
    (s.modBanks f).pending = s.pending ∧ (s.modBanks f).out = s.out ∧ (s.modBanks f).clk = s.clk ∧ (s.modBanks
    f).freeCtr = s.freeCtr ∧ (s.modBanks f).dev = s.dev ∧ (s.modBanks f).power = s.power ∧ (s.modBanks f).clocks =
    s.clocks ∧ (s.modBanks f).fw = s.fw ∧ (s.modBanks f).regs = s.regs ∧ (s.modBanks f).faults = s.faults ∧
    (s.modBanks f).health = s.health ∧ (s.modBanks f).watch = s.watch ∧ (s.modBanks f).kennel = s.kennel ∧
    (s.modBanks f).time = s.time ∧ (s.modBanks f).pps = s.pps ∧ (s.modBanks f).up = s.up ∧ (s.modBanks f).down =
    s.down ∧ (s.modBanks f).bulkQ = s.bulkQ ∧ (s.modBanks f).urgentQ = s.urgentQ ∧ (s.modBanks f).own = s.own ∧
    (s.modBanks f).tagNext = s.tagNext ∧ (s.modBanks f).enumRun = s.enumRun ∧ (s.modBanks f).echoRun = s.echoRun ∧
    (s.modBanks f).hnd = s.hnd ∧ (s.modBanks f).par = s.par ∧ (s.modBanks f).nib = s.nib ∧ (s.modBanks f).d2d =
    s.d2d ∧ (s.modBanks f).sw = s.sw ∧ (s.modBanks f).bus = s.bus ∧ (s.modBanks f).gnss = s.gnss ∧ (s.modBanks
    f).log = s.log ∧ (s.modBanks f).dog = s.dog ∧ (s.modBanks f).stage = s.stage := by
  unfold State.modBanks
  and_intros <;> rfl

/-- `modChan` writes only vlv. -/
@[simp] theorem modChan_keeps (s : State) (v : Valve) (f : Chan → Chan) :
    (s.modChan v f).pending = s.pending ∧ (s.modChan v f).out = s.out ∧ (s.modChan v f).clk = s.clk ∧ (s.modChan v
    f).freeCtr = s.freeCtr ∧ (s.modChan v f).dev = s.dev ∧ (s.modChan v f).power = s.power ∧ (s.modChan v f).clocks
    = s.clocks ∧ (s.modChan v f).fw = s.fw ∧ (s.modChan v f).regs = s.regs ∧ (s.modChan v f).faults = s.faults ∧
    (s.modChan v f).health = s.health ∧ (s.modChan v f).watch = s.watch ∧ (s.modChan v f).kennel = s.kennel ∧
    (s.modChan v f).time = s.time ∧ (s.modChan v f).pps = s.pps ∧ (s.modChan v f).up = s.up ∧ (s.modChan v f).down =
    s.down ∧ (s.modChan v f).bulkQ = s.bulkQ ∧ (s.modChan v f).urgentQ = s.urgentQ ∧ (s.modChan v f).own = s.own ∧
    (s.modChan v f).tagNext = s.tagNext ∧ (s.modChan v f).enumRun = s.enumRun ∧ (s.modChan v f).echoRun = s.echoRun
    ∧ (s.modChan v f).hnd = s.hnd ∧ (s.modChan v f).par = s.par ∧ (s.modChan v f).nib = s.nib ∧ (s.modChan v f).d2d
    = s.d2d ∧ (s.modChan v f).sw = s.sw ∧ (s.modChan v f).bus = s.bus ∧ (s.modChan v f).gnss = s.gnss ∧ (s.modChan v
    f).log = s.log ∧ (s.modChan v f).dog = s.dog ∧ (s.modChan v f).stage = s.stage := by
  unfold State.modChan
  and_intros <;> rfl

/-- `modValve` writes only vlv. -/
@[simp] theorem modValve_keeps (s : State) (v : Valve) (f : ValveSt → ValveSt) :
    (s.modValve v f).pending = s.pending ∧ (s.modValve v f).out = s.out ∧ (s.modValve v f).clk = s.clk ∧ (s.modValve
    v f).freeCtr = s.freeCtr ∧ (s.modValve v f).dev = s.dev ∧ (s.modValve v f).power = s.power ∧ (s.modValve v
    f).clocks = s.clocks ∧ (s.modValve v f).fw = s.fw ∧ (s.modValve v f).regs = s.regs ∧ (s.modValve v f).faults =
    s.faults ∧ (s.modValve v f).health = s.health ∧ (s.modValve v f).watch = s.watch ∧ (s.modValve v f).kennel =
    s.kennel ∧ (s.modValve v f).time = s.time ∧ (s.modValve v f).pps = s.pps ∧ (s.modValve v f).up = s.up ∧
    (s.modValve v f).down = s.down ∧ (s.modValve v f).bulkQ = s.bulkQ ∧ (s.modValve v f).urgentQ = s.urgentQ ∧
    (s.modValve v f).own = s.own ∧ (s.modValve v f).tagNext = s.tagNext ∧ (s.modValve v f).enumRun = s.enumRun ∧
    (s.modValve v f).echoRun = s.echoRun ∧ (s.modValve v f).hnd = s.hnd ∧ (s.modValve v f).par = s.par ∧ (s.modValve
    v f).nib = s.nib ∧ (s.modValve v f).d2d = s.d2d ∧ (s.modValve v f).sw = s.sw ∧ (s.modValve v f).bus = s.bus ∧
    (s.modValve v f).gnss = s.gnss ∧ (s.modValve v f).log = s.log ∧ (s.modValve v f).dog = s.dog ∧ (s.modValve v
    f).stage = s.stage := by
  unfold State.modValve
  and_intros <;> rfl

/-- `modSw` writes only sw. -/
@[simp] theorem modSw_keeps (s : State) (n : Sw) (f : Switch → Switch) :
    (s.modSw n f).pending = s.pending ∧ (s.modSw n f).out = s.out ∧ (s.modSw n f).clk = s.clk ∧ (s.modSw n
    f).freeCtr = s.freeCtr ∧ (s.modSw n f).dev = s.dev ∧ (s.modSw n f).power = s.power ∧ (s.modSw n f).clocks =
    s.clocks ∧ (s.modSw n f).fw = s.fw ∧ (s.modSw n f).regs = s.regs ∧ (s.modSw n f).faults = s.faults ∧ (s.modSw n
    f).health = s.health ∧ (s.modSw n f).watch = s.watch ∧ (s.modSw n f).kennel = s.kennel ∧ (s.modSw n f).time =
    s.time ∧ (s.modSw n f).pps = s.pps ∧ (s.modSw n f).up = s.up ∧ (s.modSw n f).down = s.down ∧ (s.modSw n f).bulkQ
    = s.bulkQ ∧ (s.modSw n f).urgentQ = s.urgentQ ∧ (s.modSw n f).own = s.own ∧ (s.modSw n f).tagNext = s.tagNext ∧
    (s.modSw n f).enumRun = s.enumRun ∧ (s.modSw n f).echoRun = s.echoRun ∧ (s.modSw n f).hnd = s.hnd ∧ (s.modSw n
    f).par = s.par ∧ (s.modSw n f).nib = s.nib ∧ (s.modSw n f).vlv = s.vlv ∧ (s.modSw n f).d2d = s.d2d ∧ (s.modSw n
    f).bus = s.bus ∧ (s.modSw n f).gnss = s.gnss ∧ (s.modSw n f).log = s.log ∧ (s.modSw n f).dog = s.dog ∧ (s.modSw
    n f).stage = s.stage := by
  unfold State.modSw
  and_intros <;> rfl

/-- `modQuill` writes only vlv. -/
@[simp] theorem modQuill_keeps (s : State) (q : Fin 2) (f : Quill → Quill) :
    (s.modQuill q f).pending = s.pending ∧ (s.modQuill q f).out = s.out ∧ (s.modQuill q f).clk = s.clk ∧ (s.modQuill
    q f).freeCtr = s.freeCtr ∧ (s.modQuill q f).dev = s.dev ∧ (s.modQuill q f).power = s.power ∧ (s.modQuill q
    f).clocks = s.clocks ∧ (s.modQuill q f).fw = s.fw ∧ (s.modQuill q f).regs = s.regs ∧ (s.modQuill q f).faults =
    s.faults ∧ (s.modQuill q f).health = s.health ∧ (s.modQuill q f).watch = s.watch ∧ (s.modQuill q f).kennel =
    s.kennel ∧ (s.modQuill q f).time = s.time ∧ (s.modQuill q f).pps = s.pps ∧ (s.modQuill q f).up = s.up ∧
    (s.modQuill q f).down = s.down ∧ (s.modQuill q f).bulkQ = s.bulkQ ∧ (s.modQuill q f).urgentQ = s.urgentQ ∧
    (s.modQuill q f).own = s.own ∧ (s.modQuill q f).tagNext = s.tagNext ∧ (s.modQuill q f).enumRun = s.enumRun ∧
    (s.modQuill q f).echoRun = s.echoRun ∧ (s.modQuill q f).hnd = s.hnd ∧ (s.modQuill q f).par = s.par ∧ (s.modQuill
    q f).nib = s.nib ∧ (s.modQuill q f).d2d = s.d2d ∧ (s.modQuill q f).sw = s.sw ∧ (s.modQuill q f).bus = s.bus ∧
    (s.modQuill q f).gnss = s.gnss ∧ (s.modQuill q f).log = s.log ∧ (s.modQuill q f).dog = s.dog ∧ (s.modQuill q
    f).stage = s.stage := by
  unfold State.modQuill
  repeat' split
  all_goals (and_intros <;> rfl)

/-- `modPort` writes only up, down. -/
@[simp] theorem modPort_keeps (s : State) (p : Side) (f : Port → Port) :
    (s.modPort p f).pending = s.pending ∧ (s.modPort p f).out = s.out ∧ (s.modPort p f).clk = s.clk ∧ (s.modPort p
    f).freeCtr = s.freeCtr ∧ (s.modPort p f).dev = s.dev ∧ (s.modPort p f).power = s.power ∧ (s.modPort p f).clocks
    = s.clocks ∧ (s.modPort p f).fw = s.fw ∧ (s.modPort p f).regs = s.regs ∧ (s.modPort p f).faults = s.faults ∧
    (s.modPort p f).health = s.health ∧ (s.modPort p f).watch = s.watch ∧ (s.modPort p f).kennel = s.kennel ∧
    (s.modPort p f).time = s.time ∧ (s.modPort p f).pps = s.pps ∧ (s.modPort p f).bulkQ = s.bulkQ ∧ (s.modPort p
    f).urgentQ = s.urgentQ ∧ (s.modPort p f).own = s.own ∧ (s.modPort p f).tagNext = s.tagNext ∧ (s.modPort p
    f).enumRun = s.enumRun ∧ (s.modPort p f).echoRun = s.echoRun ∧ (s.modPort p f).hnd = s.hnd ∧ (s.modPort p f).par
    = s.par ∧ (s.modPort p f).nib = s.nib ∧ (s.modPort p f).vlv = s.vlv ∧ (s.modPort p f).d2d = s.d2d ∧ (s.modPort p
    f).sw = s.sw ∧ (s.modPort p f).bus = s.bus ∧ (s.modPort p f).gnss = s.gnss ∧ (s.modPort p f).log = s.log ∧
    (s.modPort p f).dog = s.dog ∧ (s.modPort p f).stage = s.stage := by
  cases p <;> (and_intros <;> rfl)

/-- `modEngine` writes only dog. -/
@[simp] theorem modEngine_keeps (s : State) (e : Fin 10) (f : Engine → Engine) :
    (s.modEngine e f).pending = s.pending ∧ (s.modEngine e f).out = s.out ∧ (s.modEngine e f).clk = s.clk ∧
    (s.modEngine e f).freeCtr = s.freeCtr ∧ (s.modEngine e f).dev = s.dev ∧ (s.modEngine e f).power = s.power ∧
    (s.modEngine e f).clocks = s.clocks ∧ (s.modEngine e f).fw = s.fw ∧ (s.modEngine e f).regs = s.regs ∧
    (s.modEngine e f).faults = s.faults ∧ (s.modEngine e f).health = s.health ∧ (s.modEngine e f).watch = s.watch ∧
    (s.modEngine e f).kennel = s.kennel ∧ (s.modEngine e f).time = s.time ∧ (s.modEngine e f).pps = s.pps ∧
    (s.modEngine e f).up = s.up ∧ (s.modEngine e f).down = s.down ∧ (s.modEngine e f).bulkQ = s.bulkQ ∧ (s.modEngine
    e f).urgentQ = s.urgentQ ∧ (s.modEngine e f).own = s.own ∧ (s.modEngine e f).tagNext = s.tagNext ∧ (s.modEngine
    e f).enumRun = s.enumRun ∧ (s.modEngine e f).echoRun = s.echoRun ∧ (s.modEngine e f).hnd = s.hnd ∧ (s.modEngine
    e f).par = s.par ∧ (s.modEngine e f).nib = s.nib ∧ (s.modEngine e f).vlv = s.vlv ∧ (s.modEngine e f).d2d = s.d2d
    ∧ (s.modEngine e f).sw = s.sw ∧ (s.modEngine e f).bus = s.bus ∧ (s.modEngine e f).gnss = s.gnss ∧ (s.modEngine e
    f).log = s.log ∧ (s.modEngine e f).stage = s.stage := by
  unfold State.modEngine
  and_intros <;> rfl

/-- `modLive` writes only hnd. -/
@[simp] theorem modLive_keeps (s : State) (h : HandleId) (f : Live → Live) :
    (s.modLive h f).pending = s.pending ∧ (s.modLive h f).out = s.out ∧ (s.modLive h f).clk = s.clk ∧ (s.modLive h
    f).freeCtr = s.freeCtr ∧ (s.modLive h f).dev = s.dev ∧ (s.modLive h f).power = s.power ∧ (s.modLive h f).clocks
    = s.clocks ∧ (s.modLive h f).fw = s.fw ∧ (s.modLive h f).regs = s.regs ∧ (s.modLive h f).faults = s.faults ∧
    (s.modLive h f).health = s.health ∧ (s.modLive h f).watch = s.watch ∧ (s.modLive h f).kennel = s.kennel ∧
    (s.modLive h f).time = s.time ∧ (s.modLive h f).pps = s.pps ∧ (s.modLive h f).up = s.up ∧ (s.modLive h f).down =
    s.down ∧ (s.modLive h f).bulkQ = s.bulkQ ∧ (s.modLive h f).urgentQ = s.urgentQ ∧ (s.modLive h f).own = s.own ∧
    (s.modLive h f).tagNext = s.tagNext ∧ (s.modLive h f).enumRun = s.enumRun ∧ (s.modLive h f).echoRun = s.echoRun
    ∧ (s.modLive h f).par = s.par ∧ (s.modLive h f).nib = s.nib ∧ (s.modLive h f).vlv = s.vlv ∧ (s.modLive h f).d2d
    = s.d2d ∧ (s.modLive h f).sw = s.sw ∧ (s.modLive h f).bus = s.bus ∧ (s.modLive h f).gnss = s.gnss ∧ (s.modLive h
    f).log = s.log ∧ (s.modLive h f).dog = s.dog ∧ (s.modLive h f).stage = s.stage := by
  unfold State.modLive
  repeat' split
  all_goals (and_intros <;> rfl)

/-- `sendD2d` writes only d2d. -/
@[simp] theorem sendD2d_keeps (s : State) (link : Fin 3) (m : D2dMsg) :
    (s.sendD2d link m).pending = s.pending ∧ (s.sendD2d link m).out = s.out ∧ (s.sendD2d link m).clk = s.clk ∧
    (s.sendD2d link m).freeCtr = s.freeCtr ∧ (s.sendD2d link m).dev = s.dev ∧ (s.sendD2d link m).power = s.power ∧
    (s.sendD2d link m).clocks = s.clocks ∧ (s.sendD2d link m).fw = s.fw ∧ (s.sendD2d link m).regs = s.regs ∧
    (s.sendD2d link m).faults = s.faults ∧ (s.sendD2d link m).health = s.health ∧ (s.sendD2d link m).watch = s.watch
    ∧ (s.sendD2d link m).kennel = s.kennel ∧ (s.sendD2d link m).time = s.time ∧ (s.sendD2d link m).pps = s.pps ∧
    (s.sendD2d link m).up = s.up ∧ (s.sendD2d link m).down = s.down ∧ (s.sendD2d link m).bulkQ = s.bulkQ ∧
    (s.sendD2d link m).urgentQ = s.urgentQ ∧ (s.sendD2d link m).own = s.own ∧ (s.sendD2d link m).tagNext = s.tagNext
    ∧ (s.sendD2d link m).enumRun = s.enumRun ∧ (s.sendD2d link m).echoRun = s.echoRun ∧ (s.sendD2d link m).hnd =
    s.hnd ∧ (s.sendD2d link m).par = s.par ∧ (s.sendD2d link m).nib = s.nib ∧ (s.sendD2d link m).vlv = s.vlv ∧
    (s.sendD2d link m).sw = s.sw ∧ (s.sendD2d link m).bus = s.bus ∧ (s.sendD2d link m).gnss = s.gnss ∧ (s.sendD2d
    link m).log = s.log ∧ (s.sendD2d link m).dog = s.dog ∧ (s.sendD2d link m).stage = s.stage := by
  unfold State.sendD2d
  and_intros <;> rfl

/-- `modEvents` writes only nib. -/
@[simp] theorem modEvents_keeps (s : State) (p : Event → Bool) (f : Event → Event) :
    (s.modEvents p f).pending = s.pending ∧ (s.modEvents p f).out = s.out ∧ (s.modEvents p f).clk = s.clk ∧
    (s.modEvents p f).freeCtr = s.freeCtr ∧ (s.modEvents p f).dev = s.dev ∧ (s.modEvents p f).power = s.power ∧
    (s.modEvents p f).clocks = s.clocks ∧ (s.modEvents p f).fw = s.fw ∧ (s.modEvents p f).regs = s.regs ∧
    (s.modEvents p f).faults = s.faults ∧ (s.modEvents p f).health = s.health ∧ (s.modEvents p f).watch = s.watch ∧
    (s.modEvents p f).kennel = s.kennel ∧ (s.modEvents p f).time = s.time ∧ (s.modEvents p f).pps = s.pps ∧
    (s.modEvents p f).up = s.up ∧ (s.modEvents p f).down = s.down ∧ (s.modEvents p f).bulkQ = s.bulkQ ∧ (s.modEvents
    p f).urgentQ = s.urgentQ ∧ (s.modEvents p f).own = s.own ∧ (s.modEvents p f).tagNext = s.tagNext ∧ (s.modEvents
    p f).enumRun = s.enumRun ∧ (s.modEvents p f).echoRun = s.echoRun ∧ (s.modEvents p f).hnd = s.hnd ∧ (s.modEvents
    p f).par = s.par ∧ (s.modEvents p f).vlv = s.vlv ∧ (s.modEvents p f).d2d = s.d2d ∧ (s.modEvents p f).sw = s.sw ∧
    (s.modEvents p f).bus = s.bus ∧ (s.modEvents p f).gnss = s.gnss ∧ (s.modEvents p f).log = s.log ∧ (s.modEvents p
    f).dog = s.dog ∧ (s.modEvents p f).stage = s.stage := by
  unfold State.modEvents
  and_intros <;> rfl

/-- `dropTokens` writes only nib. -/
@[simp] theorem dropTokens_keeps (s : State) (h : HandleId) (begun : Bool) :
    (s.dropTokens h begun).pending = s.pending ∧ (s.dropTokens h begun).out = s.out ∧ (s.dropTokens h begun).clk =
    s.clk ∧ (s.dropTokens h begun).freeCtr = s.freeCtr ∧ (s.dropTokens h begun).dev = s.dev ∧ (s.dropTokens h
    begun).power = s.power ∧ (s.dropTokens h begun).clocks = s.clocks ∧ (s.dropTokens h begun).fw = s.fw ∧
    (s.dropTokens h begun).regs = s.regs ∧ (s.dropTokens h begun).faults = s.faults ∧ (s.dropTokens h begun).health
    = s.health ∧ (s.dropTokens h begun).watch = s.watch ∧ (s.dropTokens h begun).kennel = s.kennel ∧ (s.dropTokens h
    begun).time = s.time ∧ (s.dropTokens h begun).pps = s.pps ∧ (s.dropTokens h begun).up = s.up ∧ (s.dropTokens h
    begun).down = s.down ∧ (s.dropTokens h begun).bulkQ = s.bulkQ ∧ (s.dropTokens h begun).urgentQ = s.urgentQ ∧
    (s.dropTokens h begun).own = s.own ∧ (s.dropTokens h begun).tagNext = s.tagNext ∧ (s.dropTokens h begun).enumRun
    = s.enumRun ∧ (s.dropTokens h begun).echoRun = s.echoRun ∧ (s.dropTokens h begun).hnd = s.hnd ∧ (s.dropTokens h
    begun).par = s.par ∧ (s.dropTokens h begun).vlv = s.vlv ∧ (s.dropTokens h begun).d2d = s.d2d ∧ (s.dropTokens h
    begun).sw = s.sw ∧ (s.dropTokens h begun).bus = s.bus ∧ (s.dropTokens h begun).gnss = s.gnss ∧ (s.dropTokens h
    begun).log = s.log ∧ (s.dropTokens h begun).dog = s.dog ∧ (s.dropTokens h begun).stage = s.stage := by
  unfold State.dropTokens
  and_intros <;> rfl

/-- `modPtr` writes only gnss. -/
@[simp] theorem modPtr_keeps (s : State) (c : PChan) (f : Pointer → Pointer) :
    (s.modPtr c f).pending = s.pending ∧ (s.modPtr c f).out = s.out ∧ (s.modPtr c f).clk = s.clk ∧ (s.modPtr c
    f).freeCtr = s.freeCtr ∧ (s.modPtr c f).dev = s.dev ∧ (s.modPtr c f).power = s.power ∧ (s.modPtr c f).clocks =
    s.clocks ∧ (s.modPtr c f).fw = s.fw ∧ (s.modPtr c f).regs = s.regs ∧ (s.modPtr c f).faults = s.faults ∧
    (s.modPtr c f).health = s.health ∧ (s.modPtr c f).watch = s.watch ∧ (s.modPtr c f).kennel = s.kennel ∧ (s.modPtr
    c f).time = s.time ∧ (s.modPtr c f).pps = s.pps ∧ (s.modPtr c f).up = s.up ∧ (s.modPtr c f).down = s.down ∧
    (s.modPtr c f).bulkQ = s.bulkQ ∧ (s.modPtr c f).urgentQ = s.urgentQ ∧ (s.modPtr c f).own = s.own ∧ (s.modPtr c
    f).tagNext = s.tagNext ∧ (s.modPtr c f).enumRun = s.enumRun ∧ (s.modPtr c f).echoRun = s.echoRun ∧ (s.modPtr c
    f).hnd = s.hnd ∧ (s.modPtr c f).par = s.par ∧ (s.modPtr c f).nib = s.nib ∧ (s.modPtr c f).vlv = s.vlv ∧
    (s.modPtr c f).d2d = s.d2d ∧ (s.modPtr c f).sw = s.sw ∧ (s.modPtr c f).bus = s.bus ∧ (s.modPtr c f).log = s.log
    ∧ (s.modPtr c f).dog = s.dog ∧ (s.modPtr c f).stage = s.stage := by
  unfold State.modPtr
  and_intros <;> rfl

/-- `modPulse` writes only vlv. -/
@[simp] theorem modPulse_keeps (s : State) (v : Valve) (d : Drive) (f : Pulse → Pulse) :
    (s.modPulse v d f).pending = s.pending ∧ (s.modPulse v d f).out = s.out ∧ (s.modPulse v d f).clk = s.clk ∧
    (s.modPulse v d f).freeCtr = s.freeCtr ∧ (s.modPulse v d f).dev = s.dev ∧ (s.modPulse v d f).power = s.power ∧
    (s.modPulse v d f).clocks = s.clocks ∧ (s.modPulse v d f).fw = s.fw ∧ (s.modPulse v d f).regs = s.regs ∧
    (s.modPulse v d f).faults = s.faults ∧ (s.modPulse v d f).health = s.health ∧ (s.modPulse v d f).watch = s.watch
    ∧ (s.modPulse v d f).kennel = s.kennel ∧ (s.modPulse v d f).time = s.time ∧ (s.modPulse v d f).pps = s.pps ∧
    (s.modPulse v d f).up = s.up ∧ (s.modPulse v d f).down = s.down ∧ (s.modPulse v d f).bulkQ = s.bulkQ ∧
    (s.modPulse v d f).urgentQ = s.urgentQ ∧ (s.modPulse v d f).own = s.own ∧ (s.modPulse v d f).tagNext = s.tagNext
    ∧ (s.modPulse v d f).enumRun = s.enumRun ∧ (s.modPulse v d f).echoRun = s.echoRun ∧ (s.modPulse v d f).hnd =
    s.hnd ∧ (s.modPulse v d f).par = s.par ∧ (s.modPulse v d f).nib = s.nib ∧ (s.modPulse v d f).d2d = s.d2d ∧
    (s.modPulse v d f).sw = s.sw ∧ (s.modPulse v d f).bus = s.bus ∧ (s.modPulse v d f).gnss = s.gnss ∧ (s.modPulse v
    d f).log = s.log ∧ (s.modPulse v d f).dog = s.dog ∧ (s.modPulse v d f).stage = s.stage := by
  unfold State.modPulse
  and_intros <;> rfl

/-- `freeRx` writes only up, down. -/
@[simp] theorem freeRx_keeps (s : State) (p : Side) (urgent : Bool) (n : Nat) :
    (s.freeRx p urgent n).pending = s.pending ∧ (s.freeRx p urgent n).out = s.out ∧ (s.freeRx p urgent n).clk =
    s.clk ∧ (s.freeRx p urgent n).freeCtr = s.freeCtr ∧ (s.freeRx p urgent n).dev = s.dev ∧ (s.freeRx p urgent
    n).power = s.power ∧ (s.freeRx p urgent n).clocks = s.clocks ∧ (s.freeRx p urgent n).fw = s.fw ∧ (s.freeRx p
    urgent n).regs = s.regs ∧ (s.freeRx p urgent n).faults = s.faults ∧ (s.freeRx p urgent n).health = s.health ∧
    (s.freeRx p urgent n).watch = s.watch ∧ (s.freeRx p urgent n).kennel = s.kennel ∧ (s.freeRx p urgent n).time =
    s.time ∧ (s.freeRx p urgent n).pps = s.pps ∧ (s.freeRx p urgent n).bulkQ = s.bulkQ ∧ (s.freeRx p urgent
    n).urgentQ = s.urgentQ ∧ (s.freeRx p urgent n).own = s.own ∧ (s.freeRx p urgent n).tagNext = s.tagNext ∧
    (s.freeRx p urgent n).enumRun = s.enumRun ∧ (s.freeRx p urgent n).echoRun = s.echoRun ∧ (s.freeRx p urgent
    n).hnd = s.hnd ∧ (s.freeRx p urgent n).par = s.par ∧ (s.freeRx p urgent n).nib = s.nib ∧ (s.freeRx p urgent
    n).vlv = s.vlv ∧ (s.freeRx p urgent n).d2d = s.d2d ∧ (s.freeRx p urgent n).sw = s.sw ∧ (s.freeRx p urgent n).bus
    = s.bus ∧ (s.freeRx p urgent n).gnss = s.gnss ∧ (s.freeRx p urgent n).log = s.log ∧ (s.freeRx p urgent n).dog =
    s.dog ∧ (s.freeRx p urgent n).stage = s.stage := by
  unfold State.freeRx
  try dsimp only
  all_goals simp

/-- `put` writes only up, down. -/
@[simp] theorem put_keeps (s : State) (p : Side) (urgent : Bool) (t : TxPacket) :
    (s.put p urgent t).pending = s.pending ∧ (s.put p urgent t).out = s.out ∧ (s.put p urgent t).clk = s.clk ∧
    (s.put p urgent t).freeCtr = s.freeCtr ∧ (s.put p urgent t).dev = s.dev ∧ (s.put p urgent t).power = s.power ∧
    (s.put p urgent t).clocks = s.clocks ∧ (s.put p urgent t).fw = s.fw ∧ (s.put p urgent t).regs = s.regs ∧ (s.put
    p urgent t).faults = s.faults ∧ (s.put p urgent t).health = s.health ∧ (s.put p urgent t).watch = s.watch ∧
    (s.put p urgent t).kennel = s.kennel ∧ (s.put p urgent t).time = s.time ∧ (s.put p urgent t).pps = s.pps ∧
    (s.put p urgent t).bulkQ = s.bulkQ ∧ (s.put p urgent t).urgentQ = s.urgentQ ∧ (s.put p urgent t).own = s.own ∧
    (s.put p urgent t).tagNext = s.tagNext ∧ (s.put p urgent t).enumRun = s.enumRun ∧ (s.put p urgent t).echoRun =
    s.echoRun ∧ (s.put p urgent t).hnd = s.hnd ∧ (s.put p urgent t).par = s.par ∧ (s.put p urgent t).nib = s.nib ∧
    (s.put p urgent t).vlv = s.vlv ∧ (s.put p urgent t).d2d = s.d2d ∧ (s.put p urgent t).sw = s.sw ∧ (s.put p urgent
    t).bus = s.bus ∧ (s.put p urgent t).gnss = s.gnss ∧ (s.put p urgent t).log = s.log ∧ (s.put p urgent t).dog =
    s.dog ∧ (s.put p urgent t).stage = s.stage := by
  unfold State.put
  try dsimp only
  repeat' split
  all_goals simp

/-- `reply` writes only up, down. -/
@[simp] theorem reply_keeps (s : State) (opc : Nat) (r : Request) (st : Status) (h detail : Nat) (more : List Word) :
    (s.reply opc r st h detail more).pending = s.pending ∧ (s.reply opc r st h detail more).out = s.out ∧ (s.reply
    opc r st h detail more).clk = s.clk ∧ (s.reply opc r st h detail more).freeCtr = s.freeCtr ∧ (s.reply opc r st h
    detail more).dev = s.dev ∧ (s.reply opc r st h detail more).power = s.power ∧ (s.reply opc r st h detail
    more).clocks = s.clocks ∧ (s.reply opc r st h detail more).fw = s.fw ∧ (s.reply opc r st h detail more).regs =
    s.regs ∧ (s.reply opc r st h detail more).faults = s.faults ∧ (s.reply opc r st h detail more).health = s.health
    ∧ (s.reply opc r st h detail more).watch = s.watch ∧ (s.reply opc r st h detail more).kennel = s.kennel ∧
    (s.reply opc r st h detail more).time = s.time ∧ (s.reply opc r st h detail more).pps = s.pps ∧ (s.reply opc r
    st h detail more).bulkQ = s.bulkQ ∧ (s.reply opc r st h detail more).urgentQ = s.urgentQ ∧ (s.reply opc r st h
    detail more).own = s.own ∧ (s.reply opc r st h detail more).tagNext = s.tagNext ∧ (s.reply opc r st h detail
    more).enumRun = s.enumRun ∧ (s.reply opc r st h detail more).echoRun = s.echoRun ∧ (s.reply opc r st h detail
    more).hnd = s.hnd ∧ (s.reply opc r st h detail more).par = s.par ∧ (s.reply opc r st h detail more).nib = s.nib
    ∧ (s.reply opc r st h detail more).vlv = s.vlv ∧ (s.reply opc r st h detail more).d2d = s.d2d ∧ (s.reply opc r
    st h detail more).sw = s.sw ∧ (s.reply opc r st h detail more).bus = s.bus ∧ (s.reply opc r st h detail
    more).gnss = s.gnss ∧ (s.reply opc r st h detail more).log = s.log ∧ (s.reply opc r st h detail more).dog =
    s.dog ∧ (s.reply opc r st h detail more).stage = s.stage := by
  unfold State.reply
  try dsimp only
  repeat' split
  all_goals simp

/-- `ok` writes only up, down. -/
@[simp] theorem ok_keeps (s : State) (opc : Nat) (r : Request) :
    (s.ok opc r).pending = s.pending ∧ (s.ok opc r).out = s.out ∧ (s.ok opc r).clk = s.clk ∧ (s.ok opc r).freeCtr =
    s.freeCtr ∧ (s.ok opc r).dev = s.dev ∧ (s.ok opc r).power = s.power ∧ (s.ok opc r).clocks = s.clocks ∧ (s.ok opc
    r).fw = s.fw ∧ (s.ok opc r).regs = s.regs ∧ (s.ok opc r).faults = s.faults ∧ (s.ok opc r).health = s.health ∧
    (s.ok opc r).watch = s.watch ∧ (s.ok opc r).kennel = s.kennel ∧ (s.ok opc r).time = s.time ∧ (s.ok opc r).pps =
    s.pps ∧ (s.ok opc r).bulkQ = s.bulkQ ∧ (s.ok opc r).urgentQ = s.urgentQ ∧ (s.ok opc r).own = s.own ∧ (s.ok opc
    r).tagNext = s.tagNext ∧ (s.ok opc r).enumRun = s.enumRun ∧ (s.ok opc r).echoRun = s.echoRun ∧ (s.ok opc r).hnd
    = s.hnd ∧ (s.ok opc r).par = s.par ∧ (s.ok opc r).nib = s.nib ∧ (s.ok opc r).vlv = s.vlv ∧ (s.ok opc r).d2d =
    s.d2d ∧ (s.ok opc r).sw = s.sw ∧ (s.ok opc r).bus = s.bus ∧ (s.ok opc r).gnss = s.gnss ∧ (s.ok opc r).log =
    s.log ∧ (s.ok opc r).dog = s.dog ∧ (s.ok opc r).stage = s.stage := by
  unfold State.ok
  try dsimp only
  all_goals simp

/-- `send` writes only up, down. -/
@[simp] theorem send_keeps (s : State) (p : Side) (dst : Addr) (opc : Nat) (tag : BitVec 14) (noreply urgent : Bool) (words : List Word) :
    (s.send p dst opc tag noreply urgent words).pending = s.pending ∧ (s.send p dst opc tag noreply urgent
    words).out = s.out ∧ (s.send p dst opc tag noreply urgent words).clk = s.clk ∧ (s.send p dst opc tag noreply
    urgent words).freeCtr = s.freeCtr ∧ (s.send p dst opc tag noreply urgent words).dev = s.dev ∧ (s.send p dst opc
    tag noreply urgent words).power = s.power ∧ (s.send p dst opc tag noreply urgent words).clocks = s.clocks ∧
    (s.send p dst opc tag noreply urgent words).fw = s.fw ∧ (s.send p dst opc tag noreply urgent words).regs =
    s.regs ∧ (s.send p dst opc tag noreply urgent words).faults = s.faults ∧ (s.send p dst opc tag noreply urgent
    words).health = s.health ∧ (s.send p dst opc tag noreply urgent words).watch = s.watch ∧ (s.send p dst opc tag
    noreply urgent words).kennel = s.kennel ∧ (s.send p dst opc tag noreply urgent words).time = s.time ∧ (s.send p
    dst opc tag noreply urgent words).pps = s.pps ∧ (s.send p dst opc tag noreply urgent words).bulkQ = s.bulkQ ∧
    (s.send p dst opc tag noreply urgent words).urgentQ = s.urgentQ ∧ (s.send p dst opc tag noreply urgent
    words).own = s.own ∧ (s.send p dst opc tag noreply urgent words).tagNext = s.tagNext ∧ (s.send p dst opc tag
    noreply urgent words).enumRun = s.enumRun ∧ (s.send p dst opc tag noreply urgent words).echoRun = s.echoRun ∧
    (s.send p dst opc tag noreply urgent words).hnd = s.hnd ∧ (s.send p dst opc tag noreply urgent words).par =
    s.par ∧ (s.send p dst opc tag noreply urgent words).nib = s.nib ∧ (s.send p dst opc tag noreply urgent
    words).vlv = s.vlv ∧ (s.send p dst opc tag noreply urgent words).d2d = s.d2d ∧ (s.send p dst opc tag noreply
    urgent words).sw = s.sw ∧ (s.send p dst opc tag noreply urgent words).bus = s.bus ∧ (s.send p dst opc tag
    noreply urgent words).gnss = s.gnss ∧ (s.send p dst opc tag noreply urgent words).log = s.log ∧ (s.send p dst
    opc tag noreply urgent words).dog = s.dog ∧ (s.send p dst opc tag noreply urgent words).stage = s.stage := by
  unfold State.send
  try dsimp only
  all_goals simp

/-- `noteSent` writes only own. -/
@[simp] theorem noteSent_keeps (s : State) (opc : Nat) :
    (s.noteSent opc).pending = s.pending ∧ (s.noteSent opc).out = s.out ∧ (s.noteSent opc).clk = s.clk ∧ (s.noteSent
    opc).freeCtr = s.freeCtr ∧ (s.noteSent opc).dev = s.dev ∧ (s.noteSent opc).power = s.power ∧ (s.noteSent
    opc).clocks = s.clocks ∧ (s.noteSent opc).fw = s.fw ∧ (s.noteSent opc).regs = s.regs ∧ (s.noteSent opc).faults =
    s.faults ∧ (s.noteSent opc).health = s.health ∧ (s.noteSent opc).watch = s.watch ∧ (s.noteSent opc).kennel =
    s.kennel ∧ (s.noteSent opc).time = s.time ∧ (s.noteSent opc).pps = s.pps ∧ (s.noteSent opc).up = s.up ∧
    (s.noteSent opc).down = s.down ∧ (s.noteSent opc).bulkQ = s.bulkQ ∧ (s.noteSent opc).urgentQ = s.urgentQ ∧
    (s.noteSent opc).tagNext = s.tagNext ∧ (s.noteSent opc).enumRun = s.enumRun ∧ (s.noteSent opc).echoRun =
    s.echoRun ∧ (s.noteSent opc).hnd = s.hnd ∧ (s.noteSent opc).par = s.par ∧ (s.noteSent opc).nib = s.nib ∧
    (s.noteSent opc).vlv = s.vlv ∧ (s.noteSent opc).d2d = s.d2d ∧ (s.noteSent opc).sw = s.sw ∧ (s.noteSent opc).bus =
    s.bus ∧ (s.noteSent opc).gnss = s.gnss ∧ (s.noteSent opc).log = s.log ∧ (s.noteSent opc).dog = s.dog ∧
    (s.noteSent opc).stage = s.stage := by
  unfold State.noteSent
  split <;> simp

/-- `broadcast` writes only own, up, down. -/
@[simp] theorem broadcast_keeps (s : State) (opc : Nat) (urgent : Bool) (words : List Word) :
    (s.broadcast opc urgent words).pending = s.pending ∧ (s.broadcast opc urgent words).out = s.out ∧ (s.broadcast
    opc urgent words).clk = s.clk ∧ (s.broadcast opc urgent words).freeCtr = s.freeCtr ∧ (s.broadcast opc urgent
    words).dev = s.dev ∧ (s.broadcast opc urgent words).power = s.power ∧ (s.broadcast opc urgent words).clocks =
    s.clocks ∧ (s.broadcast opc urgent words).fw = s.fw ∧ (s.broadcast opc urgent words).regs = s.regs ∧ (s.broadcast
    opc urgent words).faults = s.faults ∧ (s.broadcast opc urgent words).health = s.health ∧ (s.broadcast opc urgent
    words).watch = s.watch ∧ (s.broadcast opc urgent words).kennel = s.kennel ∧ (s.broadcast opc urgent words).time =
    s.time ∧ (s.broadcast opc urgent words).pps = s.pps ∧ (s.broadcast opc urgent words).bulkQ = s.bulkQ ∧
    (s.broadcast opc urgent words).urgentQ = s.urgentQ ∧ (s.broadcast opc urgent words).tagNext = s.tagNext ∧
    (s.broadcast opc urgent words).enumRun = s.enumRun ∧ (s.broadcast opc urgent words).echoRun = s.echoRun ∧
    (s.broadcast opc urgent words).hnd = s.hnd ∧ (s.broadcast opc urgent words).par = s.par ∧ (s.broadcast opc urgent
    words).nib = s.nib ∧ (s.broadcast opc urgent words).vlv = s.vlv ∧ (s.broadcast opc urgent words).d2d = s.d2d ∧
    (s.broadcast opc urgent words).sw = s.sw ∧ (s.broadcast opc urgent words).bus = s.bus ∧ (s.broadcast opc urgent
    words).gnss = s.gnss ∧ (s.broadcast opc urgent words).log = s.log ∧ (s.broadcast opc urgent words).dog = s.dog ∧
    (s.broadcast opc urgent words).stage = s.stage := by
  unfold State.broadcast
  try dsimp only
  all_goals simp

/-- `wake` writes only dog. -/
@[simp] theorem wake_keeps (s : State) (e : Fin 10) (busy : Bool) :
    (s.wake e busy).pending = s.pending ∧ (s.wake e busy).out = s.out ∧ (s.wake e busy).clk = s.clk ∧ (s.wake e
    busy).freeCtr = s.freeCtr ∧ (s.wake e busy).dev = s.dev ∧ (s.wake e busy).power = s.power ∧ (s.wake e
    busy).clocks = s.clocks ∧ (s.wake e busy).fw = s.fw ∧ (s.wake e busy).regs = s.regs ∧ (s.wake e busy).faults =
    s.faults ∧ (s.wake e busy).health = s.health ∧ (s.wake e busy).watch = s.watch ∧ (s.wake e busy).kennel =
    s.kennel ∧ (s.wake e busy).time = s.time ∧ (s.wake e busy).pps = s.pps ∧ (s.wake e busy).up = s.up ∧ (s.wake e
    busy).down = s.down ∧ (s.wake e busy).bulkQ = s.bulkQ ∧ (s.wake e busy).urgentQ = s.urgentQ ∧ (s.wake e
    busy).own = s.own ∧ (s.wake e busy).tagNext = s.tagNext ∧ (s.wake e busy).enumRun = s.enumRun ∧ (s.wake e
    busy).echoRun = s.echoRun ∧ (s.wake e busy).hnd = s.hnd ∧ (s.wake e busy).par = s.par ∧ (s.wake e busy).nib =
    s.nib ∧ (s.wake e busy).vlv = s.vlv ∧ (s.wake e busy).d2d = s.d2d ∧ (s.wake e busy).sw = s.sw ∧ (s.wake e
    busy).bus = s.bus ∧ (s.wake e busy).gnss = s.gnss ∧ (s.wake e busy).log = s.log ∧ (s.wake e busy).stage =
    s.stage := by
  unfold State.wake
  try dsimp only
  repeat' split
  all_goals simp

/-- `mark` writes only dog. -/
@[simp] theorem mark_keeps (s : State) (e : Fin 10) :
    (s.mark e).pending = s.pending ∧ (s.mark e).out = s.out ∧ (s.mark e).clk = s.clk ∧ (s.mark e).freeCtr =
    s.freeCtr ∧ (s.mark e).dev = s.dev ∧ (s.mark e).power = s.power ∧ (s.mark e).clocks = s.clocks ∧ (s.mark e).fw =
    s.fw ∧ (s.mark e).regs = s.regs ∧ (s.mark e).faults = s.faults ∧ (s.mark e).health = s.health ∧ (s.mark e).watch
    = s.watch ∧ (s.mark e).kennel = s.kennel ∧ (s.mark e).time = s.time ∧ (s.mark e).pps = s.pps ∧ (s.mark e).up =
    s.up ∧ (s.mark e).down = s.down ∧ (s.mark e).bulkQ = s.bulkQ ∧ (s.mark e).urgentQ = s.urgentQ ∧ (s.mark e).own =
    s.own ∧ (s.mark e).tagNext = s.tagNext ∧ (s.mark e).enumRun = s.enumRun ∧ (s.mark e).echoRun = s.echoRun ∧
    (s.mark e).hnd = s.hnd ∧ (s.mark e).par = s.par ∧ (s.mark e).nib = s.nib ∧ (s.mark e).vlv = s.vlv ∧ (s.mark
    e).d2d = s.d2d ∧ (s.mark e).sw = s.sw ∧ (s.mark e).bus = s.bus ∧ (s.mark e).gnss = s.gnss ∧ (s.mark e).log =
    s.log ∧ (s.mark e).stage = s.stage := by
  unfold State.mark
  try dsimp only
  all_goals simp

/-- `unqueue` writes only bulkQ, urgentQ, dog. -/
@[simp] theorem unqueue_keeps (s : State) (opc : Nat) (r : Request) :
    (s.unqueue opc r).pending = s.pending ∧ (s.unqueue opc r).out = s.out ∧ (s.unqueue opc r).clk = s.clk ∧
    (s.unqueue opc r).freeCtr = s.freeCtr ∧ (s.unqueue opc r).dev = s.dev ∧ (s.unqueue opc r).power = s.power ∧
    (s.unqueue opc r).clocks = s.clocks ∧ (s.unqueue opc r).fw = s.fw ∧ (s.unqueue opc r).regs = s.regs ∧ (s.unqueue
    opc r).faults = s.faults ∧ (s.unqueue opc r).health = s.health ∧ (s.unqueue opc r).watch = s.watch ∧ (s.unqueue
    opc r).kennel = s.kennel ∧ (s.unqueue opc r).time = s.time ∧ (s.unqueue opc r).pps = s.pps ∧ (s.unqueue opc
    r).up = s.up ∧ (s.unqueue opc r).down = s.down ∧ (s.unqueue opc r).own = s.own ∧ (s.unqueue opc r).tagNext =
    s.tagNext ∧ (s.unqueue opc r).enumRun = s.enumRun ∧ (s.unqueue opc r).echoRun = s.echoRun ∧ (s.unqueue opc
    r).hnd = s.hnd ∧ (s.unqueue opc r).par = s.par ∧ (s.unqueue opc r).nib = s.nib ∧ (s.unqueue opc r).vlv = s.vlv ∧
    (s.unqueue opc r).d2d = s.d2d ∧ (s.unqueue opc r).sw = s.sw ∧ (s.unqueue opc r).bus = s.bus ∧ (s.unqueue opc
    r).gnss = s.gnss ∧ (s.unqueue opc r).log = s.log ∧ (s.unqueue opc r).stage =
    s.stage := by
  unfold State.unqueue
  split
  all_goals simp

/-- `stageRec` writes only par, log, dog. -/
@[simp] theorem stageRec_keeps (s : State) (r : Rec) :
    (s.stageRec r).pending = s.pending ∧ (s.stageRec r).out = s.out ∧ (s.stageRec r).clk = s.clk ∧ (s.stageRec
    r).freeCtr = s.freeCtr ∧ (s.stageRec r).dev = s.dev ∧ (s.stageRec r).power = s.power ∧ (s.stageRec r).clocks =
    s.clocks ∧ (s.stageRec r).fw = s.fw ∧ (s.stageRec r).regs = s.regs ∧ (s.stageRec r).faults = s.faults ∧
    (s.stageRec r).health = s.health ∧ (s.stageRec r).watch = s.watch ∧ (s.stageRec r).kennel = s.kennel ∧
    (s.stageRec r).time = s.time ∧ (s.stageRec r).pps = s.pps ∧ (s.stageRec r).up = s.up ∧ (s.stageRec r).down =
    s.down ∧ (s.stageRec r).bulkQ = s.bulkQ ∧ (s.stageRec r).urgentQ = s.urgentQ ∧ (s.stageRec r).own = s.own ∧
    (s.stageRec r).tagNext = s.tagNext ∧ (s.stageRec r).enumRun = s.enumRun ∧ (s.stageRec r).echoRun = s.echoRun ∧
    (s.stageRec r).hnd = s.hnd ∧ (s.stageRec r).nib = s.nib ∧ (s.stageRec r).vlv = s.vlv ∧ (s.stageRec r).d2d =
    s.d2d ∧ (s.stageRec r).sw = s.sw ∧ (s.stageRec r).bus = s.bus ∧ (s.stageRec r).gnss = s.gnss ∧ (s.stageRec
    r).stage = s.stage := by
  unfold State.stageRec
  try dsimp only
  repeat' split
  all_goals simp

/-- `timeRec` writes only par, log, dog. -/
@[simp] theorem timeRec_keeps (s : State) (full : Int) (cause : Nat) (value : Int) :
    (s.timeRec full cause value).pending = s.pending ∧ (s.timeRec full cause value).out = s.out ∧ (s.timeRec full
    cause value).clk = s.clk ∧ (s.timeRec full cause value).freeCtr = s.freeCtr ∧ (s.timeRec full cause value).dev =
    s.dev ∧ (s.timeRec full cause value).power = s.power ∧ (s.timeRec full cause value).clocks = s.clocks ∧
    (s.timeRec full cause value).fw = s.fw ∧ (s.timeRec full cause value).regs = s.regs ∧ (s.timeRec full cause
    value).faults = s.faults ∧ (s.timeRec full cause value).health = s.health ∧ (s.timeRec full cause value).watch =
    s.watch ∧ (s.timeRec full cause value).kennel = s.kennel ∧ (s.timeRec full cause value).time = s.time ∧
    (s.timeRec full cause value).pps = s.pps ∧ (s.timeRec full cause value).up = s.up ∧ (s.timeRec full cause
    value).down = s.down ∧ (s.timeRec full cause value).bulkQ = s.bulkQ ∧ (s.timeRec full cause value).urgentQ =
    s.urgentQ ∧ (s.timeRec full cause value).own = s.own ∧ (s.timeRec full cause value).tagNext = s.tagNext ∧
    (s.timeRec full cause value).enumRun = s.enumRun ∧ (s.timeRec full cause value).echoRun = s.echoRun ∧ (s.timeRec
    full cause value).hnd = s.hnd ∧ (s.timeRec full cause value).nib = s.nib ∧ (s.timeRec full cause value).vlv =
    s.vlv ∧ (s.timeRec full cause value).d2d = s.d2d ∧ (s.timeRec full cause value).sw = s.sw ∧ (s.timeRec full
    cause value).bus = s.bus ∧ (s.timeRec full cause value).gnss = s.gnss ∧ (s.timeRec full cause value).stage =
    s.stage := by
  unfold State.timeRec
  try dsimp only
  all_goals simp

/-- `stateRec` writes only par, log, dog. -/
@[simp] theorem stateRec_keeps (s : State) (old : Code) (cause : Nat) :
    (s.stateRec old cause).pending = s.pending ∧ (s.stateRec old cause).out = s.out ∧ (s.stateRec old cause).clk =
    s.clk ∧ (s.stateRec old cause).freeCtr = s.freeCtr ∧ (s.stateRec old cause).dev = s.dev ∧ (s.stateRec old
    cause).power = s.power ∧ (s.stateRec old cause).clocks = s.clocks ∧ (s.stateRec old cause).fw = s.fw ∧
    (s.stateRec old cause).regs = s.regs ∧ (s.stateRec old cause).faults = s.faults ∧ (s.stateRec old cause).health
    = s.health ∧ (s.stateRec old cause).watch = s.watch ∧ (s.stateRec old cause).kennel = s.kennel ∧ (s.stateRec old
    cause).time = s.time ∧ (s.stateRec old cause).pps = s.pps ∧ (s.stateRec old cause).up = s.up ∧ (s.stateRec old
    cause).down = s.down ∧ (s.stateRec old cause).bulkQ = s.bulkQ ∧ (s.stateRec old cause).urgentQ = s.urgentQ ∧
    (s.stateRec old cause).own = s.own ∧ (s.stateRec old cause).tagNext = s.tagNext ∧ (s.stateRec old cause).enumRun
    = s.enumRun ∧ (s.stateRec old cause).echoRun = s.echoRun ∧ (s.stateRec old cause).hnd = s.hnd ∧ (s.stateRec old
    cause).nib = s.nib ∧ (s.stateRec old cause).vlv = s.vlv ∧ (s.stateRec old cause).d2d = s.d2d ∧ (s.stateRec old
    cause).sw = s.sw ∧ (s.stateRec old cause).bus = s.bus ∧ (s.stateRec old cause).gnss = s.gnss ∧ (s.stateRec old
    cause).stage = s.stage := by
  unfold State.stateRec
  try dsimp only
  all_goals simp

/-- `enter` writes only dev, par, log, dog. -/
@[simp] theorem enter_keeps (s : State) (c : Code) (cause : Nat) :
    (s.enter c cause).pending = s.pending ∧ (s.enter c cause).out = s.out ∧ (s.enter c cause).clk = s.clk ∧ (s.enter
    c cause).freeCtr = s.freeCtr ∧ (s.enter c cause).power = s.power ∧ (s.enter c cause).clocks = s.clocks ∧
    (s.enter c cause).fw = s.fw ∧ (s.enter c cause).regs = s.regs ∧ (s.enter c cause).faults = s.faults ∧ (s.enter c
    cause).health = s.health ∧ (s.enter c cause).watch = s.watch ∧ (s.enter c cause).kennel = s.kennel ∧ (s.enter c
    cause).time = s.time ∧ (s.enter c cause).pps = s.pps ∧ (s.enter c cause).up = s.up ∧ (s.enter c cause).down =
    s.down ∧ (s.enter c cause).bulkQ = s.bulkQ ∧ (s.enter c cause).urgentQ = s.urgentQ ∧ (s.enter c cause).own =
    s.own ∧ (s.enter c cause).tagNext = s.tagNext ∧ (s.enter c cause).enumRun = s.enumRun ∧ (s.enter c
    cause).echoRun = s.echoRun ∧ (s.enter c cause).hnd = s.hnd ∧ (s.enter c cause).nib = s.nib ∧ (s.enter c
    cause).vlv = s.vlv ∧ (s.enter c cause).d2d = s.d2d ∧ (s.enter c cause).sw = s.sw ∧ (s.enter c cause).bus = s.bus
    ∧ (s.enter c cause).gnss = s.gnss ∧ (s.enter c cause).stage = s.stage := by
  unfold State.enter
  try dsimp only
  all_goals simp

/-- `freeHandle` writes only hnd. -/
@[simp] theorem freeHandle_keeps (s : State) (h : HandleId) :
    (s.freeHandle h).pending = s.pending ∧ (s.freeHandle h).out = s.out ∧ (s.freeHandle h).clk = s.clk ∧
    (s.freeHandle h).freeCtr = s.freeCtr ∧ (s.freeHandle h).dev = s.dev ∧ (s.freeHandle h).power = s.power ∧
    (s.freeHandle h).clocks = s.clocks ∧ (s.freeHandle h).fw = s.fw ∧ (s.freeHandle h).regs = s.regs ∧ (s.freeHandle
    h).faults = s.faults ∧ (s.freeHandle h).health = s.health ∧ (s.freeHandle h).watch = s.watch ∧ (s.freeHandle
    h).kennel = s.kennel ∧ (s.freeHandle h).time = s.time ∧ (s.freeHandle h).pps = s.pps ∧ (s.freeHandle h).up =
    s.up ∧ (s.freeHandle h).down = s.down ∧ (s.freeHandle h).bulkQ = s.bulkQ ∧ (s.freeHandle h).urgentQ = s.urgentQ
    ∧ (s.freeHandle h).own = s.own ∧ (s.freeHandle h).tagNext = s.tagNext ∧ (s.freeHandle h).enumRun = s.enumRun ∧
    (s.freeHandle h).echoRun = s.echoRun ∧ (s.freeHandle h).par = s.par ∧ (s.freeHandle h).nib = s.nib ∧
    (s.freeHandle h).vlv = s.vlv ∧ (s.freeHandle h).d2d = s.d2d ∧ (s.freeHandle h).sw = s.sw ∧ (s.freeHandle h).bus
    = s.bus ∧ (s.freeHandle h).gnss = s.gnss ∧ (s.freeHandle h).log = s.log ∧ (s.freeHandle h).dog = s.dog ∧
    (s.freeHandle h).stage = s.stage := by
  unfold State.freeHandle
  try dsimp only
  repeat' split
  all_goals simp

/-- `complete` writes only hnd. -/
@[simp] theorem complete_keeps (s : State) (h : HandleId) (st : Status) (detail result : Nat) (more : List Word) :
    (s.complete h st detail result more).pending = s.pending ∧ (s.complete h st detail result more).out = s.out ∧
    (s.complete h st detail result more).clk = s.clk ∧ (s.complete h st detail result more).freeCtr = s.freeCtr ∧
    (s.complete h st detail result more).dev = s.dev ∧ (s.complete h st detail result more).power = s.power ∧
    (s.complete h st detail result more).clocks = s.clocks ∧ (s.complete h st detail result more).fw = s.fw ∧
    (s.complete h st detail result more).regs = s.regs ∧ (s.complete h st detail result more).faults = s.faults ∧
    (s.complete h st detail result more).health = s.health ∧ (s.complete h st detail result more).watch = s.watch ∧
    (s.complete h st detail result more).kennel = s.kennel ∧ (s.complete h st detail result more).time = s.time ∧
    (s.complete h st detail result more).pps = s.pps ∧ (s.complete h st detail result more).up = s.up ∧ (s.complete
    h st detail result more).down = s.down ∧ (s.complete h st detail result more).bulkQ = s.bulkQ ∧ (s.complete h st
    detail result more).urgentQ = s.urgentQ ∧ (s.complete h st detail result more).own = s.own ∧ (s.complete h st
    detail result more).tagNext = s.tagNext ∧ (s.complete h st detail result more).enumRun = s.enumRun ∧ (s.complete
    h st detail result more).echoRun = s.echoRun ∧ (s.complete h st detail result more).par = s.par ∧ (s.complete h
    st detail result more).nib = s.nib ∧ (s.complete h st detail result more).vlv = s.vlv ∧ (s.complete h st detail
    result more).d2d = s.d2d ∧ (s.complete h st detail result more).sw = s.sw ∧ (s.complete h st detail result
    more).bus = s.bus ∧ (s.complete h st detail result more).gnss = s.gnss ∧ (s.complete h st detail result
    more).log = s.log ∧ (s.complete h st detail result more).dog = s.dog ∧ (s.complete h st detail result
    more).stage = s.stage := by
  unfold State.complete
  try dsimp only
  repeat' split
  all_goals simp

/-- `tally` writes only hnd. -/
@[simp] theorem tally_keeps (s : State) (code n : Nat) :
    (s.tally code n).pending = s.pending ∧ (s.tally code n).out = s.out ∧ (s.tally code n).clk = s.clk ∧ (s.tally
    code n).freeCtr = s.freeCtr ∧ (s.tally code n).dev = s.dev ∧ (s.tally code n).power = s.power ∧ (s.tally code
    n).clocks = s.clocks ∧ (s.tally code n).fw = s.fw ∧ (s.tally code n).regs = s.regs ∧ (s.tally code n).faults =
    s.faults ∧ (s.tally code n).health = s.health ∧ (s.tally code n).watch = s.watch ∧ (s.tally code n).kennel =
    s.kennel ∧ (s.tally code n).time = s.time ∧ (s.tally code n).pps = s.pps ∧ (s.tally code n).up = s.up ∧ (s.tally
    code n).down = s.down ∧ (s.tally code n).bulkQ = s.bulkQ ∧ (s.tally code n).urgentQ = s.urgentQ ∧ (s.tally code
    n).own = s.own ∧ (s.tally code n).tagNext = s.tagNext ∧ (s.tally code n).enumRun = s.enumRun ∧ (s.tally code
    n).echoRun = s.echoRun ∧ (s.tally code n).par = s.par ∧ (s.tally code n).nib = s.nib ∧ (s.tally code n).vlv =
    s.vlv ∧ (s.tally code n).d2d = s.d2d ∧ (s.tally code n).sw = s.sw ∧ (s.tally code n).bus = s.bus ∧ (s.tally code
    n).gnss = s.gnss ∧ (s.tally code n).log = s.log ∧ (s.tally code n).dog = s.dog ∧ (s.tally code n).stage =
    s.stage := by
  unfold State.tally
  try dsimp only
  repeat' split
  all_goals simp

/-- `closeSummary` writes only hnd. -/
@[simp] theorem closeSummary_keeps (s : State) :
    (s.closeSummary).pending = s.pending ∧ (s.closeSummary).out = s.out ∧ (s.closeSummary).clk = s.clk ∧
    (s.closeSummary).freeCtr = s.freeCtr ∧ (s.closeSummary).dev = s.dev ∧ (s.closeSummary).power = s.power ∧
    (s.closeSummary).clocks = s.clocks ∧ (s.closeSummary).fw = s.fw ∧ (s.closeSummary).regs = s.regs ∧
    (s.closeSummary).faults = s.faults ∧ (s.closeSummary).health = s.health ∧ (s.closeSummary).watch = s.watch ∧
    (s.closeSummary).kennel = s.kennel ∧ (s.closeSummary).time = s.time ∧ (s.closeSummary).pps = s.pps ∧
    (s.closeSummary).up = s.up ∧ (s.closeSummary).down = s.down ∧ (s.closeSummary).bulkQ = s.bulkQ ∧
    (s.closeSummary).urgentQ = s.urgentQ ∧ (s.closeSummary).own = s.own ∧ (s.closeSummary).tagNext = s.tagNext ∧
    (s.closeSummary).enumRun = s.enumRun ∧ (s.closeSummary).echoRun = s.echoRun ∧ (s.closeSummary).par = s.par ∧
    (s.closeSummary).nib = s.nib ∧ (s.closeSummary).vlv = s.vlv ∧ (s.closeSummary).d2d = s.d2d ∧ (s.closeSummary).sw
    = s.sw ∧ (s.closeSummary).bus = s.bus ∧ (s.closeSummary).gnss = s.gnss ∧ (s.closeSummary).log = s.log ∧
    (s.closeSummary).dog = s.dog ∧ (s.closeSummary).stage = s.stage := by
  unfold State.closeSummary
  and_intros <;> rfl

/-- `release` writes only hnd, nib. -/
@[simp] theorem release_keeps (s : State) (h : HandleId) :
    (s.release h).pending = s.pending ∧ (s.release h).out = s.out ∧ (s.release h).clk = s.clk ∧ (s.release
    h).freeCtr = s.freeCtr ∧ (s.release h).dev = s.dev ∧ (s.release h).power = s.power ∧ (s.release h).clocks =
    s.clocks ∧ (s.release h).fw = s.fw ∧ (s.release h).regs = s.regs ∧ (s.release h).faults = s.faults ∧ (s.release
    h).health = s.health ∧ (s.release h).watch = s.watch ∧ (s.release h).kennel = s.kennel ∧ (s.release h).time =
    s.time ∧ (s.release h).pps = s.pps ∧ (s.release h).up = s.up ∧ (s.release h).down = s.down ∧ (s.release h).bulkQ
    = s.bulkQ ∧ (s.release h).urgentQ = s.urgentQ ∧ (s.release h).own = s.own ∧ (s.release h).tagNext = s.tagNext ∧
    (s.release h).enumRun = s.enumRun ∧ (s.release h).echoRun = s.echoRun ∧ (s.release h).par = s.par ∧ (s.release
    h).vlv = s.vlv ∧ (s.release h).d2d = s.d2d ∧ (s.release h).sw = s.sw ∧ (s.release h).bus = s.bus ∧ (s.release
    h).gnss = s.gnss ∧ (s.release h).log = s.log ∧ (s.release h).dog = s.dog ∧ (s.release h).stage = s.stage := by
  unfold State.release
  try dsimp only
  repeat' split
  all_goals simp

/-- `countStatus` writes only par. -/
@[simp] theorem countStatus_keeps (s : State) (st : Status) :
    (s.countStatus st).pending = s.pending ∧ (s.countStatus st).out = s.out ∧ (s.countStatus st).clk = s.clk ∧
    (s.countStatus st).freeCtr = s.freeCtr ∧ (s.countStatus st).dev = s.dev ∧ (s.countStatus st).power = s.power ∧
    (s.countStatus st).clocks = s.clocks ∧ (s.countStatus st).fw = s.fw ∧ (s.countStatus st).regs = s.regs ∧
    (s.countStatus st).faults = s.faults ∧ (s.countStatus st).health = s.health ∧ (s.countStatus st).watch = s.watch
    ∧ (s.countStatus st).kennel = s.kennel ∧ (s.countStatus st).time = s.time ∧ (s.countStatus st).pps = s.pps ∧
    (s.countStatus st).up = s.up ∧ (s.countStatus st).down = s.down ∧ (s.countStatus st).bulkQ = s.bulkQ ∧
    (s.countStatus st).urgentQ = s.urgentQ ∧ (s.countStatus st).own = s.own ∧ (s.countStatus st).tagNext = s.tagNext
    ∧ (s.countStatus st).enumRun = s.enumRun ∧ (s.countStatus st).echoRun = s.echoRun ∧ (s.countStatus st).hnd =
    s.hnd ∧ (s.countStatus st).nib = s.nib ∧ (s.countStatus st).vlv = s.vlv ∧ (s.countStatus st).d2d = s.d2d ∧
    (s.countStatus st).sw = s.sw ∧ (s.countStatus st).bus = s.bus ∧ (s.countStatus st).gnss = s.gnss ∧
    (s.countStatus st).log = s.log ∧ (s.countStatus st).dog = s.dog ∧ (s.countStatus st).stage = s.stage := by
  unfold State.countStatus
  try dsimp only
  repeat' split
  all_goals simp

/-- `swOn` writes only sw. -/
@[simp] theorem swOn_keeps (s : State) (n : Sw) :
    (s.swOn n).pending = s.pending ∧ (s.swOn n).out = s.out ∧ (s.swOn n).clk = s.clk ∧ (s.swOn n).freeCtr =
    s.freeCtr ∧ (s.swOn n).dev = s.dev ∧ (s.swOn n).power = s.power ∧ (s.swOn n).clocks = s.clocks ∧ (s.swOn n).fw =
    s.fw ∧ (s.swOn n).regs = s.regs ∧ (s.swOn n).faults = s.faults ∧ (s.swOn n).health = s.health ∧ (s.swOn n).watch
    = s.watch ∧ (s.swOn n).kennel = s.kennel ∧ (s.swOn n).time = s.time ∧ (s.swOn n).pps = s.pps ∧ (s.swOn n).up =
    s.up ∧ (s.swOn n).down = s.down ∧ (s.swOn n).bulkQ = s.bulkQ ∧ (s.swOn n).urgentQ = s.urgentQ ∧ (s.swOn n).own =
    s.own ∧ (s.swOn n).tagNext = s.tagNext ∧ (s.swOn n).enumRun = s.enumRun ∧ (s.swOn n).echoRun = s.echoRun ∧
    (s.swOn n).hnd = s.hnd ∧ (s.swOn n).par = s.par ∧ (s.swOn n).nib = s.nib ∧ (s.swOn n).vlv = s.vlv ∧ (s.swOn
    n).d2d = s.d2d ∧ (s.swOn n).bus = s.bus ∧ (s.swOn n).gnss = s.gnss ∧ (s.swOn n).log = s.log ∧ (s.swOn n).dog =
    s.dog ∧ (s.swOn n).stage = s.stage := by
  unfold State.swOn
  try dsimp only
  repeat' split
  all_goals simp

/-- `swOff` writes only sw. -/
@[simp] theorem swOff_keeps (s : State) (n : Sw) :
    (s.swOff n).pending = s.pending ∧ (s.swOff n).out = s.out ∧ (s.swOff n).clk = s.clk ∧ (s.swOff n).freeCtr =
    s.freeCtr ∧ (s.swOff n).dev = s.dev ∧ (s.swOff n).power = s.power ∧ (s.swOff n).clocks = s.clocks ∧ (s.swOff
    n).fw = s.fw ∧ (s.swOff n).regs = s.regs ∧ (s.swOff n).faults = s.faults ∧ (s.swOff n).health = s.health ∧
    (s.swOff n).watch = s.watch ∧ (s.swOff n).kennel = s.kennel ∧ (s.swOff n).time = s.time ∧ (s.swOff n).pps =
    s.pps ∧ (s.swOff n).up = s.up ∧ (s.swOff n).down = s.down ∧ (s.swOff n).bulkQ = s.bulkQ ∧ (s.swOff n).urgentQ =
    s.urgentQ ∧ (s.swOff n).own = s.own ∧ (s.swOff n).tagNext = s.tagNext ∧ (s.swOff n).enumRun = s.enumRun ∧
    (s.swOff n).echoRun = s.echoRun ∧ (s.swOff n).hnd = s.hnd ∧ (s.swOff n).par = s.par ∧ (s.swOff n).nib = s.nib ∧
    (s.swOff n).vlv = s.vlv ∧ (s.swOff n).d2d = s.d2d ∧ (s.swOff n).bus = s.bus ∧ (s.swOff n).gnss = s.gnss ∧
    (s.swOff n).log = s.log ∧ (s.swOff n).dog = s.dog ∧ (s.swOff n).stage = s.stage := by
  unfold State.swOff
  try dsimp only
  all_goals simp

/-- `slot` writes only dog. -/
@[simp] theorem slot_keeps (s : State) :
    s.slot.pending = s.pending ∧ s.slot.out = s.out ∧ s.slot.clk = s.clk ∧ s.slot.freeCtr = s.freeCtr ∧ s.slot.dev
    = s.dev ∧ s.slot.power = s.power ∧ s.slot.clocks = s.clocks ∧ s.slot.fw = s.fw ∧ s.slot.regs = s.regs ∧
    s.slot.faults = s.faults ∧ s.slot.health = s.health ∧ s.slot.watch = s.watch ∧ s.slot.kennel = s.kennel ∧
    s.slot.time = s.time ∧ s.slot.pps = s.pps ∧ s.slot.up = s.up ∧ s.slot.down = s.down ∧ s.slot.bulkQ = s.bulkQ ∧
    s.slot.urgentQ = s.urgentQ ∧ s.slot.own = s.own ∧ s.slot.tagNext = s.tagNext ∧ s.slot.enumRun = s.enumRun ∧
    s.slot.echoRun = s.echoRun ∧ s.slot.hnd = s.hnd ∧ s.slot.par = s.par ∧ s.slot.nib = s.nib ∧ s.slot.vlv = s.vlv
    ∧ s.slot.d2d = s.d2d ∧ s.slot.sw = s.sw ∧ s.slot.bus = s.bus ∧ s.slot.gnss = s.gnss ∧ s.slot.log = s.log ∧
    s.slot.stage = s.stage := by
  unfold State.slot
  simp

/-- `noteLink` writes only regs. -/
@[simp] theorem noteLink_keeps (s : State) (a : Nat) (w : Word) :
    (s.noteLink a w).pending = s.pending ∧ (s.noteLink a w).out = s.out ∧ (s.noteLink a w).clk = s.clk ∧
    (s.noteLink a w).freeCtr = s.freeCtr ∧ (s.noteLink a w).dev = s.dev ∧ (s.noteLink a w).power = s.power ∧
    (s.noteLink a w).clocks = s.clocks ∧ (s.noteLink a w).fw = s.fw ∧ (s.noteLink a w).faults = s.faults ∧
    (s.noteLink a w).health = s.health ∧ (s.noteLink a w).watch = s.watch ∧ (s.noteLink a w).kennel = s.kennel ∧
    (s.noteLink a w).time = s.time ∧ (s.noteLink a w).pps = s.pps ∧ (s.noteLink a w).up = s.up ∧ (s.noteLink a
    w).down = s.down ∧ (s.noteLink a w).bulkQ = s.bulkQ ∧ (s.noteLink a w).urgentQ = s.urgentQ ∧ (s.noteLink a
    w).own = s.own ∧ (s.noteLink a w).tagNext = s.tagNext ∧ (s.noteLink a w).enumRun = s.enumRun ∧ (s.noteLink a
    w).echoRun = s.echoRun ∧ (s.noteLink a w).hnd = s.hnd ∧ (s.noteLink a w).par = s.par ∧ (s.noteLink a w).nib =
    s.nib ∧ (s.noteLink a w).vlv = s.vlv ∧ (s.noteLink a w).d2d = s.d2d ∧ (s.noteLink a w).sw = s.sw ∧ (s.noteLink
    a w).bus = s.bus ∧ (s.noteLink a w).gnss = s.gnss ∧ (s.noteLink a w).log = s.log ∧ (s.noteLink a w).dog =
    s.dog ∧ (s.noteLink a w).stage = s.stage := by
  unfold State.noteLink
  and_intros <;> rfl

/-- `sourceHeard` writes only time. -/
@[simp] theorem sourceHeard_keeps (s : State) (t : Nat) :
    (s.sourceHeard t).pending = s.pending ∧ (s.sourceHeard t).out = s.out ∧ (s.sourceHeard t).clk = s.clk ∧
    (s.sourceHeard t).freeCtr = s.freeCtr ∧ (s.sourceHeard t).dev = s.dev ∧ (s.sourceHeard t).power = s.power ∧
    (s.sourceHeard t).clocks = s.clocks ∧ (s.sourceHeard t).fw = s.fw ∧ (s.sourceHeard t).regs = s.regs ∧
    (s.sourceHeard t).faults = s.faults ∧ (s.sourceHeard t).health = s.health ∧ (s.sourceHeard t).watch = s.watch
    ∧ (s.sourceHeard t).kennel = s.kennel ∧ (s.sourceHeard t).pps = s.pps ∧ (s.sourceHeard t).up = s.up ∧
    (s.sourceHeard t).down = s.down ∧ (s.sourceHeard t).bulkQ = s.bulkQ ∧ (s.sourceHeard t).urgentQ = s.urgentQ ∧
    (s.sourceHeard t).own = s.own ∧ (s.sourceHeard t).tagNext = s.tagNext ∧ (s.sourceHeard t).enumRun = s.enumRun
    ∧ (s.sourceHeard t).echoRun = s.echoRun ∧ (s.sourceHeard t).hnd = s.hnd ∧ (s.sourceHeard t).par = s.par ∧
    (s.sourceHeard t).nib = s.nib ∧ (s.sourceHeard t).vlv = s.vlv ∧ (s.sourceHeard t).d2d = s.d2d ∧ (s.sourceHeard
    t).sw = s.sw ∧ (s.sourceHeard t).bus = s.bus ∧ (s.sourceHeard t).gnss = s.gnss ∧ (s.sourceHeard t).log = s.log
    ∧ (s.sourceHeard t).dog = s.dog ∧ (s.sourceHeard t).stage = s.stage := by
  unfold State.sourceHeard
  and_intros <;> rfl

/-- `shown` writes only time. -/
@[simp] theorem shown_keeps (s : State) :
    s.shown.pending = s.pending ∧ s.shown.out = s.out ∧ s.shown.clk = s.clk ∧ s.shown.freeCtr = s.freeCtr ∧
    s.shown.dev = s.dev ∧ s.shown.power = s.power ∧ s.shown.clocks = s.clocks ∧ s.shown.fw = s.fw ∧ s.shown.regs =
    s.regs ∧ s.shown.faults = s.faults ∧ s.shown.health = s.health ∧ s.shown.watch = s.watch ∧ s.shown.kennel =
    s.kennel ∧ s.shown.pps = s.pps ∧ s.shown.up = s.up ∧ s.shown.down = s.down ∧ s.shown.bulkQ = s.bulkQ ∧
    s.shown.urgentQ = s.urgentQ ∧ s.shown.own = s.own ∧ s.shown.tagNext = s.tagNext ∧ s.shown.enumRun = s.enumRun
    ∧ s.shown.echoRun = s.echoRun ∧ s.shown.hnd = s.hnd ∧ s.shown.par = s.par ∧ s.shown.nib = s.nib ∧ s.shown.vlv
    = s.vlv ∧ s.shown.d2d = s.d2d ∧ s.shown.sw = s.sw ∧ s.shown.bus = s.bus ∧ s.shown.gnss = s.gnss ∧ s.shown.log
    = s.log ∧ s.shown.dog = s.dog ∧ s.shown.stage = s.stage := by
  unfold State.shown
  repeat' split
  all_goals (and_intros <;> rfl)

/-- `stopPorts` writes only up, down, nib. -/
@[simp] theorem stopPorts_keeps (s : State) :
    s.stopPorts.pending = s.pending ∧ s.stopPorts.out = s.out ∧ s.stopPorts.clk = s.clk ∧ s.stopPorts.freeCtr =
    s.freeCtr ∧ s.stopPorts.dev = s.dev ∧ s.stopPorts.power = s.power ∧ s.stopPorts.clocks = s.clocks ∧
    s.stopPorts.fw = s.fw ∧ s.stopPorts.regs = s.regs ∧ s.stopPorts.faults = s.faults ∧ s.stopPorts.health =
    s.health ∧ s.stopPorts.watch = s.watch ∧ s.stopPorts.kennel = s.kennel ∧ s.stopPorts.time = s.time ∧
    s.stopPorts.pps = s.pps ∧ s.stopPorts.bulkQ = s.bulkQ ∧ s.stopPorts.urgentQ = s.urgentQ ∧ s.stopPorts.own =
    s.own ∧ s.stopPorts.tagNext = s.tagNext ∧ s.stopPorts.enumRun = s.enumRun ∧ s.stopPorts.echoRun = s.echoRun ∧
    s.stopPorts.hnd = s.hnd ∧ s.stopPorts.par = s.par ∧ s.stopPorts.vlv = s.vlv ∧ s.stopPorts.d2d = s.d2d ∧
    s.stopPorts.sw = s.sw ∧ s.stopPorts.bus = s.bus ∧ s.stopPorts.gnss = s.gnss ∧ s.stopPorts.log = s.log ∧
    s.stopPorts.dog = s.dog ∧ s.stopPorts.stage = s.stage := by
  unfold State.stopPorts
  and_intros <;> rfl

/-- `waitsOn` writes only dog. -/
@[simp] theorem waitsOn_keeps (s : State) (e : Fin 10) (h : Option (Fin 10)) (o : BitVec 13) :
    (s.waitsOn e h o).pending = s.pending ∧ (s.waitsOn e h o).out = s.out ∧ (s.waitsOn e h o).clk = s.clk ∧
    (s.waitsOn e h o).freeCtr = s.freeCtr ∧ (s.waitsOn e h o).dev = s.dev ∧ (s.waitsOn e h o).power = s.power ∧
    (s.waitsOn e h o).clocks = s.clocks ∧ (s.waitsOn e h o).fw = s.fw ∧ (s.waitsOn e h o).regs = s.regs ∧
    (s.waitsOn e h o).faults = s.faults ∧ (s.waitsOn e h o).health = s.health ∧ (s.waitsOn e h o).watch = s.watch
    ∧ (s.waitsOn e h o).kennel = s.kennel ∧ (s.waitsOn e h o).time = s.time ∧ (s.waitsOn e h o).pps = s.pps ∧
    (s.waitsOn e h o).up = s.up ∧ (s.waitsOn e h o).down = s.down ∧ (s.waitsOn e h o).bulkQ = s.bulkQ ∧ (s.waitsOn
    e h o).urgentQ = s.urgentQ ∧ (s.waitsOn e h o).own = s.own ∧ (s.waitsOn e h o).tagNext = s.tagNext ∧
    (s.waitsOn e h o).enumRun = s.enumRun ∧ (s.waitsOn e h o).echoRun = s.echoRun ∧ (s.waitsOn e h o).hnd = s.hnd
    ∧ (s.waitsOn e h o).par = s.par ∧ (s.waitsOn e h o).nib = s.nib ∧ (s.waitsOn e h o).vlv = s.vlv ∧ (s.waitsOn e
    h o).d2d = s.d2d ∧ (s.waitsOn e h o).sw = s.sw ∧ (s.waitsOn e h o).bus = s.bus ∧ (s.waitsOn e h o).gnss =
    s.gnss ∧ (s.waitsOn e h o).log = s.log ∧ (s.waitsOn e h o).stage = s.stage := by
  unfold State.waitsOn
  simp

/-- `amend` writes only up, down. -/
@[simp] theorem amend_keeps (s : State) (n : Sw) (r : Request) :
    (s.amend n r).pending = s.pending ∧ (s.amend n r).out = s.out ∧ (s.amend n r).clk = s.clk ∧ (s.amend n
    r).freeCtr = s.freeCtr ∧ (s.amend n r).dev = s.dev ∧ (s.amend n r).power = s.power ∧ (s.amend n r).clocks =
    s.clocks ∧ (s.amend n r).fw = s.fw ∧ (s.amend n r).regs = s.regs ∧ (s.amend n r).faults = s.faults ∧ (s.amend
    n r).health = s.health ∧ (s.amend n r).watch = s.watch ∧ (s.amend n r).kennel = s.kennel ∧ (s.amend n r).time
    = s.time ∧ (s.amend n r).pps = s.pps ∧ (s.amend n r).bulkQ = s.bulkQ ∧ (s.amend n r).urgentQ = s.urgentQ ∧
    (s.amend n r).own = s.own ∧ (s.amend n r).tagNext = s.tagNext ∧ (s.amend n r).enumRun = s.enumRun ∧ (s.amend n
    r).echoRun = s.echoRun ∧ (s.amend n r).hnd = s.hnd ∧ (s.amend n r).par = s.par ∧ (s.amend n r).nib = s.nib ∧
    (s.amend n r).vlv = s.vlv ∧ (s.amend n r).d2d = s.d2d ∧ (s.amend n r).sw = s.sw ∧ (s.amend n r).bus = s.bus ∧
    (s.amend n r).gnss = s.gnss ∧ (s.amend n r).log = s.log ∧ (s.amend n r).dog = s.dog ∧ (s.amend n r).stage =
    s.stage := by
  unfold State.amend
  simp

/-- `switchWrite` writes only sw. -/
@[simp] theorem switchWrite_keeps (s : State) (n : Sw) (old w : Word) :
    (s.switchWrite n old w).pending = s.pending ∧ (s.switchWrite n old w).out = s.out ∧ (s.switchWrite n old
    w).clk = s.clk ∧ (s.switchWrite n old w).freeCtr = s.freeCtr ∧ (s.switchWrite n old w).dev = s.dev ∧
    (s.switchWrite n old w).power = s.power ∧ (s.switchWrite n old w).clocks = s.clocks ∧ (s.switchWrite n old
    w).fw = s.fw ∧ (s.switchWrite n old w).regs = s.regs ∧ (s.switchWrite n old w).faults = s.faults ∧
    (s.switchWrite n old w).health = s.health ∧ (s.switchWrite n old w).watch = s.watch ∧ (s.switchWrite n old
    w).kennel = s.kennel ∧ (s.switchWrite n old w).time = s.time ∧ (s.switchWrite n old w).pps = s.pps ∧
    (s.switchWrite n old w).up = s.up ∧ (s.switchWrite n old w).down = s.down ∧ (s.switchWrite n old w).bulkQ =
    s.bulkQ ∧ (s.switchWrite n old w).urgentQ = s.urgentQ ∧ (s.switchWrite n old w).own = s.own ∧ (s.switchWrite n
    old w).tagNext = s.tagNext ∧ (s.switchWrite n old w).enumRun = s.enumRun ∧ (s.switchWrite n old w).echoRun =
    s.echoRun ∧ (s.switchWrite n old w).hnd = s.hnd ∧ (s.switchWrite n old w).par = s.par ∧ (s.switchWrite n old
    w).nib = s.nib ∧ (s.switchWrite n old w).vlv = s.vlv ∧ (s.switchWrite n old w).d2d = s.d2d ∧ (s.switchWrite n
    old w).bus = s.bus ∧ (s.switchWrite n old w).gnss = s.gnss ∧ (s.switchWrite n old w).log = s.log ∧
    (s.switchWrite n old w).dog = s.dog ∧ (s.switchWrite n old w).stage = s.stage := by
  unfold State.switchWrite
  simp

/-- `syncWrite` writes only dog. -/
@[simp] theorem syncWrite_keeps (s : State) (e : Fin 10) (old : Word) :
    (s.syncWrite e old).pending = s.pending ∧ (s.syncWrite e old).out = s.out ∧ (s.syncWrite e old).clk = s.clk ∧
    (s.syncWrite e old).freeCtr = s.freeCtr ∧ (s.syncWrite e old).dev = s.dev ∧ (s.syncWrite e old).power =
    s.power ∧ (s.syncWrite e old).clocks = s.clocks ∧ (s.syncWrite e old).fw = s.fw ∧ (s.syncWrite e old).regs =
    s.regs ∧ (s.syncWrite e old).faults = s.faults ∧ (s.syncWrite e old).health = s.health ∧ (s.syncWrite e
    old).watch = s.watch ∧ (s.syncWrite e old).kennel = s.kennel ∧ (s.syncWrite e old).time = s.time ∧
    (s.syncWrite e old).pps = s.pps ∧ (s.syncWrite e old).up = s.up ∧ (s.syncWrite e old).down = s.down ∧
    (s.syncWrite e old).bulkQ = s.bulkQ ∧ (s.syncWrite e old).urgentQ = s.urgentQ ∧ (s.syncWrite e old).own =
    s.own ∧ (s.syncWrite e old).tagNext = s.tagNext ∧ (s.syncWrite e old).enumRun = s.enumRun ∧ (s.syncWrite e
    old).echoRun = s.echoRun ∧ (s.syncWrite e old).hnd = s.hnd ∧ (s.syncWrite e old).par = s.par ∧ (s.syncWrite e
    old).nib = s.nib ∧ (s.syncWrite e old).vlv = s.vlv ∧ (s.syncWrite e old).d2d = s.d2d ∧ (s.syncWrite e old).sw
    = s.sw ∧ (s.syncWrite e old).bus = s.bus ∧ (s.syncWrite e old).gnss = s.gnss ∧ (s.syncWrite e old).log = s.log
    ∧ (s.syncWrite e old).stage = s.stage := by
  unfold State.syncWrite
  simp

/-- `swSetOff` writes only sw. -/
@[simp] theorem swSetOff_keeps (s : State) (n : Sw) :
    (s.swSetOff n).pending = s.pending ∧ (s.swSetOff n).out = s.out ∧ (s.swSetOff n).clk = s.clk ∧ (s.swSetOff
    n).freeCtr = s.freeCtr ∧ (s.swSetOff n).dev = s.dev ∧ (s.swSetOff n).power = s.power ∧ (s.swSetOff n).clocks =
    s.clocks ∧ (s.swSetOff n).fw = s.fw ∧ (s.swSetOff n).regs = s.regs ∧ (s.swSetOff n).faults = s.faults ∧
    (s.swSetOff n).health = s.health ∧ (s.swSetOff n).watch = s.watch ∧ (s.swSetOff n).kennel = s.kennel ∧
    (s.swSetOff n).time = s.time ∧ (s.swSetOff n).pps = s.pps ∧ (s.swSetOff n).up = s.up ∧ (s.swSetOff n).down =
    s.down ∧ (s.swSetOff n).bulkQ = s.bulkQ ∧ (s.swSetOff n).urgentQ = s.urgentQ ∧ (s.swSetOff n).own = s.own ∧
    (s.swSetOff n).tagNext = s.tagNext ∧ (s.swSetOff n).enumRun = s.enumRun ∧ (s.swSetOff n).echoRun = s.echoRun ∧
    (s.swSetOff n).hnd = s.hnd ∧ (s.swSetOff n).par = s.par ∧ (s.swSetOff n).nib = s.nib ∧ (s.swSetOff n).vlv =
    s.vlv ∧ (s.swSetOff n).d2d = s.d2d ∧ (s.swSetOff n).bus = s.bus ∧ (s.swSetOff n).gnss = s.gnss ∧ (s.swSetOff
    n).log = s.log ∧ (s.swSetOff n).dog = s.dog ∧ (s.swSetOff n).stage = s.stage := by
  unfold State.swSetOff
  simp

/-- `setRho` writes only time. -/
@[simp] theorem setRho_keeps (s : State) (freq phase : Int) :
    (s.setRho freq phase).pending = s.pending ∧ (s.setRho freq phase).out = s.out ∧ (s.setRho freq phase).clk =
    s.clk ∧ (s.setRho freq phase).freeCtr = s.freeCtr ∧ (s.setRho freq phase).dev = s.dev ∧ (s.setRho freq
    phase).power = s.power ∧ (s.setRho freq phase).clocks = s.clocks ∧ (s.setRho freq phase).fw = s.fw ∧ (s.setRho
    freq phase).regs = s.regs ∧ (s.setRho freq phase).faults = s.faults ∧ (s.setRho freq phase).health = s.health ∧
    (s.setRho freq phase).watch = s.watch ∧ (s.setRho freq phase).kennel = s.kennel ∧ (s.setRho freq phase).pps =
    s.pps ∧ (s.setRho freq phase).up = s.up ∧ (s.setRho freq phase).down = s.down ∧ (s.setRho freq phase).bulkQ =
    s.bulkQ ∧ (s.setRho freq phase).urgentQ = s.urgentQ ∧ (s.setRho freq phase).own = s.own ∧ (s.setRho freq
    phase).tagNext = s.tagNext ∧ (s.setRho freq phase).enumRun = s.enumRun ∧ (s.setRho freq phase).echoRun =
    s.echoRun ∧ (s.setRho freq phase).hnd = s.hnd ∧ (s.setRho freq phase).par = s.par ∧ (s.setRho freq phase).nib =
    s.nib ∧ (s.setRho freq phase).vlv = s.vlv ∧ (s.setRho freq phase).d2d = s.d2d ∧ (s.setRho freq phase).sw = s.sw
    ∧ (s.setRho freq phase).bus = s.bus ∧ (s.setRho freq phase).gnss = s.gnss ∧ (s.setRho freq phase).log = s.log ∧
    (s.setRho freq phase).dog = s.dog ∧ (s.setRho freq phase).stage = s.stage := by
  unfold State.setRho
  and_intros <;> rfl

/-! ### What was written reads back -/

@[simp] theorem banks_modBank (s : State) (b c : Bank) (f : BankSt → BankSt) :
    (s.modBank b f).vlv.banks[c] = if b = c then f s.vlv.banks[c] else s.vlv.banks[c] := by
  simp only [State.modBank, Fin.getElem_fin, Vector.getElem_set, Fin.ext_iff]
  split <;> simp_all

@[simp] theorem banks_modBanks (s : State) (c : Bank) (f : BankSt → BankSt) :
    (s.modBanks f).vlv.banks[c] = f s.vlv.banks[c] := by
  simp [State.modBanks]

@[simp] theorem chans_modChan (s : State) (v w : Valve) (f : Chan → Chan) :
    (s.modChan v f).vlv.chans[w] = if v = w then f s.vlv.chans[w] else s.vlv.chans[w] := by
  simp only [State.modChan, Fin.getElem_fin, Vector.getElem_set, Fin.ext_iff]
  split <;> simp_all

@[simp] theorem valves_modValve (s : State) (v w : Valve) (f : ValveSt → ValveSt) :
    (s.modValve v f).vlv.valves[w] = if v = w then f s.vlv.valves[w] else s.vlv.valves[w] := by
  simp only [State.modValve, Fin.getElem_fin, Vector.getElem_set, Fin.ext_iff]
  split <;> simp_all

@[simp] theorem ch_modSw (s : State) (n m : Sw) (f : Switch → Switch) :
    (s.modSw n f).sw.ch[m] = if n = m then f s.sw.ch[m] else s.sw.ch[m] := by
  simp only [State.modSw, Fin.getElem_fin, Vector.getElem_set, Fin.ext_iff]
  split <;> simp_all

@[simp] theorem engines_modEngine (s : State) (e d : Fin 10) (f : Engine → Engine) :
    (s.modEngine e f).dog.engines[d] = if e = d then f s.dog.engines[d] else s.dog.engines[d] := by
  simp only [State.modEngine, Fin.getElem_fin, Vector.getElem_set, Fin.ext_iff]
  split <;> simp_all

@[simp] theorem port_modPort (s : State) (p q : Side) (f : Port → Port) :
    (s.modPort p f).port q = if p = q then f (s.port q) else s.port q := by
  cases p <;> cases q <;> rfl

/-- A changed bank leaves channels, valves and Quills alone. -/
@[simp] theorem modBank_rest (s : State) (b : Bank) (f : BankSt → BankSt) :
    (s.modBank b f).vlv.chans = s.vlv.chans ∧ (s.modBank b f).vlv.valves = s.vlv.valves ∧
    (s.modBank b f).vlv.quill0 = s.vlv.quill0 ∧ (s.modBank b f).vlv.quill1 = s.vlv.quill1 := ⟨rfl, rfl, rfl, rfl⟩

/-- A changed channel leaves banks, valves and Quills alone. -/
@[simp] theorem modChan_rest (s : State) (v : Valve) (f : Chan → Chan) :
    (s.modChan v f).vlv.banks = s.vlv.banks ∧ (s.modChan v f).vlv.valves = s.vlv.valves ∧
    (s.modChan v f).vlv.quill0 = s.vlv.quill0 ∧ (s.modChan v f).vlv.quill1 = s.vlv.quill1 := ⟨rfl, rfl, rfl, rfl⟩

/-- A changed valve leaves banks, channels and Quills alone. -/
@[simp] theorem modValve_rest (s : State) (v : Valve) (f : ValveSt → ValveSt) :
    (s.modValve v f).vlv.banks = s.vlv.banks ∧ (s.modValve v f).vlv.chans = s.vlv.chans ∧
    (s.modValve v f).vlv.quill0 = s.vlv.quill0 ∧ (s.modValve v f).vlv.quill1 = s.vlv.quill1 := ⟨rfl, rfl, rfl, rfl⟩

/-- The state of the device after it enters one. -/
@[simp] theorem enter_dev (s : State) (c : Code) (cause : Nat) :
    (s.enter c cause).dev = { s.dev with code := c, startStep := 0 } := by
  unfold State.enter
  rw [(stateRec_keeps ..).2.2.2.2.1]

/-- Outside a step's tick a read sees the state as it is (R185). -/
@[simp] theorem shown_of_none (s : State) (h : s.stepDue = none) : s.shown = s := by
  simp [State.shown, h]

/-- A slot leaves both ports as they are: it is a mark of the link engine alone (R416). -/
@[simp] theorem slot_port (s : State) (p : Side) : s.slot.port p = s.port p := by
  cases p <;> rfl

end Sys2Proof.Laws
end

