-- ==== Sys2Proof/Laws/Tables.lean ====
section
/-! SUPPORT. Laws of the tables of words: a read after a write, and that every operation keeps the one form. -/

namespace Sys2Proof.Laws

open Sys2Proof.Machine

/-- Every number of a table lies above `n`. -/
def above (n : Nat) (t : WTable) : Prop := ∀ e ∈ t, n < e.1

theorem twf_cons (k : Nat) (v : Word) (t : WTable) : twf ((k, v) :: t) = true ↔ above k t ∧ twf t = true := by
  induction t generalizing k v with
  | nil => simp [twf, above]
  | cons e r ih =>
    obtain ⟨k', v'⟩ := e
    simp only [twf, Bool.and_eq_true, decide_eq_true_eq]
    constructor
    · intro ⟨h, w⟩
      refine ⟨?_, w⟩
      intro e he
      rcases List.mem_cons.1 he with rfl | he
      · exact h
      · exact Nat.lt_trans h (((ih k' v').1 w).1 e he)
    · intro ⟨h, w⟩
      exact ⟨h _ (List.mem_cons_self ..), w⟩

theorem above_tset {n i : Nat} {v : Word} {t : WTable} (h : above n t) (hi : n < i) : above n (tset t i v) := by
  induction t with
  | nil => intro e he; simp only [tset, List.mem_singleton] at he; subst he; exact hi
  | cons x r ih =>
    obtain ⟨k, w⟩ := x
    have hk : n < k := h _ (List.mem_cons_self ..)
    have hr : above n r := fun e he => h e (List.mem_cons_of_mem _ he)
    intro e he
    simp only [tset] at he
    split at he
    · rcases List.mem_cons.1 he with rfl | he
      · exact hi
      · exact h e he
    · split at he
      · rcases List.mem_cons.1 he with rfl | he
        · exact hi
        · exact hr e he
      · rcases List.mem_cons.1 he with rfl | he
        · exact hk
        · exact ih hr e he

theorem above_tdel {n i : Nat} {t : WTable} (h : above n t) : above n (tdel t i) := by
  induction t with
  | nil => exact h
  | cons x r ih =>
    obtain ⟨k, w⟩ := x
    have hr : above n r := fun e he => h e (List.mem_cons_of_mem _ he)
    simp only [tdel]
    split
    · exact hr
    · intro e he
      rcases List.mem_cons.1 he with rfl | he
      · exact h _ (List.mem_cons_self ..)
      · exact ih hr e he

/-- Setting an entry keeps the numbers strictly rising. -/
theorem twf_tset {t : WTable} (i : Nat) (v : Word) (h : twf t = true) : twf (tset t i v) = true := by
  induction t with
  | nil => rfl
  | cons x r ih =>
    obtain ⟨k, w⟩ := x
    obtain ⟨ha, hr⟩ := (twf_cons k w r).1 h
    simp only [tset]
    split
    · next hlt =>
      refine (twf_cons i v _).2 ⟨?_, h⟩
      intro e he
      rcases List.mem_cons.1 he with rfl | he
      · exact hlt
      · exact Nat.lt_trans hlt (ha e he)
    · split
      · next he => subst he; exact (twf_cons _ v r).2 ⟨ha, hr⟩
      · exact (twf_cons k w _).2 ⟨above_tset ha (by omega), ih hr⟩

/-- Deleting an entry keeps the numbers strictly rising. -/
theorem twf_tdel {t : WTable} (i : Nat) (h : twf t = true) : twf (tdel t i) = true := by
  induction t with
  | nil => rfl
  | cons x r ih =>
    obtain ⟨k, w⟩ := x
    obtain ⟨ha, hr⟩ := (twf_cons k w r).1 h
    simp only [tdel]
    split
    · exact hr
    · exact (twf_cons k w _).2 ⟨above_tdel ha, ih hr⟩

/-- A write of a parameter keeps the numbers strictly rising. -/
theorem twf_tput {t : WTable} (i : Nat) (v : Word) (h : twf t = true) : twf (tput t i v) = true := by
  unfold tput
  split
  · exact twf_tdel i h
  · exact twf_tset i v h

theorem mem_tset {e : Nat × Word} {i : Nat} {v : Word} {t : WTable} (h : e ∈ tset t i v) : e = (i, v) ∨ e ∈ t := by
  induction t with
  | nil => simpa [tset] using h
  | cons x r ih =>
    obtain ⟨k, w⟩ := x
    simp only [tset] at h
    split at h
    · exact List.mem_cons.1 h
    · split at h
      · rcases List.mem_cons.1 h with h | h
        · exact .inl h
        · exact .inr (List.mem_cons_of_mem _ h)
      · rcases List.mem_cons.1 h with h | h
        · exact .inr (List.mem_cons.2 (.inl h))
        · rcases ih h with h | h
          · exact .inl h
          · exact .inr (List.mem_cons_of_mem _ h)

theorem mem_tdel {e : Nat × Word} {i : Nat} {t : WTable} (h : e ∈ tdel t i) : e ∈ t := by
  induction t with
  | nil => exact h
  | cons x r ih =>
    obtain ⟨k, w⟩ := x
    simp only [tdel] at h
    split at h
    · exact List.mem_cons_of_mem _ h
    · rcases List.mem_cons.1 h with h | h
      · exact List.mem_cons.2 (.inl h)
      · exact List.mem_cons_of_mem _ (ih h)

/-- A write of a parameter lists no reset value. -/
theorem sparse_tput {t : WTable} (i : Nat) (v : Word) (h : sparse t = true) : sparse (tput t i v) = true := by
  simp only [sparse, List.all_eq_true, bne_iff_ne, ne_eq] at h ⊢
  intro e he
  unfold tput at he
  split at he
  · exact h e (mem_tdel he)
  · next hv =>
    rcases mem_tset he with rfl | he
    · exact hv
    · exact h e he

/-- A read after a write gives the value written, and leaves every other entry alone. -/
theorem tget_tset (t : WTable) (i j : Nat) (v : Word) (h : twf t = true) :
    tget (tset t i v) j = if j = i then some v else tget t j := by
  induction t with
  | nil => simp [tset, tget, eq_comm]
  | cons x r ih =>
    obtain ⟨k, w⟩ := x
    obtain ⟨ha, hr⟩ := (twf_cons k w r).1 h
    have := ih hr
    simp only [tset]
    split
    · simp only [tget]; by_cases hj : i = j <;> simp [hj, eq_comm]
    · split
      · next he => subst he; simp only [tget]; by_cases hj : i = j <;> simp [hj, eq_comm]
      · simp only [tget, this]
        by_cases hj : k = j
        · subst hj; rename_i h1 h2; simp [Ne.symm h2]
        · simp [hj]

theorem tget_of_above {n : Nat} {t : WTable} (h : above n t) : tget t n = none := by
  induction t with
  | nil => rfl
  | cons x r ih =>
    obtain ⟨k, w⟩ := x
    have hk : n < k := h _ (List.mem_cons_self ..)
    simp only [tget]
    rw [if_neg (by omega)]
    exact ih fun e he => h e (List.mem_cons_of_mem _ he)

/-- A read after a deletion. -/
theorem tget_tdel (t : WTable) (i j : Nat) (h : twf t = true) :
    tget (tdel t i) j = if j = i then none else tget t j := by
  induction t with
  | nil => simp [tdel, tget]
  | cons x r ih =>
    obtain ⟨k, w⟩ := x
    obtain ⟨ha, hr⟩ := (twf_cons k w r).1 h
    have := ih hr
    simp only [tdel]
    split
    · next he =>
      subst he
      by_cases hj : j = k
      · subst hj; simp [tget_of_above ha]
      · simp [tget, hj, Ne.symm hj]
    · next hk =>
      simp only [tget, this]
      by_cases hj : k = j
      · subst hj; simp [hk]
      · simp [hj]

/-- The value of a parameter after a write. -/
theorem tval_tput (t : WTable) (i j : Nat) (v : Word) (h : twf t = true) :
    tval (tput t i v) j = if j = i then v else tval t j := by
  unfold tput tval
  split
  · next hv =>
    rw [tget_tdel t i j h]
    by_cases hj : j = i
    · subst hj; simp [hv]
    · simp [hj]
  · rw [tget_tset t i j v h]
    by_cases hj : j = i <;> simp [hj]

end Sys2Proof.Laws
end

