-- ==== Sys2Proof/Tests/Slice0.lean ====
section
/-! SUPPORT. Tests on small states: the checks of WellFormed refuse an ill-formed command each, worked examples of the
spec, and for every obligation states and operands that meet the hypotheses of each of its clauses. -/

namespace Sys2Proof.Tests

set_option Elab.async false

open Sys2Proof.Machine

/-- The part after reset. -/
abbrev z : State := State.reset

/-- A living part in a state at address 2, with its supplies and its clock, its die-to-die links trained and no recall. -/
def live (c : Code) : State :=
  { z with
    dev := { z.dev with code := c, startStep := 0, linksUp := true, addr := 2, master := false, dead := none, cutOff := false }
    power := { z.power with vbatOk := true, vioOk := true, supervisor := true, resetExt := false, resetOwn := none }
    clocks := { z.clocks with selected := true, locked := true }
    dog := { z.dog with recalls := [] } }

/-- A living part in IDLE whose two ports are trained. -/
def linked : State := { live .idle with
  up := { z.up with state := .up }, down := { z.down with state := .up }, stage := { z.stage with st := .open_ } }

/-- A request of the host to device 2. -/
def rq (words : List Word) : Request := { dst := 2, words }

/-- A packet with a good CRC word: PING from the host to device 2. -/
def pingPacket : Packet := { header := mkHeader 2 0 0x00 7 0 false false false, words := [] }

/-- A report or capture of PPS_IN. -/
def pps : PpsRec := { w0 := 1, w1 := 2, w2 := 3 }

/-- A waiting event of a valve with its coil-on instant, 2 ms long. -/
def ev (v : Valve) (on : Int) : Event := {
  id := 0, valve := v, st := .pending, cOn := on, cOff := on + 200000, cOff0 := on + 200000, delta := 0, cam := 0
  seq := 0, cls := 0, energy := 50000, shape := 0, direct := false, fireAny := false, noStag := false, late := false
  moved := false, carrier := none, ins := 0, waitAt := none, src := 0, begun := false, wasArmed := false, final := none }

/-- An ARM of a valve, and the pulse that runs from it. -/
def fr (v : Valve) : ArmFrame := { valve := v, cOn := 100, cOff := 300000, set := false, row := 0, derate := false, handle := 7 }

/-- A pulse in a phase, begun now. -/
def pulse (v : Valve) (p : Phase) : Pulse := {
  frame := fr v, phase := p, ttp := none, sig := none, drawn := 0, diag := 0, outcome := .fired, swellSent := false
  startAt := z.clk, chopAt := z.clk }

/-- A living part in a state with a channel changed. -/
def chan (c : Code) (v : Valve) (f : Chan → Chan) : State := (live c).modChan v f

/-- A living part with a live Ferrule, no Kennel state, no gap under way and its parameters at reset. -/
def powered (c : Code) : State := { live c with
  d2d := { z.d2d with ferruleHeard := some 0, ferruleAllOff := false }, kennel := { z.kennel with active := false }
  sw := { z.sw with gaps := [] }, stage := {}, par := { z.par with work := [] } }

/-- A remote frame, a received one and a waiting one. -/
def remote : CanFrame := { ide := false, rtr := true, dlc := 0, id := 0, data := [] }

/-- The received one. -/
def rx : RxFrame := { frame := remote, sof := 0, lost := false, mirjan := false, rule := 0, seq := 9 }

/-- The waiting one. -/
def tx : TxFrame := { frame := remote, slot := none, at_ := 0 }

/-- A living part whose plant-bus controller is error-active, with clear counters and empty offers. -/
def onBus : State := { live .idle with bus := { z.bus with
  st := .errorActive, tec := 0, rec_ := 1, m1 := 0x001908271064, m2 := 0x000A00120020, m3 := 0, ref := none, fup := none
  slotOn := none, tx := [], due := false, stored := none, acting := false } }

/-- The master of the Mirjan schedule of 8 slots of 2.5 ms, at a full time. -/
def mirjan (m1 : Word) (n : BitVec 48) : State := { onBus with
  bus := { onBus.bus with m1 := m1, m2 := 0x000A00120020 }, time := { z.time with n, e := 0, phi := 0, rho := 0, rhoNext := [] } }

/-- A living part whose baseband is on and ready, with no acquisition, search or dump under way and parameters at
reset. -/
def base : State := { live .idle with
  gnss := { z.gnss with on := true, ready := true, running := none, queued := [], reacqOn := none, reacqs := [], fifo := [] }
  clocks := { (live .idle).clocks with rfLoss := false }, stage := {}, par := { z.par with work := [] } }

/-- The baseband with one channel set. -/
def ptr (c : PChan) (p : Pointer) : State := base.modPtr c fun _ => p

/-- An acquisition. -/
def acq : Acquire := { handle := 0x3F00, mask := 1, update := 0, spacing := 2, bin := 0, auto := false, aided := false, nc := 1
                       nnc := 1, tCap := some 5 }

/-- A living part at a full time, without steps, with parameters at reset. -/
def timed (n : BitVec 48) : State := { live .idle with
  time := { z.time with n, e := 0, phi := 0, rho := 0, rhoNext := [], pending := [], history := [], announced := false }
  stage := {}, par := { z.par with work := [] } }

/-- A living part with a stage, no handles in use and its parameters at reset but CHAIN_LENGTH 1. -/
def staging (g : Stage) (n : BitVec 48) : State := { timed n with
  dev := { (live .idle).dev with addr := 1, master := true, chainOk := true }
  hnd := { z.hnd with rs := { fresh := 0x3FFF, freed := [], live := [] } }
  par := { z.par with work := [(0x34, 1)] }, stage := g }

/-- A commit run. -/
def run (at_ : Int) : CommitRun := {
  handle := 0x3F00, dst := 0, at_, id := 7, armed := 0, committed := 0, answered := 0, polledAt := z.clk, decided := false
  abandonedBefore := false, abandonedAtD := false, lastSent := false }

/-- A recall of a job's lowest engine, not collected, with slot 7. -/
def rec (j : Fin 5) : Recall := {
  job := j, engine := (jobEngines j).1, cause := 0, detect := 5, era := 0, detectAt := 0, handle := none, dst := 0, sortJob := 0
  collect := some true, collected := false, slot := some 7, waiter := none, holder := none, object := 0, aborted := false
  seq := 1, stepped := 0 }

/-- A living part with recalls under way and no open job. -/
def recalled (l : List Recall) : State := { live .idle with dog := { z.dog with recalls := l } }

/-- A Boolean check of a list's members, as a statement about each of them. -/
theorem forall_mem_of_all {α : Type} {l : List α} {p : α → Bool} (h : l.all p = true) : ∀ x, x ∈ l → p x = true :=
  List.all_eq_true.mp h

/-- Samples alone count the FIFO's writer on. -/
theorem foldl_samples (l : List RfPair) (x : BlockFifo × List (Option Int)) :
    ((l.map BlockStep.sample).foldl blockStep x).1.next = x.1.next + l.length := by
  induction l generalizing x with
  | nil => rfl
  | cons p l h =>
    have : (x.1.put (sampleValue p)).next = x.1.next + 1 := by
      simp only [BlockFifo.put]; repeat' (first | rfl | split)
    simp only [List.map_cons, List.foldl_cons, h, blockStep, this, List.length_cons]; omega

/-! ### WellFormed refuses -/

theorem test_wf_refuses_long_request :
    (Instr.ping 0 (rq (List.replicate 256 0))).wf = false := by decide +kernel

theorem test_wf_takes_full_request : (Instr.ping 0 (rq (List.replicate 255 0))).wf = true := by decide +kernel

theorem test_wf_refuses_empty_pulse :
    (Instr.arm 0 0 { valve := 0, cOn := 5, cOff := 5, set := false, row := 0, derate := false, handle := 0 }).wf = false := by
  decide

theorem test_wf_refuses_long_packet :
    (Instr.packetReceived 0 .up false 0 false { header := 0, words := List.replicate 256 0 } 0 .clean).wf = false := by
  decide +kernel

theorem test_wf_refuses_can_frame_without_its_data :
    (Instr.canFrameReceived 0 { ide := false, rtr := false, dlc := 8, id := 0, data := [1, 2] } 0 false .clean).wf = false := by
  decide

theorem test_wf_refuses_remote_frame_with_data :
    (Instr.canFrameReceived 0 { ide := false, rtr := true, dlc := 1, id := 0, data := [1] } 0 false .clean).wf = false := by
  decide

theorem test_wf_refuses_fraction : (Instr.timemark 0 0 1000 0).wf = false := by decide

theorem test_wf_refuses_long_echo : (Instr.echo 0 (rq (List.replicate 256 0)) 0 0).wf = false := by decide +kernel

theorem test_wf_refuses_long_read_frame : (Instr.serviceReadFrame 0 0 256).wf = false := by decide

/-! ### Worked examples of the spec -/

/-- The flight of section 7.8. -/
theorem test_flight_example : flight 25600 18200 10240 576 = some (4687568, 496337) := by decide

/-- STATE reads STARTING with step 1 right after reset (R158). -/
theorem test_state_at_reset : fld z.regState 3 0 = 1 ∧ fld z.regState 7 4 = 1 := by decide

/-- Header fields of a reply (R107): DST 0, SRC 2, OPC 80h, TAG 5, LEN 1, REPLY. -/
theorem test_header : mkHeader 0 2 0x80 5 1 true false false = 0x2800014060 := by decide

/-- The word of a handle: GEN 1, INDEX 3F00h (R118). -/
theorem test_handle_id : ({ z.hnd with gens := [(0x3F00, 1)] } : Handles).idOf 0x3F00 = 0x7F00 := by decide

/-- The first ten chips of PRN 1, 19 and 24: 1440, 1633 and 1706 octal (IS-GPS-200). -/
theorem test_ca_code :
    [0, 18, 23].map (fun n => ((caCode n).take 10).foldl (fun a b => 2 * a + b2n b) 0) = [0o1440, 0o1633, 0o1706] := by
  decide +kernel

/-! ### States and operands that meet the hypotheses

One theorem for each obligation with hypotheses: a line for each clause, on a concrete state. -/

theorem test_TicksMoveTheTimeBase_witness :
    (let s : State := { live .idle with time := { z.time with rhoNext := [], rho := 429496 } }
     s.clockRuns = true ∧ s.time.rhoNext = []) ∧
    (let s : State := { live .idle with dev := { (live .idle).dev with dead := some .clock } }
     s.clockRuns = false) ∧
    (let s : State := { live .idle with pending := [] }
     s.pending = []) := by
  refine ⟨?_, ?_, ?_⟩ <;> decide +kernel

theorem test_RequestsPassTheFirstChecks_witness :
    (let c : Instr := .ping 5 (rq [])
     let s : State := { z with dev := { z.dev with code := .off } }
     let row : Row := ⟨0, true, true, true⟩
     let r : Request := rq []
     reqOf c = some (row, r) ∧ row.opc ≠ 32 ∧ (s.elapse (ticksOf c)).answers = false) ∧
    (let c : Instr := .ping 5 (rq [])
     let s : State := { live .idle with urgentQ := [{ opc := 9, req := rq [], recs := 0 }] }
     let row : Row := ⟨0, true, true, true⟩
     let r : Request := rq []
     reqOf c = some (row, r) ∧ row.opc ≠ 32 ∧ (s.elapse (ticksOf c)).turn row.opc r = false) ∧
    (let c : Instr := .ping 5 { rq [] with src := 33 }
     let s : State := live .idle
     let row : Row := ⟨0, true, true, true⟩
     let r : Request := { rq [] with src := 33 }
     let a : State := s.hears (ticksOf c) row.opc r
     reqOf c = some (row, r) ∧ row.opc ≠ 32 ∧ (s.elapse (ticksOf c)).turn row.opc r = true ∧ a.answers = true ∧ 32 <
       BitVec.toNat r.src) ∧
    (let c : Instr := .writeReg 5 { rq [] with src := 32, urgent := true }
     let s : State := live .idle
     let row : Row := ⟨5, false, false, true⟩
     let r : Request := { rq [] with src := 32, urgent := true }
     let a : State := s.hears (ticksOf c) row.opc r
     reqOf c = some (row, r) ∧ row.opc ≠ 32 ∧ (s.elapse (ticksOf c)).turn row.opc r = true ∧ a.answers = true ∧
       BitVec.toNat r.src ≤ 32 ∧ r.urgent = true ∧ row.urgent = false) ∧
    (let c : Instr := .echo 5 { rq [] with dst := 62 } 0 0
     let s : State := live .idle
     let row : Row := ⟨3, true, false, true⟩
     let r : Request := { rq [] with dst := 62 }
     let a : State := s.hears (ticksOf c) row.opc r
     reqOf c = some (row, r) ∧ row.opc ≠ 32 ∧ (s.elapse (ticksOf c)).turn row.opc r = true ∧ a.answers = true ∧
       BitVec.toNat r.src ≤ 32 ∧ (r.urgent = true → row.urgent = true) ∧ r.dst = 62 ∧ row.bcast = false) ∧
    (let s : State := { z with dev := { z.dev with code := .off } }
     let dt : Nat := 3
     let a : State := s.elapse dt
     a.takesRecords = false ∨ a.frozen 4 = true) ∧
    (let s : State := { live .sorting with dog := { z.dog with recalls := [rec 4] } }
     let dt : Nat := 3
     let a : State := s.elapse dt
     a.takesRecords = false ∨ a.frozen 4 = true) ∧
    (let s : State := live .sorting
     let dt : Nat := 3
     let a : State := s.elapse dt
     let r : Request := { rq [0, 0, 0] with src := 33 }
     a.takesRecords = true ∧ a.frozen 4 = false ∧ 32 < BitVec.toNat r.src) ∧
    (let s : State := live .sorting
     let dt : Nat := 3
     let a : State := s.elapse dt
     let r : Request := { rq [0, 0, 0] with src := 32, urgent := true }
     a.takesRecords = true ∧ a.frozen 4 = false ∧ BitVec.toNat r.src ≤ 32 ∧ r.urgent = true) := by
  refine ⟨?_, ?_, ?_, ?_, ?_, ?_, ?_, ?_, ?_⟩ <;> decide +kernel

theorem test_FaultAnswersOnlyItsColumn_witness :
    (let c : Instr := .sortStart 5 (rq [1])
     let s : State := live .fault
     let row : Row := ⟨0x24, false, true, false⟩
     let r : Request := rq [1]
     let a : State := s.hears (ticksOf c) row.opc r
     reqOf c = some (row, r) ∧ row.fault = false ∧ row.opc ≠ 32 ∧ (s.elapse (ticksOf c)).turn row.opc r = true ∧
       a.dev.code = Code.fault ∧ a.dev.dead = none ∧ BitVec.toNat r.src ≤ 32) ∧
    (let c : Instr := .sortStart 5 (rq [1])
     let s : State := live .fault
     let row : Row := ⟨0x24, false, true, false⟩
     let r : Request := rq [1]
     let a : State := s.hears (ticksOf c) row.opc r
     reqOf c = some (row, r) ∧ row.fault = false ∧ row.opc ≠ 32 ∧ (s.elapse (ticksOf c)).turn row.opc r = true ∧
       a.dev.code = Code.fault ∧ a.dev.dead = none ∧ BitVec.toNat r.src ≤ 32 ∧ (r.urgent = true → row.urgent = true)
       ∧ (r.dst = 62 → row.bcast = true) ∧ a.passes row.opc r = true) ∧
    (let s : State := { live .fault with hnd := { z.hnd with detectAt := [] } }
     let dt : Nat := 3
     let a : State := s.elapse dt
     let n : Nat := 1
     let r : Request := rq [0, 0, 0]
     a.dev.code = Code.fault ∧ a.dev.dead = none ∧ a.frozen 4 = false ∧ BitVec.toNat r.src ≤ 32 ∧ r.urgent = false ∧
       r.words.length = 3 * n ∧ 1 ≤ n ∧ n ≤ 85 ∧ tget a.hnd.detectAt (BitVec.toNat r.src) = none) ∧
    (let s : State := { live .fault with hnd := { z.hnd with detectAt := [] } }
     let dt : Nat := 3
     let a : State := s.elapse dt
     let n : Nat := 85
     let r : Request := { rq (List.replicate 255 0) with src := 32 }
     a.dev.code = Code.fault ∧ a.dev.dead = none ∧ a.frozen 4 = false ∧ BitVec.toNat r.src ≤ 32 ∧ r.urgent = false ∧
       r.words.length = 3 * n ∧ 1 ≤ n ∧ n ≤ 85 ∧ tget a.hnd.detectAt (BitVec.toNat r.src) = none) := by
  refine ⟨?_, ?_, ?_, ?_⟩ <;> decide +kernel

theorem test_StartBegins_witness :
    (let s : State := { z with
         dev := { z.dev with code := .off }
         power := { z.power with resetExt := false, resetOwn := none } }
     let dt : Nat := 7
     let a : State := s.elapse dt
     a.dev.code = Code.off ∧ a.power.resetExt = false ∧ a.power.resetOwn = none) ∧
    (let s : State := { z with
         dev := { z.dev with code := .off }
         power := { z.power with vbatOk := true, vioOk := true, below165 := false, resetOwn := some z.clk } }
     let dt : Nat := 1000000
     let a : State := s.elapse dt
     a.dev.code = Code.off ∧ a.power.vbatOk = true ∧ a.power.below165 = false ∧ a.power.vioOk = true ∧ (∀ (x : Nat),
       x ∈ a.power.resetOwn → x + 1000000 ≤ a.clk)) ∧
    (let s : State := { z with
         dev := { z.dev with code := .off }
         power := { z.power with below165 := true } }
     let dt : Nat := 7
     let a : State := s.elapse dt
     a.dev.code = Code.off ∧ a.power.below165 = true) := by
  refine ⟨?_, ?_, ?_⟩ <;> decide +kernel

theorem test_OffSwitchesEverythingOff_witness :
    (let s : State := live .sorting
     let dt : Nat := 4
     let a : State := s.elapse dt
     a.dev.code ≠ Code.off) := by
  decide +kernel

theorem test_SupplyWatchesAct_witness :
    (let s : State := live .idle
     let dt : Nat := 3
     let a : State := s.elapse dt
     a.dev.code ≠ Code.off) ∧
    (let s : State := { live .idle with time := { z.time with n := 0, e := 0, phi := 0 } }
     let dt : Nat := 1
     let a : State := s.elapse dt
     a.dev.code ≠ Code.off) ∧
    (let s : State := { z with dev := { z.dev with code := .off } }
     let dt : Nat := 3
     let a : State := s.elapse dt
     a.dev.code = Code.off) ∧
    (let s : State := { live .idle with power := { z.power with uvSince := some z.clk } }
     let dt : Nat := 200000
     let a : State := s.elapse dt
     let x : Nat := z.clk
     a.power.uvSince = some x ∧ x + 200000 ≤ a.clk) ∧
    (let s : State := { live .idle with clocks := { (live .idle).clocks with holdSince := none } }
     let dt : Nat := 5
     let a : State := s.elapse dt
     a.clocks.locked = true ∧ a.clocks.holdSince = none) ∧
    (let s : State := { live .idle with
         clocks := { (live .idle).clocks with holdSince := some z.clk }
         par := { z.par with boot := [] } }
     let dt : Nat := 49999999
     let a : State := s.elapse dt
     let x : Nat := z.clk
     a.clocks.holdSince = some x ∧ a.clk < x + a.bootf 37 9 0 * 100000) ∧
    (let s : State := { live .idle with
         clocks := { (live .idle).clocks with holdSince := some z.clk }
         par := { z.par with boot := [] } }
     let dt : Nat := 50000000
     let a : State := s.elapse dt
     let x : Nat := z.clk
     a.clocks.holdSince = some x ∧ x + a.bootf 37 9 0 * 100000 ≤ a.clk) ∧
    (let s : State := { live .idle with
         time := { z.time with n := 99999, e := 0, phi := 0, rho := 0, rhoNext := [] }
         clocks := { (live .idle).clocks with captures := 0 } }
     let dt : Nat := 1
     let a : State := s.elapse dt
     a.clockRuns = true ∧ a.time.prev < epochOf a.full ∧ (a.clocks.captures = 0 ∨ a.clocks.capAt ≠ a.clk)) ∧
    (let s : State := { live .idle with clocks := { (live .idle).clocks with captures := 1, capAt := z.clk } }
     let dt : Nat := 0
     let a : State := s.elapse dt
     0 < a.clocks.captures ∧ a.clocks.capAt = a.clk) := by
  refine ⟨?_, ?_, ?_, ?_, ?_, ?_, ?_, ?_, ?_⟩ <;> decide +kernel

theorem test_FaultIsEntered_witness :
    (let a : State := live .sorting
     a.dev.code ≠ Code.off ∧ a.dev.code ≠ Code.fault ∧ a.dev.dead = none) ∧
    (let a : State := live .sorting
     a.dev.code ≠ Code.off ∧ a.dev.code ≠ Code.fault ∧ a.dev.dead = none ∧ a.dev.linksUp = true) ∧
    (let a : State := { live .starting with dev := { (live .starting).dev with linksUp := false } }
     a.dev.code ≠ Code.off ∧ a.dev.code ≠ Code.fault ∧ a.dev.dead = none ∧ a.dev.linksUp = false) ∧
    (let a : State := { live .sorting with
         nib := { z.nib with events := [{ ev 17 100500 with st := .pending }], aborted := [] }
         hnd := { z.hnd with ej := { z.hnd.ej with live := [{ id := 0, st := .accepted, opc := 0x20, dst := 0 }] } }
         stage := {}
         par := { z.par with work := [] } }
     let e : Event := { ev 17 100500 with st := .pending }
     let l : Live := { id := 0, st := .accepted, opc := 0x20, dst := 0 }
     a.dev.code ≠ Code.off ∧ a.dev.code ≠ Code.fault ∧ a.dev.dead = none ∧ a.dev.linksUp = true ∧ a.nib.events = [e]
       ∧ e.carrier = none ∧ a.hnd.ej.live = [l] ∧ l.id = e.id ∧ isEj e.id = true ∧ a.nib.aborted = [] ∧ (a.mode = 0
       ∨ a.mode = 1) ∧ (e.st = EState.pending ∧ a.due e = false ∧ l.st = HState.accepted ∨ e.st = EState.waiting ∧
       l.st = HState.accepted ∨ e.st = EState.armed ∧ l.st = HState.armed)) ∧
    (let a : State := { live .sorting with
         nib := { z.nib with events := [{ ev 17 100500 with st := .waiting }], aborted := [] }
         hnd := { z.hnd with ej := { z.hnd.ej with live := [{ id := 0, st := .accepted, opc := 0x20, dst := 0 }] } }
         stage := {}
         par := { z.par with work := [] } }
     let e : Event := { ev 17 100500 with st := .waiting }
     let l : Live := { id := 0, st := .accepted, opc := 0x20, dst := 0 }
     a.dev.code ≠ Code.off ∧ a.dev.code ≠ Code.fault ∧ a.dev.dead = none ∧ a.dev.linksUp = true ∧ a.nib.events = [e]
       ∧ e.carrier = none ∧ a.hnd.ej.live = [l] ∧ l.id = e.id ∧ isEj e.id = true ∧ a.nib.aborted = [] ∧ (a.mode = 0
       ∨ a.mode = 1) ∧ (e.st = EState.pending ∧ a.due e = false ∧ l.st = HState.accepted ∨ e.st = EState.waiting ∧
       l.st = HState.accepted ∨ e.st = EState.armed ∧ l.st = HState.armed)) ∧
    (let a : State := { live .sorting with
         nib := { z.nib with events := [{ ev 17 100500 with st := .armed }], aborted := [] }
         hnd := { z.hnd with ej := { z.hnd.ej with live := [{ id := 0, st := .armed, opc := 0x20, dst := 0 }] } }
         stage := {}
         par := { z.par with work := [] } }
     let e : Event := { ev 17 100500 with st := .armed }
     let l : Live := { id := 0, st := .armed, opc := 0x20, dst := 0 }
     a.dev.code ≠ Code.off ∧ a.dev.code ≠ Code.fault ∧ a.dev.dead = none ∧ a.dev.linksUp = true ∧ a.nib.events = [e]
       ∧ e.carrier = none ∧ a.hnd.ej.live = [l] ∧ l.id = e.id ∧ isEj e.id = true ∧ a.nib.aborted = [] ∧ (a.mode = 0
       ∨ a.mode = 1) ∧ (e.st = EState.pending ∧ a.due e = false ∧ l.st = HState.accepted ∨ e.st = EState.waiting ∧
       l.st = HState.accepted ∨ e.st = EState.armed ∧ l.st = HState.armed)) ∧
    (let a : State := { live .sorting with
         nib := { z.nib with events := [{ ev 17 100500 with st := .armed }], aborted := [] }
         hnd := { z.hnd with ej := { z.hnd.ej with live := [{ id := 0, st := .armed, opc := 0x20, dst := 0 }] } }
         stage := {}
         par := { z.par with work := [] } }
     let e : Event := { ev 17 100500 with st := .armed }
     let l : Live := { id := 0, st := .armed, opc := 0x20, dst := 0 }
     a.dev.code ≠ Code.off ∧ a.dev.code ≠ Code.fault ∧ a.dev.dead = none ∧ a.dev.linksUp = true ∧ a.nib.events = [e]
       ∧ e.carrier = none ∧ a.hnd.ej.live = [l] ∧ l.id = e.id ∧ isEj e.id = true ∧ a.nib.aborted = [] ∧ (a.mode = 0
       ∨ a.mode = 1) ∧ (e.st = EState.pending ∧ a.due e = false ∧ l.st = HState.accepted ∨ e.st = EState.waiting ∧
       l.st = HState.accepted ∨ e.st = EState.armed ∧ l.st = HState.armed) ∧ e.st = EState.armed) ∧
    (let a : State := live .fault
     a.dev.code = Code.fault ∧ a.dev.dead = none) ∧
    (let a : State := { live .fault with dev := { (live .fault).dev with code := .off } }
     a.dev.code = Code.off ∨ a.dev.dead ≠ none) := by
  refine ⟨?_, ?_, ?_, ?_, ?_, ?_, ?_, ?_, ?_⟩ <;> decide +kernel

theorem test_StartStepsFollow_witness :
    (let s : State := { z with dev := { z.dev with code := .starting, startStep := 1 } }
     let dt : Nat := 3
     let a : State := s.elapse dt
     a.dev.code = Code.starting ∧ a.dev.restart = 0 ∧ a.dev.startStep = 1) ∧
    (let s : State := { z with
         dev := { z.dev with code := .starting, startStep := 2, stepAt := z.clk }
         clocks := { z.clocks with selected := false } }
     let dt : Nat := 200000
     let a : State := s.elapse dt
     let refin : Bool := false
     a.dev.code = Code.starting ∧ a.dev.restart = 0 ∧ a.dev.startStep = 2 ∧ a.clocks.selected = false ∧ (refin =
       true ∨ a.dev.stepAt + 200000 ≤ a.clk)) ∧
    (let s : State := { z with
         dev := { z.dev with code := .starting, startStep := 2, stepAt := z.clk }
         clocks := { z.clocks with selected := false } }
     let dt : Nat := 0
     let a : State := s.elapse dt
     let refin : Bool := true
     a.dev.code = Code.starting ∧ a.dev.restart = 0 ∧ a.dev.startStep = 2 ∧ a.clocks.selected = false ∧ (refin =
       true ∨ a.dev.stepAt + 200000 ≤ a.clk)) ∧
    (let s : State := { z with
         dev := { z.dev with code := .starting, startStep := 2 }
         clocks := { z.clocks with selected := true, locked := false } }
     let dt : Nat := 3
     let a : State := s.elapse dt
     a.dev.code = Code.starting ∧ a.dev.restart = 0 ∧ a.dev.startStep = 2 ∧ a.clocks.selected = true ∧
       a.clocks.locked = false) ∧
    (let s : State := { z with dev := { z.dev with code := .starting, startStep := 3 } }
     let dt : Nat := 3
     let a : State := s.elapse dt
     a.dev.code = Code.starting ∧ a.dev.restart = 0 ∧ a.dev.startStep = 3) ∧
    (let s : State := { z with dev := { z.dev with code := .starting, startStep := 4 } }
     let dt : Nat := 3
     let a : State := s.elapse dt
     a.dev.code = Code.starting ∧ a.dev.restart = 0 ∧ a.dev.startStep = 4) ∧
    (let s : State := { z with dev := { z.dev with code := .starting, startStep := 5 } }
     let dt : Nat := 3
     let a : State := s.elapse dt
     a.dev.code = Code.starting ∧ a.dev.startStep = 5) ∧
    (let s : State := { z with dev := { z.dev with code := .starting, startStep := 6 } }
     let dt : Nat := 3
     let a : State := s.elapse dt
     a.dev.code = Code.starting ∧ a.dev.startStep = 6) := by
  refine ⟨?_, ?_, ?_, ?_, ?_, ?_, ?_, ?_⟩ <;> decide +kernel

theorem test_BoostsStartOneByOne_witness :
    (let s : State := { (z.modBank 0 fun k => { k with
         phase := .failed
         beganAt := z.clk }).modBank 1 (fun k => { k with phase := .idle }) with
         dev := { z.dev with code := .starting, startStep := 7 }
         par := { z.par with boot := [] } }
     let dt : Nat := 2000000
     let a : State := s.elapse dt
     let b : Bank := 1
     let k : BankSt := a.vlv.banks[b]
     a.dev.code = Code.starting ∧ a.dev.startStep = 7 ∧ (a.bootf 36 3 0).testBit ↑b = true ∧ k.phase =
       BankPhase.idle ∧ (∀ (c : Bank), c < b → (a.bootf 36 3 0).testBit ↑c = true → (a.vlv.banks[c].phase =
       BankPhase.regulated ∨ a.vlv.banks[c].phase = BankPhase.failed) ∧ a.vlv.banks[c].beganAt + 2000000 ≤ a.clk)) ∧
    (let s : State := { (z.modBank 0 fun k => { k with phase := .precharge }) with
         dev := { z.dev with code := .starting, startStep := 7 } }
     let dt : Nat := 3
     let a : State := s.elapse dt
     let b : Bank := 0
     let k : BankSt := a.vlv.banks[b]
     a.dev.code = Code.starting ∧ a.dev.startStep = 7 ∧ k.phase = BankPhase.precharge) ∧
    (let s : State := { (z.modBank 0 fun k => { k with phase := .softStart, bandAt := some z.clk }) with
         dev := { z.dev with code := .starting, startStep := 7 } }
     let dt : Nat := 50000
     let a : State := s.elapse dt
     let b : Bank := 0
     let k : BankSt := a.vlv.banks[b]
     let x : Nat := z.clk
     a.dev.code = Code.starting ∧ a.dev.startStep = 7 ∧ k.phase = BankPhase.softStart ∧ k.bandAt = some x ∧ x +
       50000 ≤ a.clk) ∧
    (let s : State := { (z.modBank 0 fun k => { k with phase := .precharge, beganAt := z.clk }) with
         dev := { z.dev with code := .starting, startStep := 7 } }
     let dt : Nat := 10000000
     let a : State := s.elapse dt
     let b : Bank := 0
     let k : BankSt := a.vlv.banks[b]
     a.dev.code = Code.starting ∧ a.dev.startStep = 7 ∧ (k.phase = BankPhase.precharge ∨ k.phase =
       BankPhase.softStart) ∧ k.beganAt + 10000000 ≤ a.clk) := by
  refine ⟨?_, ?_, ?_, ?_⟩ <;> decide +kernel

theorem test_StartSwitchesAndEnds_witness :
    (let s : State := { (z.modSw 3 fun c => { c with st := .off }) with
         dev := { z.dev with code := .starting, startStep := 8, startList := [3, 5], startLast := z.clk }
         d2d := { z.d2d with ferruleHeard := some 0, ferruleAllOff := false }
         par := { z.par with boot := [] } }
     let dt : Nat := 5000000
     let a : State := s.elapse dt
     let n : Sw := 3
     let r : List Sw := [5]
     a.dev.code = Code.starting ∧ a.dev.startStep = 8 ∧ a.dev.startList = n :: r ∧ (a.dev.startSw = none ∨
       a.dev.startLast + a.bootf 35 9 0 * 100000 ≤ a.clk) ∧ a.d2d.ferruleHeard ≠ none ∧ a.d2d.ferruleAllOff = false
       ∧ a.sw.ch[n].st = SwState.off) ∧
    (let s : State := { z with
         dev := { z.dev with code := .starting, startStep := 8, startList := [], startLast := z.clk }
         par := { z.par with boot := [] }
         sw := { z.sw with ch := z.sw.ch.map fun c => { c with inrushAt := none } } }
     let dt : Nat := 5000000
     let a : State := s.elapse dt
     a.dev.code = Code.starting ∧ a.dev.startStep = 8 ∧ a.dev.startList = [] ∧ (a.bootf 32 15 0 = 0 ∨
       a.dev.startLast + a.bootf 35 9 0 * 100000 ≤ a.clk ∧ ∀ (n : Sw), a.dev.startSw = some n → a.sw.ch[n].inrushAt
       ≠ some a.dev.startLast)) := by
  refine ⟨?_, ?_⟩ <;> decide +kernel

theorem test_QuillTakesFrames_witness :
    (let s : State := { (z.modChan 0 fun c => { c with latched := false }) with
         vlv := { (z.modChan 0 fun c => { c with latched := false }).vlv with
             quill0 := { z.vlv.quill0 with heardAt := some 0, allOff := false, hot := false } } }
     let dt : Nat := 3
     let a : State := s.elapse dt
     let q : Fin 2 := 0
     let f : ArmFrame := { valve := 0, cOn := 5, cOff := 9, set := false, row := 0, derate := false, handle := 0 }
     quillOf (bankOf f.valve) = q ∧ (a.quill q).allOff = false ∧ (a.quill q).heardAt ≠ none ∧
       a.vlv.chans[f.valve].latched = false ∧ (a.quill q).hot = false) ∧
    (let s : State := { (z.modChan 63 fun c => { c with latched := true }) with
         vlv := { (z.modChan 63 fun c => { c with latched := true }).vlv with
             quill1 := { z.vlv.quill1 with heardAt := some 0, allOff := false } } }
     let dt : Nat := 3
     let a : State := s.elapse dt
     let q : Fin 2 := 1
     let f : ArmFrame := {
         valve := 63
         cOn := 5
         cOff := 9
         set := false
         row := 0
         derate := false
         handle := 0 }
     quillOf (bankOf f.valve) = q ∧ (a.quill q).allOff = false ∧ (a.quill q).heardAt ≠ none ∧
       a.vlv.chans[f.valve].latched = true) ∧
    (let s : State := { z with
         vlv := { z.vlv with quill0 := { z.vlv.quill0 with shapes0 := List.replicate 8 0 } } }
     let dt : Nat := 3
     let a : State := s.elapse dt
     let q : Fin 2 := 0
     let set : Bool := false
     let row : Fin 8 := 7
     ↑row < (if set = true then (a.quill q).shapes1 else (a.quill q).shapes0).length) ∧
    (let s : State := { z with
         vlv := { z.vlv with quill1 := { z.vlv.quill1 with shapes1 := List.replicate 8 0 } } }
     let dt : Nat := 3
     let a : State := s.elapse dt
     let q : Fin 2 := 1
     let set : Bool := true
     let row : Fin 8 := 0
     ↑row < (if set = true then (a.quill q).shapes1 else (a.quill q).shapes0).length) ∧
    (let s : State := { z with
         clocks := { z.clocks with locked := false }
         vlv := { z.vlv with
             quill0 := { z.vlv.quill0 with mirror := 60, adjusts := [], steps := [(-7, 60)] }
             quill1 := { z.vlv.quill1 with adjusts := [], steps := [] } } }
     let dt : Nat := 0
     let a : State := s.elapse dt
     let x : Int := -7
     let at_ : Int := 60
     a.vlv.quill0.adjusts = [] ∧ a.vlv.quill0.steps = [(x, at_)] ∧ a.vlv.quill1.adjusts = [] ∧ a.vlv.quill1.steps =
       [] ∧ (a.vlv.quill0.mirror - BitVec.ofInt 48 at_).toNat < 2 ^ 47) ∧
    (let s : State := { z with
         clocks := { z.clocks with locked := false }
         vlv := { z.vlv with
             quill0 := { z.vlv.quill0 with mirror := 60, adjusts := [], steps := [(-7, 61)] }
             quill1 := { z.vlv.quill1 with adjusts := [], steps := [] } } }
     let dt : Nat := 0
     let a : State := s.elapse dt
     let x : Int := -7
     let at_ : Int := 61
     a.vlv.quill0.adjusts = [] ∧ a.vlv.quill0.steps = [(x, at_)] ∧ a.vlv.quill1.adjusts = [] ∧ a.vlv.quill1.steps =
       [] ∧ 2 ^ 47 ≤ (a.vlv.quill0.mirror - BitVec.ofInt 48 at_).toNat) := by
  refine ⟨?_, ?_, ?_, ?_, ?_, ?_⟩ <;> decide +kernel

theorem test_DieLinksAreWatched_witness :
    (let s : State := { z with
         d2d := { z.d2d with
             wait := [{
                 link := 0
                 msg := .cut 5
                 sentAt := z.clk
                 fails := 1 }, { link := 0, msg := .cut 5, sentAt := 0, fails := 0 }] } }
     let dt : Nat := 400
     let a : State := s.elapse dt
     let link : Fin 3 := 0
     let m : D2dMsg := .cut 5
     let w : D2dWait := { link := 0, msg := .cut 5, sentAt := z.clk, fails := 1 }
     let r : List D2dWait := [{ link := 0, msg := .cut 5, sentAt := 0, fails := 0 }]
     a.d2d.wait = w :: r ∧ w.link = link ∧ w.msg = m) ∧
    (let s : State := { z with
         d2d := { z.d2d with wait := [{ link := 0, msg := .cut 5, sentAt := z.clk, fails := 1 }] } }
     let dt : Nat := 400
     let a : State := s.elapse dt
     let link : Fin 3 := 0
     let m : D2dMsg := .cut 5
     let w : D2dWait := { link := 0, msg := .cut 5, sentAt := z.clk, fails := 1 }
     let r : List D2dWait := []
     a.d2d.wait = w :: r ∧ w.link = link ∧ w.msg = m ∧ w.sentAt + 400 ≤ a.clk ∧ watched m = true) ∧
    (let s : State := { z with
         d2d := { z.d2d with wait := [{ link := 0, msg := .alert .cooled, sentAt := z.clk, fails := 2 }] } }
     let dt : Nat := 1
     let a : State := s.elapse dt
     let link : Fin 3 := 0
     let m : D2dMsg := .alert .cooled
     let w : D2dWait := { link := 0, msg := .alert .cooled, sentAt := z.clk, fails := 2 }
     let r : List D2dWait := []
     a.d2d.wait = w :: r ∧ w.link = link ∧ w.msg = m ∧ w.fails = 2 ∧ fromQuill m = true) ∧
    (let s : State := { z with
         d2d := { z.d2d with wait := [{ link := 1, msg := .alert .cooled, sentAt := z.clk, fails := 1 }] } }
     let dt : Nat := 1
     let a : State := s.elapse dt
     let link : Fin 3 := 1
     let m : D2dMsg := .alert .cooled
     let w : D2dWait := { link := 1, msg := .alert .cooled, sentAt := z.clk, fails := 1 }
     let r : List D2dWait := []
     a.d2d.wait = w :: r ∧ w.link = link ∧ w.msg = m ∧ w.fails < 2 ∧ (watched m = true ∨ fromQuill m = true)) ∧
    (let s : State := { live .idle with d2d := { z.d2d with beatAt := z.clk } }
     let dt : Nat := 10000
     let a : State := s.elapse dt
     a.dev.linksUp = true ∧ a.clockRuns = true ∧ a.dev.dead ≠ some Death.hung ∧ a.d2d.beatAt + 10000 ≤ a.clk) ∧
    (let s : State := { z with
         d2d := { z.d2d with
             wait := [{
                 link := 0
                 msg := .cut 5
                 sentAt := z.clk
                 fails := 1 }, { link := 0, msg := .cut 5, sentAt := 0, fails := 0 }] } }
     let dt : Nat := 400
     let a : State := s.elapse dt
     a.vlv.quill0.stopped = false) ∧
    (let s : State := { live .idle with vlv := { z.vlv with quill1 := { z.vlv.quill1 with stopped := true } } }
     let dt : Nat := 4
     let a : State := s.elapse dt
     a.vlv.quill1.stopped = true) ∧
    (let s : State := { live .idle with vlv := { z.vlv with quill1 := { z.vlv.quill1 with mirror := 0 } } }
     let dt : Nat := 1
     let a : State := s.elapse dt
     let x : BitVec 48 := 7
     a.vlv.quill1.stopped = false ∧ a.vlv.quill1.mirror ≠ x) := by
  refine ⟨?_, ?_, ?_, ?_, ?_, ?_, ?_, ?_⟩ <;> decide +kernel

theorem test_ScribeDeathSwitchesOff_witness :
    (let s : State := { live .idle with d2d := { z.d2d with ferruleHeard := some z.clk } }
     let dt : Nat := 95000
     let a : State := s.elapse dt
     let link : Fin 3 := 2
     let x : Nat := z.clk
     a.dev.code ≠ Code.off ∧ a.heard link = some x ∧ x + 95000 ≤ a.clk) ∧
    (let s : State := { live .sorting with dev := { (live .sorting).dev with dead := some .hung } }
     let dt : Nat := 3
     let a : State := s.elapse dt
     a.dev.code ≠ Code.off) ∧
    (let s : State := { live .sorting with dev := { (live .sorting).dev with dead := some .running } }
     let dt : Nat := 3
     let a : State := s.elapse dt
     a.dev.code ≠ Code.off) ∧
    (let s : State := { live .idle with d2d := { z.d2d with ferruleHeard := some z.clk } }
     let dt : Nat := 95000
     let a : State := s.elapse dt
     a.dev.code ≠ Code.off) ∧
    (let s : State := { live .sorting with dev := { (live .sorting).dev with dead := some .running } }
     let dt : Nat := 3
     let a : State := s.elapse dt
     a.dev.code ≠ Code.off ∧ a.dev.dead = some Death.running) ∧
    (let s : State := { live .sorting with dev := { (live .sorting).dev with dead := some .clock, hung := false, restart := 0 } }
     let dt : Nat := 3
     let a : State := s.elapse dt
     a.dev.code ≠ Code.off ∧ a.dev.dead = some Death.clock ∧ a.dev.hung = false) ∧
    (let s : State := { live .sorting with dev := { (live .sorting).dev with dead := some .hung } }
     let dt : Nat := 3
     let a : State := s.elapse dt
     a.dev.code ≠ Code.off ∧ (a.dev.dead = some Death.hung ∨ a.dev.dead = none)) ∧
    (let s : State := { live .sorting with dev := { (live .sorting).dev with dead := some .supply, hung := false, restart := 0 } }
     let dt : Nat := 3
     let a : State := s.elapse dt
     a.dev.code ≠ Code.off ∧ a.dev.dead = some Death.supply ∧ a.dev.hung = false ∧ a.dev.restart = 0) ∧
    (let s : State := { live .sorting with
         dev := { (live .sorting).dev with dead := some .supply, restart := 2, stepAt := z.clk }
         clocks := { z.clocks with selected := false } }
     let dt : Nat := 200000
     let a : State := s.elapse dt
     let refin : Bool := false
     a.dev.code ≠ Code.off ∧ a.dev.restart = 2 ∧ a.clocks.selected = false ∧ (refin = true ∨ a.dev.stepAt + 200000 ≤
       a.clk)) ∧
    (let s : State := { live .sorting with
         dev := { (live .sorting).dev with dead := some .supply, restart := 2, stepAt := z.clk }
         clocks := { z.clocks with selected := false } }
     let dt : Nat := 3
     let a : State := s.elapse dt
     let refin : Bool := true
     a.dev.code ≠ Code.off ∧ a.dev.restart = 2 ∧ a.clocks.selected = false ∧ (refin = true ∨ a.dev.stepAt + 200000 ≤
       a.clk)) ∧
    (let s : State := { live .sorting with
         dev := { (live .sorting).dev with dead := some .supply, restart := 2 }
         clocks := { z.clocks with selected := true, locked := false } }
     let dt : Nat := 3
     let a : State := s.elapse dt
     a.dev.code ≠ Code.off ∧ a.dev.restart = 2 ∧ a.clocks.selected = true ∧ a.clocks.locked = false) ∧
    (let s : State := { live .sorting with dev := { (live .sorting).dev with dead := some .supply, restart := 3 } }
     let dt : Nat := 3
     let a : State := s.elapse dt
     a.dev.code ≠ Code.off ∧ a.dev.restart = 3) := by
  refine ⟨?_, ?_, ?_, ?_, ?_, ?_, ?_, ?_, ?_, ?_, ?_, ?_⟩ <;> decide +kernel

theorem test_ScrubberCountsErrors_witness :
    (let s : State := { live .idle with d2d := { z.d2d with scrubPos := 0x13FFF8, scrubAt := some z.clk, scrubPeriod := 1 } }
     let dt : Nat := 3
     let a : State := s.elapse dt
     let p : Nat := a.d2d.scrubPeriod * 100000000
     let due : Prop := ∀ (x : Nat), x ∈ a.d2d.scrubAt → if a.d2d.scrubPos = 0 then x + p ≤ a.clk else x + a.d2d.scrubPos / 8 * p / 524288 ≤ a.clk
     ¬due) ∧
    (let s : State := { live .idle with d2d := { z.d2d with scrubPos := 8, scrubAt := some z.clk, scrubPeriod := 1 } }
     let dt : Nat := 191
     let a : State := s.elapse dt
     let p : Nat := a.d2d.scrubPeriod * 100000000
     let due : Prop := ∀ (x : Nat), x ∈ a.d2d.scrubAt → if a.d2d.scrubPos = 0 then x + p ≤ a.clk else x + a.d2d.scrubPos / 8 * p / 524288 ≤ a.clk
     a.dev.linksUp = true ∧ a.clockRuns = true ∧ due) ∧
    (let s : State := { live .idle with d2d := { z.d2d with scrubPos := 0x13FFF8, scrubAt := some z.clk, scrubPeriod := 1 } }
     let dt : Nat := 31249810
     let a : State := s.elapse dt
     let p : Nat := a.d2d.scrubPeriod * 100000000
     let due : Prop := ∀ (x : Nat), x ∈ a.d2d.scrubAt → if a.d2d.scrubPos = 0 then x + p ≤ a.clk else x + a.d2d.scrubPos / 8 * p / 524288 ≤ a.clk
     a.dev.linksUp = true ∧ a.clockRuns = true ∧ due ∧ a.d2d.scrubPos < 1310720) := by
  refine ⟨?_, ?_, ?_⟩ <;> decide +kernel

theorem test_PacketIsAccepted_witness :
    (let s : State := { linked with
         up := { linked.up with bulk := { z.up.bulk with rxNext := 4095 } }
         bulkQ := z.bulkQ.take 15 }
     let dt : Nat := 3
     let a : State := s.elapse dt
     let slots : Nat := 4
     let side : Side := .up
     let l : Lane := (a.port side).lane false
     let p : Packet := pingPacket
     let n : Nat := p.words.length
     let w : Word := crcWord pingPacket.header [] 4095
     a.linkRuns = true ∧ a.portUp side = true ∧ slots = n + 4 ∧ fld p.header 13 6 = n ∧ bit p.header 0 = false ∧
       (packetCrc p.header p.words (fld w 47 32)).toNat = fld w 31 0 ∧ fld w 43 32 = l.rxNext.toNat ∧ hDst p.header
       = BitVec.toNat a.dev.addr ∧ a.dev.addr ≠ 63 ∧ a.dev.addr ≠ 62 ∧ a.dev.addr ≠ 0 ∧ BitVec.toNat a.dev.addr ≤ 32
       ∧ a.dev.cutOff = false ∧ hReply p.header = false ∧ hSrc p.header ≤ 32 ∧ hOpc p.header ≠ 32 ∧ hOpc p.header ≠
       147 ∧ (opLengths (hOpc p.header)).isSome = true ∧ a.bulkQ.length < 16) := by
  decide +kernel

theorem test_BadPacketIsRefused_witness :
    (let s : State := { linked with up := { linked.up with bulk := { z.up.bulk with rxNext := 4095 } } }
     let dt : Nat := 3
     let a : State := s.elapse dt
     let slots : Nat := 4
     let side : Side := .up
     let p : Packet := pingPacket
     let w : Word := crcWord pingPacket.header [] 4095 + 1
     a.linkRuns = true ∧ a.portUp side = true ∧ (a.wayOf side (hDst p.header)).out = none ∧ (slots ≠ hLen p.header +
       4 ∨ (packetCrc p.header p.words (fld w 47 32)).toNat ≠ fld w 31 0)) ∧
    (let s : State := { linked with up := { linked.up with urgent := { z.up.urgent with rxNext := 4095 } } }
     let dt : Nat := 3
     let a : State := s.elapse dt
     let slots : Nat := 5
     let side : Side := .up
     let p : Packet := pingPacket
     let w : Word := crcWord pingPacket.header [] 4095
     a.linkRuns = true ∧ a.portUp side = true ∧ (a.wayOf side (hDst p.header)).out = none ∧ (slots ≠ hLen p.header +
       4 ∨ (packetCrc p.header p.words (fld w 47 32)).toNat ≠ fld w 31 0)) := by
  refine ⟨?_, ?_⟩ <;> decide +kernel

theorem test_PacketLeavesWithItsNumber_witness :
    (let s : State := { linked with
         down := { linked.down with
             bulk := { z.down.bulk with
                 stored := [{ header := pingPacket.header, words := [] }]
                 held := 2
                 replay := [] }
             urgent := { z.down.urgent with replay := [] } } }
     let dt : Nat := 3
     let a : State := s.elapse dt
     let side : Side := .down
     let urgent : Bool := false
     let l : Lane := (a.port side).lane urgent
     let x : TxPacket := { header := pingPacket.header, words := [] }
     let r : List TxPacket := []
     a.linkRuns = true ∧ a.portUp side = true ∧ l.stored = x :: r ∧ x.holds = 0 ∧ x.words.length + 2 ≤ l.held ∧
       (a.port side).replayWords + x.words.length + 2 ≤ 2048 ∧ (∀ (y : TxPacket), y ∈ l.replay → y.owed = false)) := by
  decide +kernel

theorem test_OrderedSetsMoveTheLane_witness :
    (let s : State := linked
     let dt : Nat := 3
     let a : State := s.elapse dt
     let side : Side := .down
     a.linkRuns = true ∧ a.portUp side = true) ∧
    (let s : State := { linked with
         up := { linked.up with
             bulk := { linked.up.bulk with replay := [{ header := 0, words := [], seq := 4000 }] } } }
     let dt : Nat := 3
     let a : State := s.elapse dt
     let side : Side := .up
     a.linkRuns = true ∧ a.portUp side = true) ∧
    (let s : State := { linked with
         up := { linked.up with bulk := { linked.up.bulk with
             held := 2048
             replay := [{ header := 0, words := [], seq := 4000, resends := 0 }] } } }
     let dt : Nat := 3
     let a : State := s.elapse dt
     let side : Side := .up
     let urgent : Bool := false
     let l : Lane := (a.port side).lane urgent
     let seq : BitVec 12 := 4000
     let left : List TxPacket := List.filter (fun (x : TxPacket) => decide (2048 ≤ (seq - x.seq).toNat)) l.replay
     a.linkRuns = true ∧ a.portUp side = true ∧ left = []) ∧
    (let s : State := { linked with
         up := { linked.up with bulk := { linked.up.bulk with
             held := 2
             replay := [{ header := 0, words := [], seq := 7, resends := 0 }, { header := 0, words := [], seq := 8, resends := 3 }] } } }
     let dt : Nat := 3
     let a : State := s.elapse dt
     let side : Side := .up
     let urgent : Bool := false
     let l : Lane := (a.port side).lane urgent
     let seq : BitVec 12 := 7
     let x : TxPacket := { header := 0, words := [], seq := 8, resends := 3 }
     let left : List TxPacket := List.filter (fun (x : TxPacket) => decide (2048 ≤ (seq - x.seq).toNat)) l.replay
     a.linkRuns = true ∧ a.portUp side = true ∧ left = [x] ∧ x.resends < 4 ∧ x.words.length + 2 ≤ l.held) ∧
    (let s : State := { linked with
         up := { linked.up with bulk := { linked.up.bulk with
             held := 4
             replay := [{ header := 0, words := [], seq := 7, resends := 3 }, { header := 0, words := [], seq := 8, resends := 3 }] } } }
     let dt : Nat := 3
     let a : State := s.elapse dt
     let side : Side := .up
     let urgent : Bool := false
     let l : Lane := (a.port side).lane urgent
     let seq : BitVec 12 := 6
     let x : TxPacket := { header := 0, words := [], seq := 7, resends := 3 }
     let left : List TxPacket := List.filter (fun (x : TxPacket) => decide (2048 ≤ (seq - x.seq).toNat)) l.replay
     let y : TxPacket := { header := 0, words := [], seq := 8, resends := 3 }
     a.linkRuns = true ∧ a.portUp side = true ∧ left = [x, y] ∧ x.seq ≠ y.seq ∧ x.resends < 4 ∧ x.words.length + 2 +
       (y.words.length + 2) ≤ l.held) ∧
    (let s : State := { linked with
         up := { linked.up with bulk := { linked.up.bulk with
             held := 3
             replay := [{ header := 0, words := [], seq := 7, resends := 3 }, { header := 0, words := [], seq := 8, resends := 3 }] } } }
     let dt : Nat := 3
     let a : State := s.elapse dt
     let side : Side := .up
     let urgent : Bool := false
     let l : Lane := (a.port side).lane urgent
     let seq : BitVec 12 := 6
     let x : TxPacket := { header := 0, words := [], seq := 7, resends := 3 }
     let left : List TxPacket := List.filter (fun (x : TxPacket) => decide (2048 ≤ (seq - x.seq).toNat)) l.replay
     let y : TxPacket := { header := 0, words := [], seq := 8, resends := 3 }
     a.linkRuns = true ∧ a.portUp side = true ∧ left = [x, y] ∧ x.seq ≠ y.seq ∧ x.resends < 4 ∧ x.words.length + 2 ≤
       l.held ∧ l.held < x.words.length + 2 + (y.words.length + 2)) ∧
    (let s : State := { linked with
         up := { linked.up with bulk := { linked.up.bulk with
             held := 3
             replay := [{ header := 0, words := [], seq := 7, resends := 4 }, { header := 0, words := [], seq := 8, resends := 3 }] } } }
     let dt : Nat := 3
     let a : State := s.elapse dt
     let side : Side := .up
     let urgent : Bool := false
     let l : Lane := (a.port side).lane urgent
     let seq : BitVec 12 := 6
     let x : TxPacket := { header := 0, words := [], seq := 7, resends := 4 }
     let left : List TxPacket := List.filter (fun (x : TxPacket) => decide (2048 ≤ (seq - x.seq).toNat)) l.replay
     let r : List TxPacket := [{ header := 0, words := [], seq := 8, resends := 3 }]
     a.linkRuns = true ∧ a.portUp side = true ∧ left = x :: r ∧ 4 ≤ x.resends) ∧
    (let s : State := { linked with
         up := { linked.up with bulk := { linked.up.bulk with replay := [{ header := 0, words := [], seq := 4000 }] } } }
     let dt : Nat := 3
     let a : State := s.elapse dt
     let side : Side := .up
     let urgent : Bool := false
     let l : Lane := (a.port side).lane urgent
     a.linkRuns = true ∧ a.portUp side = true ∧ (∀ (y : TxPacket), y ∈ l.replay → y.owed = false)) ∧
    (let s : State := { linked with
         up := { linked.up with bulk := { linked.up.bulk with freed := 1, reported := 0 } } }
     let dt : Nat := 3
     let a : State := s.elapse dt
     let side : Side := .up
     let urgent : Bool := false
     let l : Lane := (a.port side).lane urgent
     a.linkRuns = true ∧ a.portUp side = true ∧ l.freed ≠ l.reported) ∧
    (let s : State := { linked with up := { linked.up with bulk := { linked.up.bulk with ackDue := 1 } } }
     let dt : Nat := 3
     let a : State := s.elapse dt
     let side : Side := .up
     let urgent : Bool := false
     let l : Lane := (a.port side).lane urgent
     a.linkRuns = true ∧ a.portUp side = true ∧ 0 < l.ackDue) ∧
    (let s : State := { linked with
         up := { linked.up with
             bulk := { linked.up.bulk with
                 held := 2
                 replay := [{ header := 0, words := [], seq := 4000, resends := 3, sentAt := z.clk }] } } }
     let dt : Nat := 1000
     let a : State := s.elapse dt
     let side : Side := .up
     let urgent : Bool := false
     let l : Lane := (a.port side).lane urgent
     let x : TxPacket := { header := 0, words := [], seq := 4000, resends := 3, sentAt := z.clk }
     a.linkRuns = true ∧ a.portUp side = true ∧ l.replay = [x] ∧ x.sentAt + 1000 ≤ a.clk ∧ x.resends < 4 ∧
       x.words.length + 2 ≤ l.held) ∧
    (let s : State := { linked with
         up := { linked.up with
             bulk := { linked.up.bulk with
                 held := 1
                 replay := [{ header := 0, words := [], seq := 4000, resends := 3, sentAt := z.clk }] } } }
     let dt : Nat := 1000
     let a : State := s.elapse dt
     let side : Side := .up
     let urgent : Bool := false
     let l : Lane := (a.port side).lane urgent
     let x : TxPacket := { header := 0, words := [], seq := 4000, resends := 3, sentAt := z.clk }
     a.linkRuns = true ∧ a.portUp side = true ∧ l.replay = [x] ∧ x.sentAt + 1000 ≤ a.clk ∧ x.resends < 4 ∧ l.held <
       x.words.length + 2) := by
  refine ⟨?_, ?_, ?_, ?_, ?_, ?_, ?_, ?_, ?_, ?_, ?_, ?_⟩ <;> decide +kernel

theorem test_PortsTrain_witness :
    (let s : State := { linked with up := { z.up with state := .training 1 } }
     let dt : Nat := 3
     let a : State := s.elapse dt
     let side : Side := .up
     a.linkRuns = true ∧ (a.port side).state = PortState.training 1) ∧
    (let s : State := { linked with up := { z.up with state := .training 2 } }
     let dt : Nat := 3
     let a : State := s.elapse dt
     let side : Side := .up
     a.linkRuns = true ∧ (a.port side).state = PortState.training 2) ∧
    (let s : State := { linked with down := { z.down with state := .training 2 } }
     let dt : Nat := 3
     let a : State := s.elapse dt
     let side : Side := .down
     a.linkRuns = true ∧ (a.port side).state = PortState.training 2) ∧
    (let s : State := { linked with up := { z.up with state := .training 3 } }
     let dt : Nat := 3
     let a : State := s.elapse dt
     a.linkRuns = true ∧ (a.port Side.up).state = PortState.training 3) ∧
    (let s : State := { linked with down := { z.down with state := .training 3 } }
     let dt : Nat := 3
     let a : State := s.elapse dt
     a.linkRuns = true ∧ (a.port Side.down).state = PortState.training 3) ∧
    (let s : State := { linked with down := { z.down with state := .held, holdAt := z.clk } }
     let dt : Nat := 100000000
     let a : State := s.elapse dt
     let side : Side := .down
     a.linkRuns = true ∧ (a.port side).state = PortState.held ∧ (a.port side).holdAt + 100000000 ≤ a.clk) := by
  refine ⟨?_, ?_, ?_, ?_, ?_, ?_⟩ <;> decide +kernel

theorem test_PortsAreLost_witness :
    (let s : State := linked
     let dt : Nat := 3
     let a : State := s.elapse dt
     a.linkRuns = true ∧ a.up.state = PortState.up) ∧
    (let s : State := { linked with up := { linked.up with symErrs := List.replicate 16 z.clk } }
     let dt : Nat := 999
     let a : State := s.elapse dt
     a.linkRuns = true ∧ a.up.state = PortState.up) ∧
    (let s : State := { linked with up := { linked.up with symErrs := List.replicate 16 z.clk } }
     let dt : Nat := 1000
     let a : State := s.elapse dt
     a.linkRuns = true ∧ a.up.state = PortState.up) ∧
    (let s : State := { linked with up := { z.up with state := .retraining 2, trainAt := z.clk } }
     let dt : Nat := 100000
     let a : State := s.elapse dt
     let n : Nat := 2
     a.linkRuns = true ∧ a.up.state = PortState.retraining n ∧ a.up.trainAt + 100000 ≤ a.clk) ∧
    (let s : State := { linked with up := { linked.up with symErrs := List.replicate 16 z.clk } }
     let dt : Nat := 3
     let a : State := s.elapse dt
     a.linkRuns = true ∧ a.up.state = PortState.up ∧ (16 ≤ (List.filter (fun (x : Nat) => decide (a.clk < x + 1000))
       a.up.symErrs).length)) ∧
    (let s : State := linked
     let dt : Nat := 3
     let a : State := s.elapse dt
     a.linkRuns = true ∧ a.up.state = PortState.up ∧ ((List.filter (fun (x : Nat) => decide (a.clk < x + 1000))
       a.up.symErrs).length < 16)) ∧
    (let s : State := linked
     let dt : Nat := 3
     let a : State := s.elapse dt
     a.linkRuns = true ∧ a.up.state = PortState.up ∧ a.down.state = PortState.up) ∧
    (let s : State := linked
     let dt : Nat := 3
     let a : State := s.elapse dt
     a.linkRuns = true ∧ a.dev.master = false ∧ a.up.state = PortState.up ∧ a.down.state = PortState.up) := by
  refine ⟨?_, ?_, ?_, ?_, ?_, ?_, ?_, ?_⟩ <;> decide +kernel

theorem test_PingAnswersTheState_witness :
    (let s : State := live .fault
     let dt : Nat := 3
     let r : Request := rq []
     let a : State := s.hears dt 0 r
     (s.elapse dt).turn 0 r = true ∧ Takes a r true true true 0 0) := by
  decide +kernel

theorem test_ReadingRequestsAnswer_witness :
    (let s : State := live .fault
     let dt : Nat := 3
     let r : Request := rq []
     let a : State := s.hears dt 2 r
     (s.elapse dt).turn 2 r = true ∧ Takes a r false false true 0 0) ∧
    (let s : State := live .fault
     let dt : Nat := 3
     let r : Request := rq (List.replicate 16 5)
     let a : State := s.hears dt 3 r
     (s.elapse dt).turn 3 r = true ∧ Takes a r true false true 0 16) ∧
    (let s : State := live .fault
     let dt : Nat := 3
     let r : Request := rq [0, 4, 11]
     let a : State := s.hears dt 4 r
     (s.elapse dt).turn 4 r = true ∧ Takes a r true false true 1 12 ∧ ((r.words.all fun (w : Word) => decide (fld w
       3 0 ≤ 11)) = true)) ∧
    (let s : State := live .fault
     let dt : Nat := 3
     let r : Request := rq [0x12, 0x10240]
     let a : State := s.hears dt 6 r
     (s.elapse dt).turn 6 r = true ∧ Takes a r false false true 1 32 ∧ ((r.words.all fun (w : Word) => (paramFields
       (fld w 15 0)).isSome && (!bit w 16 || staged (fld w 15 0))) = true)) := by
  refine ⟨?_, ?_, ?_, ?_⟩ <;> decide +kernel

theorem test_DeviceTakesItsAddress_witness :
    (let s : State := live .unaddressed
     let dt : Nat := 3
     let r : Request := { rq [32] with dst := 63, src := 1 }
     let x : Nat := fld (arg r 0) 5 0
     let a : State := s.hears dt 1 r
     (s.elapse dt).turn 1 r = true ∧ Takes a r false true false 1 1 ∧ fld (arg r 0) 47 40 = 0 ∧ a.dev.code =
       Code.unaddressed ∧ r.dst = 63 ∧ 1 ≤ x ∧ x ≤ 32 ∧ (r.src = if x = 1 then 0 else 1)) ∧
    (let s : State := live .unaddressed
     let dt : Nat := 3
     let r : Request := { rq [1] with dst := 63 }
     let x : Nat := fld (arg r 0) 5 0
     let a : State := s.hears dt 1 r
     (s.elapse dt).turn 1 r = true ∧ Takes a r false true false 1 1 ∧ fld (arg r 0) 47 40 = 0 ∧ a.dev.code =
       Code.unaddressed ∧ r.dst = 63 ∧ 1 ≤ x ∧ x ≤ 32 ∧ (r.src = if x = 1 then 0 else 1)) ∧
    (let s : State := { live .idle with enumRun := none }
     let dt : Nat := 3
     let r : Request := { rq [0x020000000000] with dst := 62 }
     let x : Nat := fld (arg r 0) 5 0
     let a : State := s.hears dt 1 r
     (s.elapse dt).turn 1 r = true ∧ Takes a r false true false 1 1 ∧ fld (arg r 0) 47 40 = 2 ∧ (a.dev.code =
       Code.idle ∨ a.dev.code = Code.unaddressed) ∧ r.dst = 62 ∧ x = 0 ∧ a.enumRun = none) ∧
    (let s : State := { linked with
         dev := { linked.dev with addr := 1, master := true }
         enumRun := none
         hnd := { z.hnd with rs := { z.hnd.rs with fresh := 0x3FFF } } }
     let dt : Nat := 3
     let r : Request := { rq [0x010000000000] with dst := 1 }
     let a : State := s.hears dt 1 r
     (s.elapse dt).turn 1 r = true ∧ Takes a r false true false 1 1 ∧ fld (arg r 0) 47 40 = 1 ∧ fld (arg r 0) 5 0 =
       0 ∧ a.dev.master = true ∧ a.dev.addr = 1 ∧ a.dev.code = Code.idle ∧ a.enumRun = none ∧ r.src = 0 ∧ r.dst = 1
       ∧ a.hnd.rs.fresh < 16384 ∧ a.down.state = PortState.up ∧ r.port = Side.up) ∧
    (let s : State := { linked with
         dev := { linked.dev with addr := 1, master := true }
         enumRun := some { handle := 0x3F00, dst := 0, k := 2, startAt := 0, phase := .retry, sentAt := z.clk } }
     let dt : Nat := 100000
     let a : State := s.elapse dt
     let run : EnumRun := { handle := 0x3F00, dst := 0, k := 2, startAt := 0, phase := .retry, sentAt := z.clk }
     a.enumRun = some run ∧ a.answers = true ∧ a.dev.addr = 1 ∧ (run.phase = EnumPhase.retry ∨ run.phase =
       EnumPhase.assigning) ∧ run.sentAt + 100000 ≤ a.clk ∧ a.down.state = PortState.up) ∧
    (let s : State := { linked with
         dev := { linked.dev with addr := 1, master := true, chainOk := true }
         par := { z.par with work := [] }
         stage := {}
         enumRun := some { handle := 0x3F00, dst := 0, k := 2, startAt := z.clk, phase := .retry, sentAt := 0 } }
     let dt : Nat := 200000000
     let a : State := s.elapse dt
     let run : EnumRun := { handle := 0x3F00, dst := 0, k := 2, startAt := z.clk, phase := .retry, sentAt := 0 }
     a.enumRun = some run ∧ a.answers = true ∧ a.dev.addr = 1 ∧ (run.phase = EnumPhase.retry ∨ run.phase =
       EnumPhase.assigning) ∧ run.sentAt + 100000 ≤ a.clk ∧ a.down.state = PortState.up) ∧
    (let s : State := { linked with
         dev := { linked.dev with addr := 1, master := true }
         stage := {}
         par := { z.par with work := [] }
         enumRun := some { handle := 0x3F00, dst := 0, k := 2, startAt := 0, phase := .retry, sentAt := 0 } }
     let dt : Nat := z.pf 50 13 0 * 100000
     let a : State := s.elapse dt
     let run : EnumRun := { handle := 0x3F00, dst := 0, k := 2, startAt := 0, phase := .retry, sentAt := 0 }
     let n : Nat := 1
     let stop : Nat := 2
     let left : Nat := 5
     let best : Option Int := none
     a.enumRun = some run ∧ a.answers = true ∧ a.dev.addr = 1 ∧ ((run.phase = EnumPhase.retry ∨ run.phase =
       EnumPhase.assigning) ∧ n = run.k - 1 ∧ stop = run.k ∨ run.phase = EnumPhase.echo left best ∧ n = run.k ∧ stop
       = run.k + 1) ∧ run.startAt + a.pf 50 13 0 * 100000 ≤ a.clk ∧ a.tablesWf = true) ∧
    (let s : State := { linked with
         dev := { linked.dev with addr := 1, master := true }
         stage := {}
         par := { z.par with work := [] }
         enumRun := some { handle := 0x3F00, dst := 0, k := 2, startAt := 0, phase := .assigning, sentAt := 0 } }
     let dt : Nat := z.pf 50 13 0 * 100000
     let a : State := s.elapse dt
     let run : EnumRun := { handle := 0x3F00, dst := 0, k := 2, startAt := 0, phase := .assigning, sentAt := 0 }
     let n : Nat := 1
     let stop : Nat := 2
     let left : Nat := 5
     let best : Option Int := none
     a.enumRun = some run ∧ a.answers = true ∧ a.dev.addr = 1 ∧ ((run.phase = EnumPhase.retry ∨ run.phase =
       EnumPhase.assigning) ∧ n = run.k - 1 ∧ stop = run.k ∨ run.phase = EnumPhase.echo left best ∧ n = run.k ∧ stop
       = run.k + 1) ∧ run.startAt + a.pf 50 13 0 * 100000 ≤ a.clk ∧ a.tablesWf = true) ∧
    (let s : State := { linked with
         dev := { linked.dev with addr := 1, master := true }
         stage := {}
         par := { z.par with work := [] }
         enumRun := some { handle := 0x3F00, dst := 0, k := 2, startAt := 0, phase := .echo 5 none, sentAt := 0 } }
     let dt : Nat := z.pf 50 13 0 * 100000
     let a : State := s.elapse dt
     let run : EnumRun := { handle := 0x3F00, dst := 0, k := 2, startAt := 0, phase := .echo 5 none, sentAt := 0 }
     let n : Nat := 2
     let stop : Nat := 3
     let left : Nat := 5
     let best : Option Int := none
     a.enumRun = some run ∧ a.answers = true ∧ a.dev.addr = 1 ∧ ((run.phase = EnumPhase.retry ∨ run.phase =
       EnumPhase.assigning) ∧ n = run.k - 1 ∧ stop = run.k ∨ run.phase = EnumPhase.echo left best ∧ n = run.k ∧ stop
       = run.k + 1) ∧ run.startAt + a.pf 50 13 0 * 100000 ≤ a.clk ∧ a.tablesWf = true) ∧
    (let s : State := { linked with
         dev := { linked.dev with addr := 1, master := true, chainOk := false, heldStarts := [(rq [1], 0)] }
         stage := {}
         par := { z.par with work := [] }
         enumRun := some { handle := 0x3F00, dst := 0, k := 2, startAt := 0, phase := .pinging, sentAt := 0 } }
     let dt : Nat := z.pf 50 13 0 * 100000
     let a : State := s.elapse dt
     let run : EnumRun := { handle := 0x3F00, dst := 0, k := 2, startAt := 0, phase := .pinging, sentAt := 0 }
     let r : Request := rq [1]
     let at_ : Nat := 0
     a.enumRun = some run ∧ a.answers = true ∧ a.dev.addr = 1 ∧ run.phase = EnumPhase.pinging ∧ a.dev.chainOk =
       false ∧ a.dev.heldStarts = [(r, at_)] ∧ at_ + a.pf 50 13 0 * 100000 ≤ a.clk) ∧
    (let s : State := { linked with
         dev := { linked.dev with addr := 1, master := true }
         enumRun := some { handle := 0x3F00, dst := 0, k := 33, startAt := 0, phase := .pinging, sentAt := z.clk } }
     let dt : Nat := 100000
     let a : State := s.elapse dt
     let run : EnumRun := {
         handle := 0x3F00
         dst := 0
         k := 33
         startAt := 0
         phase := .pinging
         sentAt := z.clk }
     a.enumRun = some run ∧ a.answers = true ∧ a.dev.addr = 1 ∧ run.phase = EnumPhase.pinging ∧ run.sentAt + 100000
       ≤ a.clk ∧ a.tablesWf = true) ∧
    (let s : State := { linked with
         dev := { linked.dev with addr := 1, master := true }
         stage := {}
         par := { z.par with work := [] }
         enumRun := some { handle := 0x3F00, dst := 0, k := 2, startAt := 0, phase := .assigning, sentAt := 0 }
         own := [{ kind := .assign 2, tag := 9, dst := 63, opc := 1, atClk := 0 }] }
     let dt : Nat := 3
     let a : State := s.elapse dt
     let p : Packet := { header := mkHeader 1 2 1 9 1 true false false, words := [0x180000000000] }
     let o : Own := { kind := .assign 2, tag := 9, dst := 63, opc := 1, atClk := 0 }
     let k : Addr := 2
     let run : EnumRun := { handle := 0x3F00, dst := 0, k := 2, startAt := 0, phase := .assigning, sentAt := 0 }
     a.enumRun = some run ∧ a.answers = true ∧ a.dev.addr = 1 ∧ a.own = [o] ∧ o.kind = OwnKind.assign k ∧ o.tag =
       hTag p.header ∧ o.opc = 1 ∧ hOpc p.header = 1 ∧ hReply p.header = true ∧ fld (p.words.getD 0 0) 47 40 = 24 ∧
       run.k = BitVec.toNat k ∧ run.phase = EnumPhase.assigning) ∧
    (let s : State := { linked with
         dev := { linked.dev with addr := 1, master := true }
         enumRun := some { handle := 0x3F00, dst := 0, k := 2, startAt := 0, phase := .assigning, sentAt := 0 }
         own := [{ kind := .assign 2, tag := 9, dst := 63, opc := 1, atClk := 0 }] }
     let dt : Nat := 3
     let a : State := s.elapse dt
     let p : Packet := { header := mkHeader 1 2 1 9 1 true false false, words := [0] }
     let o : Own := { kind := .assign 2, tag := 9, dst := 63, opc := 1, atClk := 0 }
     let k : Addr := 2
     let run : EnumRun := { handle := 0x3F00, dst := 0, k := 2, startAt := 0, phase := .assigning, sentAt := 0 }
     a.enumRun = some run ∧ a.answers = true ∧ a.dev.addr = 1 ∧ a.own = [o] ∧ o.kind = OwnKind.assign k ∧ o.tag =
       hTag p.header ∧ o.opc = 1 ∧ hOpc p.header = 1 ∧ hReply p.header = true ∧ fld (p.words.getD 0 0) 47 40 = 0 ∧
       run.k = BitVec.toNat k ∧ run.phase = EnumPhase.assigning ∧ k ≠ 1 ∧ k ≠ 0 ∧ a.down.state = PortState.up) ∧
    (let s : State := { linked with own := [] }
     let dt : Nat := 3
     let a : State := s.elapse dt
     let p : Packet := { header := mkHeader 1 2 1 9 1 true false false, words := [0] }
     a.answers = true ∧ a.own = [] ∧ hReply p.header = true) ∧
    (let s : State := { linked with
         dev := { linked.dev with addr := 1, master := true, echoAt := z.clk }
         enumRun := none
         par := { z.par with work := [(0x34, 2)] } }
     let dt : Nat := 100000000
     let a : State := s.elapse dt
     a.dev.master = true ∧ a.dev.addr = 1 ∧ a.answers = true ∧ a.enumRun = none ∧ 2 ≤ a.chainLength ∧ a.pf 48 13 0 ≠
       0 ∧ a.dev.echoAt + a.pf 48 13 0 * 100000 ≤ a.clk) := by
  refine ⟨?_, ?_, ?_, ?_, ?_, ?_, ?_, ?_, ?_, ?_, ?_, ?_, ?_, ?_, ?_⟩ <;> decide +kernel

theorem test_RegistersAreWritten_witness :
    (let s : State := live .idle
     let dt : Nat := 3
     let a : State := s.elapse dt
     a.svcAlive = true) ∧
    (let s : State := live .idle
     let dt : Nat := 3
     let a : State := s.elapse dt
     let addr : BitVec 4 := 0
     a.svcAlive = true ∧ writable addr.toNat = false) ∧
    (let s : State := live .idle
     let dt : Nat := 3
     let a : State := s.elapse dt
     a.svcAlive = true ∧ a.dev.dead ≠ some Death.hung) ∧
    (let s : State := live .idle
     let dt : Nat := 3
     let a : State := s.elapse dt
     a.svcAlive = true ∧ a.par.seenAt ≠ a.clk) ∧
    (let s : State := live .idle
     let dt : Nat := 3
     let a : State := s.elapse dt
     a.svcAlive = true ∧ a.regs.mbSince = false) ∧
    (let s : State := { live .idle with regs := { z.regs with mbSince := true } }
     let dt : Nat := 3
     let a : State := s.elapse dt
     a.svcAlive = true ∧ a.regs.mbSince = true) ∧
    (let s : State := live .idle
     let dt : Nat := 3
     let a : State := s.elapse dt
     a.answers = true) ∧
    (let s : State := live .idle
     let dt : Nat := 3
     let r : Request := rq [11, 7]
     let a : State := s.hears dt 5 r
     let w : Word := 7
     (s.elapse dt).turn 5 r = true ∧ Takes a r false false true 2 24 ∧ r.words = [11, w]) := by
  refine ⟨?_, ?_, ?_, ?_, ?_, ?_, ?_, ?_⟩ <;> decide +kernel

theorem test_ControlForcesAndResets_witness :
    (let s : State := live .sorting
     let dt : Nat := 3
     let a : State := s.elapse dt
     a.svcAlive = true ∧ a.dev.dead = none ∧ a.dev.code ≠ Code.fault) ∧
    (let s : State := live .idle
     let dt : Nat := 3
     let a : State := s.elapse dt
     a.svcAlive = true ∧ a.dev.dead = none ∧ (a.dev.code = Code.idle ∨ a.dev.code = Code.fault)) ∧
    (let s : State := live .fault
     let dt : Nat := 3
     let a : State := s.elapse dt
     a.svcAlive = true ∧ a.dev.dead = none ∧ (a.dev.code = Code.idle ∨ a.dev.code = Code.fault)) ∧
    (let s : State := live .sorting
     let dt : Nat := 3
     let a : State := s.elapse dt
     a.svcAlive = true ∧ a.dev.dead = none ∧ a.dev.code ≠ Code.idle ∧ a.dev.code ≠ Code.fault) ∧
    (let s : State := live .sorting
     let dt : Nat := 3
     let a : State := s.elapse dt
     a.svcAlive = true ∧ a.dev.dead = none) := by
  refine ⟨?_, ?_, ?_, ?_, ?_⟩ <;> decide +kernel

theorem test_WatchTokensFollow_witness :
    (let s : State := { live .idle with
         watch := { z.watch with enable := true, period := 10, next := 9, fedAt := z.time.core }
         regs := { z.regs with svcOnly := false } }
     let dt : Nat := 500000
     let a : State := s.elapse dt
     let token : BitVec 8 := 9
     a.svcAlive = true ∧ a.dev.dead = none ∧ a.watch.enable = true ∧ token = a.watch.next ∧ a.watch.period * 100000
       ≤ 2 * (a.time.core - a.watch.fedAt) ∧ a.time.core < a.watch.fedAt + a.watch.period * 100000 ∧ a.answers =
       true ∧ a.regs.svcOnly = false) ∧
    (let s : State := { live .idle with
         watch := { z.watch with enable := true, period := 10, next := 9, fedAt := z.time.core }
         regs := { z.regs with svcOnly := false } }
     let dt : Nat := 999999
     let a : State := s.elapse dt
     let token : BitVec 8 := 9
     a.svcAlive = true ∧ a.dev.dead = none ∧ a.watch.enable = true ∧ token = a.watch.next ∧ a.watch.period * 100000
       ≤ 2 * (a.time.core - a.watch.fedAt) ∧ a.time.core < a.watch.fedAt + a.watch.period * 100000 ∧ a.answers =
       true ∧ a.regs.svcOnly = false) ∧
    (let s : State := { live .idle with
         watch := { z.watch with enable := true, period := 10, next := 9, fedAt := z.time.core } }
     let dt : Nat := 500000
     let a : State := s.elapse dt
     let token : BitVec 8 := 9
     a.svcAlive = true ∧ a.dev.dead = none ∧ a.watch.enable = true ∧ token = a.watch.next ∧ a.watch.period * 100000
       ≤ 2 * (a.time.core - a.watch.fedAt) ∧ a.time.core < a.watch.fedAt + a.watch.period * 100000 ∧ (∀ (x : Nat ×
       Word), x ∈ a.linkNow → x.fst ≠ 9)) ∧
    (let s : State := { live .idle with
         watch := { z.watch with enable := true, period := 10, next := 9, fedAt := z.time.core } }
     let dt : Nat := 999999
     let a : State := s.elapse dt
     let token : BitVec 8 := 9
     a.svcAlive = true ∧ a.dev.dead = none ∧ a.watch.enable = true ∧ token = a.watch.next ∧ a.watch.period * 100000
       ≤ 2 * (a.time.core - a.watch.fedAt) ∧ a.time.core < a.watch.fedAt + a.watch.period * 100000 ∧ (∀ (x : Nat ×
       Word), x ∈ a.linkNow → x.fst ≠ 9)) ∧
    (let s : State := { live .idle with regs := { z.regs with linkAt := z.clk, linkWrote := [(9, 7)] } }
     let dt : Nat := 0
     let a : State := s.elapse dt
     let w : Word := 7
     a.svcAlive = true ∧ a.dev.dead = none ∧ a.linkNow = [(9, w)]) ∧
    (let m : Nat := 0
     let n : Nat := 255
     m < n ∧ n < 256) ∧
    (let m : Nat := 25
     let n : Nat := 125
     m < n ∧ n < 256) ∧
    (let s : State := { live .idle with watch := { z.watch with enable := false, expired := false } }
     let dt : Nat := 3
     let a : State := s.elapse dt
     let period : BitVec 10 := 1000
     a.svcAlive = true ∧ a.dev.dead = none ∧ a.watch.enable = false ∧ a.watch.expired = false ∧ 10 ≤ period.toNat ∧
       period.toNat ≤ 1000 ∧ (∀ (x : Nat × Word), x ∈ a.linkNow → x.fst ≠ 9)) ∧
    (let s : State := { live .idle with watch := { z.watch with enable := false, expired := false } }
     let dt : Nat := 3
     let a : State := s.elapse dt
     let period : BitVec 10 := 10
     a.svcAlive = true ∧ a.dev.dead = none ∧ a.watch.enable = false ∧ a.watch.expired = false ∧ 10 ≤ period.toNat ∧
       period.toNat ≤ 1000 ∧ (∀ (x : Nat × Word), x ∈ a.linkNow → x.fst ≠ 9)) := by
  refine ⟨?_, ?_, ?_, ?_, ?_, ?_, ?_, ?_, ?_⟩ <;> decide +kernel

theorem test_WatchdogExpires_witness :
    (let s : State := { live .sorting with watch := { z.watch with enable := true, next := 9 } }
     let dt : Nat := 3
     let a : State := s.elapse dt
     let alone : Prop := ∀ (x : Nat × Word), x ∈ a.linkNow → x.fst ≠ 9
     let token : BitVec 8 := 8
     a.svcAlive = true ∧ a.dev.dead ≠ some Death.hung ∧ alone ∧ a.watch.enable = true ∧ token ≠ a.watch.next) ∧
    (let s : State := { live .sorting with
         watch := { z.watch with enable := true, next := 9, fedAt := z.clk, period := 10 } }
     let dt : Nat := 499999
     let a : State := s.elapse dt
     let alone : Prop := ∀ (x : Nat × Word), x ∈ a.linkNow → x.fst ≠ 9
     a.svcAlive = true ∧ a.dev.dead ≠ some Death.hung ∧ alone ∧ a.watch.enable = true ∧ 2 * (a.time.core -
       a.watch.fedAt) < a.watch.period * 100000) ∧
    (let s : State := { live .sorting with
         watch := { z.watch with enable := true, next := 9, fedAt := z.clk, period := 10 } }
     let dt : Nat := 1000000
     let a : State := s.elapse dt
     a.watch.enable = true ∧ a.clockRuns = true ∧ a.watch.fedAt + a.watch.period * 100000 ≤ a.time.core) ∧
    (let s : State := { live .sorting with
         watch := { z.watch with enable := true, next := 9, fedAt := z.clk, period := 10 } }
     let dt : Nat := 999999
     let a : State := s.elapse dt
     a.time.core < a.watch.fedAt + a.watch.period * 100000) ∧
    (let s : State := live .sorting
     let dt : Nat := 3
     let a : State := s.elapse dt
     let alone : Prop := ∀ (x : Nat × Word), x ∈ a.linkNow → x.fst ≠ 9
     a.svcAlive = true ∧ a.dev.dead = none ∧ alone) ∧
    (let s : State := { (live .idle).modSw 5 fun c => { c with st := .off } with
         kennel := { z.kennel with active := true, queue := [5, 6], lastAt := z.clk }
         d2d := { z.d2d with ferruleHeard := some 0, ferruleAllOff := false }
         par := { z.par with boot := [] } }
     let dt : Nat := 5000000
     let a : State := s.elapse dt
     let n : Sw := 5
     let r : List Sw := [6]
     a.kennel.queue = n :: r ∧ a.kennel.active = true ∧ a.d2d.ferruleHeard ≠ none ∧ a.d2d.ferruleAllOff = false ∧
       a.kennel.lastAt + a.bootf 35 9 0 * 100000 ≤ a.clk ∧ a.sw.ch[n].st = SwState.off) := by
  refine ⟨?_, ?_, ?_, ?_, ?_, ?_⟩ <;> decide +kernel

theorem test_ParametersAreSet_witness :
    (let s : State := live .idle
     let dt : Nat := 3
     let r : Request := rq [0x12, 7]
     let id : Nat := 0x12
     let v : Word := 7
     let fs : List Field := (paramFields 0x12).getD []
     let a : State := s.hears dt 7 r
     (s.elapse dt).turn 7 r = true ∧ id ∈ [18, 48, 49, 50, 56] ∧ r.words = [word id, v] ∧ paramFields id = some fs ∧
       badField fs v = none ∧ Takes a r false true false 2 32 ∧ a.tablesWf = true) ∧
    (let s : State := live .idle
     let dt : Nat := 3
     let r : Request := { rq [0x38, 1] with dst := 62 }
     let id : Nat := 0x38
     let v : Word := 1
     let fs : List Field := (paramFields 0x38).getD []
     let a : State := s.hears dt 7 r
     (s.elapse dt).turn 7 r = true ∧ id ∈ [18, 48, 49, 50, 56] ∧ r.words = [word id, v] ∧ paramFields id = some fs ∧
       badField fs v = none ∧ Takes a r false true false 2 32 ∧ a.tablesWf = true) ∧
    (let s : State := { live .idle with
         par := { z.par with work := [] }
         stage := {} }
     let dt : Nat := 3
     let r : Request := { rq [word (0x30 + if false then 2 ^ 17 else 0), 100] with src := 1 }
     let id : Nat := 0x30
     let persist : Bool := false
     let v : Word := 100
     let one : Nat → Bool → Word → Setting := fun (id : Nat) (persist : Bool) (v : Word) => { k := 0, id := id, stage := false, persist := persist, value := v : Setting }
     let pair : Nat → Bool → Word → List Word := fun (id : Nat) (persist : Bool) (v : Word) => [word (id + if persist = true then 2 ^ 17 else 0), v]
     let x : Setting := one id persist v
     let fs : List Field := (paramFields 0x30).getD []
     let a : State := s.hears dt 7 r
     let plain : State → Setting → Prop := fun (a : State) (x : Setting) => a.pairRamps x = false ∧ ¬(4544 ≤ x.id ∧ x.id < 4672) ∧ x.erases = false ∧ a.tablesWf = true
     (s.elapse dt).turn 7 r = true ∧ Takes a r false true false 2 32 ∧ r.words = pair id persist v ∧ id < 65536 ∧
       paramFields id = some fs ∧ (masterOnly id = true → r.src = 1) ∧ a.pairState x = none ∧ a.pairBad [x] x = none
       ∧ a.mapBad [x] = none ∧ plain a x ∧ x.stores = false) ∧
    (let s : State := { live .idle with
         par := { z.par with work := [] }
         stage := {} }
     let dt : Nat := 3
     let r : Request := { rq [word (0x35 + if true then 2 ^ 17 else 0), 0] with src := 1 }
     let id : Nat := 0x35
     let persist : Bool := true
     let v : Word := 0
     let one : Nat → Bool → Word → Setting := fun (id : Nat) (persist : Bool) (v : Word) => { k := 0, id := id, stage := false, persist := persist, value := v : Setting }
     let pair : Nat → Bool → Word → List Word := fun (id : Nat) (persist : Bool) (v : Word) => [word (id + if persist = true then 2 ^ 17 else 0), v]
     let x : Setting := one id persist v
     let fs : List Field := (paramFields 0x35).getD []
     let a : State := s.hears dt 7 r
     let plain : State → Setting → Prop := fun (a : State) (x : Setting) => a.pairRamps x = false ∧ ¬(4544 ≤ x.id ∧ x.id < 4672) ∧ x.erases = false ∧ a.tablesWf = true
     (s.elapse dt).turn 7 r = true ∧ Takes a r false true false 2 32 ∧ r.words = pair id persist v ∧ id < 65536 ∧
       paramFields id = some fs ∧ (masterOnly id = true → r.src = 1) ∧ a.pairState x = none ∧ a.pairBad [x] x = none
       ∧ a.mapBad [x] = none ∧ plain a x ∧ x.stores = false) ∧
    (let s : State := { live .idle with
         par := { z.par with work := [] }
         stage := {} }
     let dt : Nat := 3
     let r : Request := { rq [word (0x30 + if true then 2 ^ 17 else 0), 100] with src := 1 }
     let id : Nat := 0x30
     let persist : Bool := true
     let v : Word := 100
     let one : Nat → Bool → Word → Setting := fun (id : Nat) (persist : Bool) (v : Word) => { k := 0, id := id, stage := false, persist := persist, value := v : Setting }
     let pair : Nat → Bool → Word → List Word := fun (id : Nat) (persist : Bool) (v : Word) => [word (id + if persist = true then 2 ^ 17 else 0), v]
     let x : Setting := one id persist v
     let fs : List Field := (paramFields 0x30).getD []
     let a : State := s.hears dt 7 r
     let plain : State → Setting → Prop := fun (a : State) (x : Setting) => a.pairRamps x = false ∧ ¬(4544 ≤ x.id ∧ x.id < 4672) ∧ x.erases = false ∧ a.tablesWf = true
     (s.elapse dt).turn 7 r = true ∧ Takes a r false true false 2 32 ∧ r.words = pair id persist v ∧ id < 65536 ∧
       paramFields id = some fs ∧ (masterOnly id = true → r.src = 1) ∧ a.pairState x = none ∧ a.pairBad [x] x = none
       ∧ a.mapBad [x] = none ∧ plain a x ∧ x.stores = true) ∧
    (let s : State := { live .idle with
         par := { z.par with work := [] }
         stage := {} }
     let dt : Nat := 3
     let r : Request := { rq [word (0x20 + if false then 2 ^ 17 else 0), paramReset 0x20] with src := 1 }
     let id : Nat := 0x20
     let persist : Bool := false
     let v : Word := paramReset 0x20
     let one : Nat → Bool → Word → Setting := fun (id : Nat) (persist : Bool) (v : Word) => { k := 0, id := id, stage := false, persist := persist, value := v : Setting }
     let pair : Nat → Bool → Word → List Word := fun (id : Nat) (persist : Bool) (v : Word) => [word (id + if persist = true then 2 ^ 17 else 0), v]
     let x : Setting := one id persist v
     let fs : List Field := (paramFields 0x20).getD []
     let a : State := s.hears dt 7 r
     let plain : State → Setting → Prop := fun (a : State) (x : Setting) => a.pairRamps x = false ∧ ¬(4544 ≤ x.id ∧ x.id < 4672) ∧ x.erases = false ∧ a.tablesWf = true
     (s.elapse dt).turn 7 r = true ∧ Takes a r false true false 2 32 ∧ r.words = pair id persist v ∧ id < 65536 ∧
       paramFields id = some fs ∧ (masterOnly id = true → r.src = 1) ∧ a.pairState x = none ∧ a.pairBad [x] x = none
       ∧ a.mapBad [x] = none ∧ plain a x ∧ x.stores = true) ∧
    (let s : State := live .idle
     let dt : Nat := 3
     let r : Request := rq [0x46, 1]
     let a : State := s.hears dt 7 r
     (s.elapse dt).turn 7 r = true ∧ r.words = [70, 1] ∧ a.dev.code = Code.idle ∧ Takes a r false true false 2 32) ∧
    (let s : State := { live .idle with time := { z.time with source := 3 } }
     let dt : Nat := 3
     let r : Request := { rq [0x107, 5, 0x108, 9] with src := 1 }
     let era : BitVec 16 := 9
     let x : Word := 5
     let a : State := s.hears dt 7 r
     (s.elapse dt).turn 7 r = true ∧ r.words = [263, x, 264, word era.toNat] ∧ r.src = 1 ∧ a.time.source ≠ 1 ∧ Takes
       a r false true false 2 32 ∧ a.tablesWf = true) ∧
    (let s : State := { live .idle with par := { z.par with ops := [{ req := rq [0x46, 1], startAt := 0 }] } }
     let dt : Nat := 3
     let a : State := s.elapse dt
     let o : StoreOp := { req := rq [0x46, 1], startAt := 0 }
     let rest : List StoreOp := []
     a.par.ops = o :: rest ∧ a.answers = true) ∧
    (let s : State := { live .idle with par := { z.par with ops := [{ req := rq [0x46, 1], startAt := 0 }] } }
     let dt : Nat := 3
     let a : State := s.elapse dt
     let o : StoreOp := { req := rq [0x46, 1], startAt := 0 }
     let rest : List StoreOp := []
     a.par.ops = o :: rest ∧ a.answers = true ∧ o.req.words = [70, 1]) ∧
    (let s : State := { live .idle with
         par := { z.par with work := [], ops := [{ req := { rq [word (0x30 + 2 ^ 17), 100] with src := 1 }, startAt := 0 }] }
         stage := {} }
     let dt : Nat := 3
     let a : State := s.elapse dt
     let plain : State → Setting → Prop := fun (a : State) (x : Setting) => a.pairRamps x = false ∧ ¬(4544 ≤ x.id ∧ x.id < 4672) ∧ x.erases = false ∧ a.tablesWf = true
     let o : StoreOp := { req := { rq [word (0x30 + 2 ^ 17), 100] with src := 1 }, startAt := 0 }
     let rest : List StoreOp := []
     let id : Nat := 0x30
     let persist : Bool := true
     let v : Word := 100
     let one : Nat → Bool → Word → Setting := fun (id : Nat) (persist : Bool) (v : Word) => { k := 0, id := id, stage := false, persist := persist, value := v : Setting }
     let pair : Nat → Bool → Word → List Word := fun (id : Nat) (persist : Bool) (v : Word) => [word (id + if persist = true then 2 ^ 17 else 0), v]
     let fs : List Field := (paramFields 0x30).getD []
     a.par.ops = o :: rest ∧ a.answers = true ∧ o.req.words = pair id persist v ∧ id < 65536 ∧ paramFields id = some
       fs ∧ (one id persist v).stores = true ∧ plain a (one id persist v)) := by
  refine ⟨?_, ?_, ?_, ?_, ?_, ?_, ?_, ?_, ?_, ?_, ?_⟩ <;> decide +kernel

theorem test_CompletionsLeave_witness :
    (let s : State := { linked with
         up := { linked.up with bulk := { held := 4 } , urgent := {} }
         hnd := { z.hnd with
             queue := [{ dst := 0, handle := some 5, tag := 5, words := [1, 2] }]
             ej := { z.hnd.ej with live := [{ id := 5, st := .retiring, opc := 0x20, dst := 0 }] } } }
     let dt : Nat := 3
     let a : State := s.elapse dt
     let c : Completion := { dst := 0, handle := some 5, tag := 5, words := [1, 2] }
     let rest : List Completion := []
     let p : Side := .up
     a.hnd.queue = c :: rest ∧ a.ownWay (BitVec.toNat c.dst) = some p ∧ a.dev.code ≠ Code.draining ∧ a.linkRuns =
       true ∧ a.portUp p = true ∧ c.words.length + 2 ≤ (a.port p).bulk.held ∧ (a.port p).replayWords +
       c.words.length + 2 ≤ 2048 ∧ (∀ (y : TxPacket), y ∈ (a.port p).bulk.replay → y.owed = false) ∧ (a.port
       p).bulk.stored = [] ∧ (a.port p).urgent.stored = []) ∧
    (let s : State := { linked with
         up := { linked.up with bulk := { held := 4 } , urgent := {} }
         hnd := { z.hnd with
             queue := [{ dst := 0, handle := none, tag := 5, words := [1, 2] }]
             ej := { z.hnd.ej with live := [{ id := 5, st := .retiring, opc := 0x20, dst := 0 }] } } }
     let dt : Nat := 3
     let a : State := s.elapse dt
     let c : Completion := { dst := 0, handle := none, tag := 5, words := [1, 2] }
     let rest : List Completion := []
     let p : Side := .up
     a.hnd.queue = c :: rest ∧ a.ownWay (BitVec.toNat c.dst) = some p ∧ a.dev.code ≠ Code.draining ∧ a.linkRuns =
       true ∧ a.portUp p = true ∧ c.words.length + 2 ≤ (a.port p).bulk.held ∧ (a.port p).replayWords +
       c.words.length + 2 ≤ 2048 ∧ (∀ (y : TxPacket), y ∈ (a.port p).bulk.replay → y.owed = false) ∧ (a.port
       p).bulk.stored = [] ∧ (a.port p).urgent.stored = []) ∧
    (let s : State := { linked with
         up := { linked.up with bulk := { held := 4 } , urgent := {} }
         hnd := { z.hnd with
             queue := [{ dst := 2, handle := some 5, tag := 5, words := [1, 2] }]
             ej := { z.hnd.ej with live := [{ id := 5, st := .retiring, opc := 0x20, dst := 0 }] } } }
     let dt : Nat := 3
     let a : State := s.elapse dt
     let c : Completion := { dst := 2, handle := some 5, tag := 5, words := [1, 2] }
     let rest : List Completion := []
     a.hnd.queue = c :: rest ∧ a.ownWay (BitVec.toNat c.dst) = none ∧ a.dev.code ≠ Code.draining ∧ a.answers = true) ∧
    (let s : State := { live .sorting with
         stage := {}
         par := { z.par with work := [(0x40, 0x0002)] }
         hnd := { z.hnd with sumFrom := z.clk } }
     let dt : Nat := 100000000
     let a : State := s.elapse dt
     a.mode = 2 ∧ a.answers = true ∧ a.hnd.sumFrom + a.pf 64 17 8 * 100000 ≤ a.clk ∧ (a.dev.code = Code.sorting ∨
       a.dev.code = Code.draining ∨ a.hnd.sumAny = true)) ∧
    (let s : State := { live .idle with
         stage := {}
         par := { z.par with work := [(0x40, 0x0002)] }
         hnd := { z.hnd with sumFrom := z.clk, sumAny := false } }
     let dt : Nat := 100000000
     let a : State := s.elapse dt
     a.mode = 2 ∧ a.answers = true ∧ a.hnd.sumFrom + a.pf 64 17 8 * 100000 ≤ a.clk ∧ a.dev.code ≠ Code.sorting ∧
       a.dev.code ≠ Code.draining ∧ a.hnd.sumAny = false) ∧
    (let s : State := { live .sorting with stage := {}, par := { z.par with work := [] } }
     let dt : Nat := 3
     let a : State := s.elapse dt
     a.mode ≠ 2) := by
  refine ⟨?_, ?_, ?_, ?_, ?_, ?_⟩ <;> decide +kernel

theorem test_FlightTimeIsExact_witness :
    (let v : Nat := 0
     let ac : Nat := 5
     let drop : Nat := 0
     let r : Nat := 0
     let q : Nat := 64 * v + r
     v * v + ac * drop < 2 ^ 52 ∧ r * r ≤ (v * v + ac * drop) * 4096 ∧ (v * v + ac * drop) * 4096 < (r + 1) * (r +
       1) ∧ q = 0) ∧
    (let v : Nat := 5119
     let ac : Nat := 0
     let drop : Nat := 10240
     let r : Nat := 327616
     let q : Nat := 64 * v + r
     let tf : Nat := (2 * (1600000000 * drop) + q) / (2 * q)
     v * v + ac * drop < 2 ^ 52 ∧ r * r ≤ (v * v + ac * drop) * 4096 ∧ (v * v + ac * drop) * 4096 < (r + 1) * (r +
       1) ∧ q ≠ 0 ∧ 25000000 < tf) ∧
    (let v : Nat := 5120
     let ac : Nat := 0
     let drop : Nat := 10240
     let r : Nat := 327680
     let q : Nat := 64 * v + r
     let tf : Nat := (2 * (1600000000 * drop) + q) / (2 * q)
     v * v + ac * drop < 2 ^ 52 ∧ r * r ≤ (v * v + ac * drop) * 4096 ∧ (v * v + ac * drop) * 4096 < (r + 1) * (r +
       1) ∧ q ≠ 0 ∧ tf ≤ 25000000) ∧
    (let v : Nat := 25600
     let ac : Nat := 18200
     let drop : Nat := 10240
     let r : Nat := 1856803
     let q : Nat := 64 * v + r
     let tf : Nat := (2 * (1600000000 * drop) + q) / (2 * q)
     v * v + ac * drop < 2 ^ 52 ∧ r * r ≤ (v * v + ac * drop) * 4096 ∧ (v * v + ac * drop) * 4096 < (r + 1) * (r +
       1) ∧ q ≠ 0 ∧ tf ≤ 25000000) ∧
    (let s : State := { live .sorting with
         dev := { (live .sorting).dev with master := false, heldStarts := [] }
         nib := { z.nib with qA := [] }
         stage := { set0 := [(0x240, 1), (0x280, 6400)] } }
     let dt : Nat := 3
     let a : State := s.elapse dt
     let r : Request := rq [0, 0, 0]
     let w0 : Word := 0
     let w1 : Word := 0
     let w2 : Word := 0
     let x : NibRec := { w0 := w0, w1 := w1, w2 := w2, src := r.src, port := r.port, no := a.nib.recs, set := a.setOf (a.resolve w0) : NibRec }
     let b : Bank := 0
     r.words = [w0, w1, w2] ∧ r.urgent = false ∧ BitVec.toNat r.src ≤ 32 ∧ a.takesRecords = true ∧ a.frozen 4 =
       false ∧ a.dev.code = Code.sorting ∧ a.stale x = false ∧ a.touched x = [b] ∧ (a.nib.queue b).length < 512) ∧
    (let s : State := { live .sorting with
         nib := { z.nib with qD := List.replicate 511 { w0 := 0, w1 := 0, w2 := 0, src := 0, port := .up } }
         stage := { set0 := [(0x270, 1), (0x280, 6400)] } }
     let dt : Nat := 3
     let a : State := s.elapse dt
     let r : Request := rq [0, 0, 0]
     let w0 : Word := 0
     let w1 : Word := 0
     let w2 : Word := 0
     let x : NibRec := { w0 := w0, w1 := w1, w2 := w2, src := r.src, port := r.port, no := a.nib.recs, set := a.setOf (a.resolve w0) : NibRec }
     let b : Bank := 3
     r.words = [w0, w1, w2] ∧ r.urgent = false ∧ BitVec.toNat r.src ≤ 32 ∧ a.takesRecords = true ∧ a.frozen 4 =
       false ∧ a.dev.code = Code.sorting ∧ a.stale x = false ∧ a.touched x = [b] ∧ (a.nib.queue b).length < 512) ∧
    (let s : State := { live .sorting with
         dev := { (live .sorting).dev with master := false, heldStarts := [] }
         stage := { lastAt := 10 }
         time := { z.time with n := 20, e := 0 } }
     let dt : Nat := 0
     let a : State := s.elapse dt
     let r : Request := rq [0, 0, 0]
     let w0 : Word := 0
     let w1 : Word := 0
     let w2 : Word := 0
     let x : NibRec := { w0 := w0, w1 := w1, w2 := w2, src := r.src, port := r.port, no := a.nib.recs, set := a.setOf (a.resolve w0) : NibRec }
     r.words = [w0, w1, w2] ∧ r.urgent = false ∧ BitVec.toNat r.src ≤ 32 ∧ a.takesRecords = true ∧ a.frozen 4 =
       false ∧ a.dev.code = Code.sorting ∧ a.stale x = true) ∧
    (let s : State := { live .idle with hnd := { z.hnd with detectAt := [] } }
     let dt : Nat := 3
     let a : State := s.elapse dt
     let r : Request := rq [0, 0, 0]
     let w0 : Word := 0
     let w1 : Word := 0
     let w2 : Word := 0
     r.words = [w0, w1, w2] ∧ r.urgent = false ∧ BitVec.toNat r.src ≤ 32 ∧ a.takesRecords = true ∧ a.frozen 4 =
       false ∧ a.dev.code ≠ Code.sorting ∧ tget a.hnd.detectAt (BitVec.toNat r.src) = none) ∧
    (let s : State := { live .sorting with
         stage := { lastAt := 0, set0 := [(0x220, 0)] }
         nib := { z.nib with qB := [{ w0 := 0, w1 := 0, w2 := 0, src := 0, port := .up }], held := [] } }
     let dt : Nat := 3
     let a : State := s.elapse dt
     let b : Bank := 1
     let x : NibRec := { w0 := 0, w1 := 0, w2 := 0, src := 0, port := .up }
     let rest : List NibRec := []
     a.nib.queue b = x :: rest ∧ a.nib.held = [] ∧ a.nibRuns = true ∧ a.dev.code = Code.sorting ∧ a.isNew x = false
       ∧ flight x.v (fld (a.inSet x.set (544 + x.cls)) 47 32) (a.sf x.set 513 15 0) x.len = none) ∧
    (let s : State := { (live .sorting).modBank 0 fun k => { k with en := true, eEst := 100000 } with
         stage := {
             set0 := [(0x201, 10240), (0x202, 0xFFFF), (0x220, 0x471800000000), (0x230, 1), (0x240, 1), (0x280, 6400)] }
         par := { z.par with work := [] }
         time := { z.time with n := 0, e := 0, announced := false }
         nib := { z.nib with qA := [{ w0 := 0, w1 := 0x6400002400, w2 := 0x640000000000, src := 0, port := .up, no := 5 }], held := [], events := [], taken := [] } }
     let dt : Nat := 3
     let a : State := s.elapse dt
     let b : Bank := 0
     let x : NibRec := { w0 := 0, w1 := 0x6400002400, w2 := 0x640000000000, src := 0, port := .up, no := 5 }
     let cam : Int := a.resolve x.w0
     let cw : Word := a.inSet x.set (544 + x.cls)
     let u : Int := if bit x.w2 10 = true then 0 else x.u
     let h : Int := ↑(min (x.width + fld cw 7 0) (a.sf x.set 514 15 0))
     let rest : List NibRec := []
     let v : Valve := 0
     let d : Int := max 0 (a.vlv.valves[v].dLearn + sfld (a.inSet x.set (576 + ↑v)) 23 8)
     let lo : Nat := (((a.spans x.set).headD (0, 0, 0)).2.1.toNat)
     let hi : Nat := (((a.spans x.set).headD (0, 0, 0)).2.2.toNat)
     let tf : Nat := 4687568
     let xe : Int := ↑x.x + roundHalfAway (u * ↑tf) 25000000
     let on : Int := cam + ↑tf - ↑(fld cw 31 20 * 100) - d
     let tl : Nat := 496337
     a.nib.queue b = x :: rest ∧ a.nib.held = [] ∧ a.nibRuns = true ∧ a.dev.code = Code.sorting ∧ a.isNew x = false
       ∧ flight x.v (fld cw 47 32) (a.sf x.set 513 15 0) x.len = some (tf, tl) ∧ (List.filter (fun (y : Valve × Int
       × Int) => decide (y.snd.fst ≤ xe + h ∧ xe - h < y.snd.snd)) (a.spans x.set) = [(v, ↑lo, ↑hi)]) ∧ bankOf v = b
       ∧ on - a.full ≤ 30000000 ∧ a.sf x.set (560 + x.cls) 0 0 = 1 ∧ a.vlv.banks[b].en = true ∧ a.hnd.ej.fresh <
       16128 ∧ a.nib.events = [] ∧ a.full ≤ on - ↑a.tCommit) ∧
    (let s : State := { (live .sorting).modBank 0 fun k => { k with en := true, eEst := 100000 } with
         stage := {
             set0 := [(0x201, 10240), (0x202, 0xFFFF), (0x220, 0x471800000000), (0x230, 0x3FF001), (0x240, 1), (0x280, 6400)] }
         par := { z.par with work := [] }
         time := { z.time with n := 4600000, e := 0, announced := false }
         nib := { z.nib with qA := [{ w0 := 0, w1 := 0x6400002400, w2 := 0x640000000100, src := 0, port := .up, no := 5 }], held := [], events := [], taken := [] } }
     let dt : Nat := 3
     let a : State := s.elapse dt
     let late : Int := a.full + ↑a.tCommit
     let b : Bank := 0
     let x : NibRec := { w0 := 0, w1 := 0x6400002400, w2 := 0x640000000100, src := 0, port := .up, no := 5 }
     let cam : Int := a.resolve x.w0
     let cw : Word := a.inSet x.set (544 + x.cls)
     let u : Int := if bit x.w2 10 = true then 0 else x.u
     let h : Int := ↑(min (x.width + fld cw 7 0) (a.sf x.set 514 15 0))
     let rest : List NibRec := []
     let v : Valve := 0
     let d : Int := max 0 (a.vlv.valves[v].dLearn + sfld (a.inSet x.set (576 + ↑v)) 23 8)
     let lo : Nat := (((a.spans x.set).headD (0, 0, 0)).2.1.toNat)
     let hi : Nat := (((a.spans x.set).headD (0, 0, 0)).2.2.toNat)
     let tf : Nat := 4687568
     let xe : Int := ↑x.x + roundHalfAway (u * ↑tf) 25000000
     let on : Int := cam + ↑tf - ↑(fld cw 31 20 * 100) - d
     let fires : Prop := (bit x.w2 8 = true ∨ a.sf (a.setOf cam) (560 + x.cls) 1 1 = 1) ∧ late - on ≤ ↑(a.sf (a.setOf cam) (560 + x.cls) 21 12 * 100)
     let tl : Nat := 496337
     a.nib.queue b = x :: rest ∧ a.nib.held = [] ∧ a.nibRuns = true ∧ a.dev.code = Code.sorting ∧ a.isNew x = false
       ∧ flight x.v (fld cw 47 32) (a.sf x.set 513 15 0) x.len = some (tf, tl) ∧ (List.filter (fun (y : Valve × Int
       × Int) => decide (y.snd.fst ≤ xe + h ∧ xe - h < y.snd.snd)) (a.spans x.set) = [(v, ↑lo, ↑hi)]) ∧ bankOf v = b
       ∧ on - a.full ≤ 30000000 ∧ a.sf x.set (560 + x.cls) 0 0 = 1 ∧ a.vlv.banks[b].en = true ∧ a.hnd.ej.fresh <
       16128 ∧ a.nib.events = [] ∧ on - ↑a.tCommit < a.full ∧ fires ∧ a.holdsArms = false ∧
       a.vlv.valves[v].inhibited = false ∧ ↑(a.energyOf v) ≤ a.available b) ∧
    (let s : State := { (live .sorting).modBank 0 fun k => { k with en := true, eEst := 100000 } with
         stage := {
             set0 := [(0x201, 10240), (0x202, 0xFFFF), (0x220, 0x471800000000), (0x230, 1), (0x240, 1), (0x280, 6400)] }
         par := { z.par with work := [] }
         time := { z.time with n := 4700000, e := 0, announced := false }
         nib := { z.nib with qA := [{ w0 := 0, w1 := 0x6400002400, w2 := 0x640000000000, src := 0, port := .up, no := 5 }], held := [], events := [], taken := [] } }
     let dt : Nat := 3
     let a : State := s.elapse dt
     let late : Int := a.full + ↑a.tCommit
     let b : Bank := 0
     let x : NibRec := { w0 := 0, w1 := 0x6400002400, w2 := 0x640000000000, src := 0, port := .up, no := 5 }
     let cam : Int := a.resolve x.w0
     let cw : Word := a.inSet x.set (544 + x.cls)
     let u : Int := if bit x.w2 10 = true then 0 else x.u
     let h : Int := ↑(min (x.width + fld cw 7 0) (a.sf x.set 514 15 0))
     let rest : List NibRec := []
     let v : Valve := 0
     let d : Int := max 0 (a.vlv.valves[v].dLearn + sfld (a.inSet x.set (576 + ↑v)) 23 8)
     let lo : Nat := (((a.spans x.set).headD (0, 0, 0)).2.1.toNat)
     let hi : Nat := (((a.spans x.set).headD (0, 0, 0)).2.2.toNat)
     let tf : Nat := 4687568
     let xe : Int := ↑x.x + roundHalfAway (u * ↑tf) 25000000
     let on : Int := cam + ↑tf - ↑(fld cw 31 20 * 100) - d
     let fires : Prop := (bit x.w2 8 = true ∨ a.sf (a.setOf cam) (560 + x.cls) 1 1 = 1) ∧ late - on ≤ ↑(a.sf (a.setOf cam) (560 + x.cls) 21 12 * 100)
     let tl : Nat := 496337
     a.nib.queue b = x :: rest ∧ a.nib.held = [] ∧ a.nibRuns = true ∧ a.dev.code = Code.sorting ∧ a.isNew x = false
       ∧ flight x.v (fld cw 47 32) (a.sf x.set 513 15 0) x.len = some (tf, tl) ∧ (List.filter (fun (y : Valve × Int
       × Int) => decide (y.snd.fst ≤ xe + h ∧ xe - h < y.snd.snd)) (a.spans x.set) = [(v, ↑lo, ↑hi)]) ∧ bankOf v = b
       ∧ on - a.full ≤ 30000000 ∧ a.sf x.set (560 + x.cls) 0 0 = 1 ∧ a.vlv.banks[b].en = true ∧ a.hnd.ej.fresh <
       16128 ∧ a.nib.events = [] ∧ on - ↑a.tCommit < a.full ∧ (¬fires) ∧ (a.mode = 0 ∨ a.mode = 1) ∧ a.tablesWf =
       true ∧ a.hnd.ej.live = []) := by
  refine ⟨?_, ?_, ?_, ?_, ?_, ?_, ?_, ?_, ?_, ?_, ?_, ?_⟩ <;> decide +kernel

theorem test_HeadEventIsArmed_witness :
    (let s : State := { live .sorting with
         time := { z.time with n := 100000, e := 0, phi := 0, announced := true, history := [] }
         stage := {}
         vlv := { z.vlv with
             valves := Vector.replicate 64 { inhibited := false }
             banks := z.vlv.banks.set 1 { eEst := 50001, goal := none } }
         nib := { z.nib with events := [ev 17 100500], tokens := [{ id := 3, bank := 1, energy := 1, begun := true }] }
         hnd := { z.hnd with ej := { z.hnd.ej with live := [{ id := 0, st := .accepted, opc := 0x20, dst := 0 }] } }
         par := { z.par with work := [] } }
     let dt : Nat := 0
     let a : State := s.elapse dt
     let b : Bank := 1
     let e : Event := ev 17 100500
     a.bankOrder b = [e] ∧ bankOf e.valve = b ∧ a.nibRuns = true ∧ a.dev.code ≠ Code.draining ∧ a.nib.events = [e] ∧
       e.st = EState.pending ∧ e.cOn - ↑a.tCommit ≤ a.full ∧ a.holdsArms = true) ∧
    (let s : State := { live .sorting with
         time := { z.time with n := 100000, e := 0, phi := 0, announced := false, history := [] }
         stage := {}
         vlv := { z.vlv with valves := Vector.replicate 64 {}, banks := z.vlv.banks.set 1 { eEst := 50001 } }
         nib := { z.nib with
             events := [ev 17 100500]
             tokens := [{ id := 3, bank := 1, energy := 1, begun := true }] }
         par := { z.par with work := [] } }
     let dt : Nat := 0
     let a : State := s.elapse dt
     let b : Bank := 1
     let e : Event := ev 17 100500
     a.bankOrder b = [e] ∧ bankOf e.valve = b ∧ a.nibRuns = true ∧ a.dev.code ≠ Code.draining ∧ a.nib.events = [e] ∧
       e.st = EState.pending ∧ e.cOn - ↑a.tCommit ≤ a.full ∧ a.holdsArms = false ∧ a.lastStep = none ∧
       a.vlv.valves[e.valve].inhibited = false ∧ ↑e.energy ≤ a.available b) ∧
    (let s : State := { live .sorting with
         time := { z.time with n := 100000, e := 0, phi := 0, announced := false, history := [] }
         stage := {}
         vlv := { z.vlv with
             valves := Vector.replicate 64 { inhibited := true }
             banks := z.vlv.banks.set 1 { eEst := 50001, goal := none } }
         nib := { z.nib with events := [ev 17 100500], tokens := [{ id := 3, bank := 1, energy := 1, begun := true }] }
         hnd := { z.hnd with ej := { z.hnd.ej with live := [{ id := 0, st := .accepted, opc := 0x20, dst := 0 }] } }
         par := { z.par with work := [] } }
     let dt : Nat := 0
     let a : State := s.elapse dt
     let b : Bank := 1
     let e : Event := ev 17 100500
     a.bankOrder b = [e] ∧ bankOf e.valve = b ∧ a.nibRuns = true ∧ a.dev.code ≠ Code.draining ∧ a.nib.events = [e] ∧
       e.st = EState.pending ∧ e.cOn - ↑a.tCommit ≤ a.full ∧ a.holdsArms = false ∧ a.lastStep = none ∧
       a.vlv.valves[e.valve].inhibited = true) ∧
    (let s : State := { live .sorting with
         time := { z.time with n := 100000, e := 0, phi := 0, announced := false, history := [] }
         stage := { set0 := [(0x230, 0x03FF00000000)] }
         vlv := { z.vlv with
             valves := Vector.replicate 64 { inhibited := false }
             banks := z.vlv.banks.set 1 { eEst := 50000, goal := none } }
         nib := { z.nib with events := [ev 17 100500], tokens := [{ id := 3, bank := 1, energy := 1, begun := true }] }
         hnd := { z.hnd with ej := { z.hnd.ej with live := [{ id := 0, st := .accepted, opc := 0x20, dst := 0 }] } }
         par := { z.par with work := [] } }
     let dt : Nat := 0
     let a : State := s.elapse dt
     let b : Bank := 1
     let e : Event := ev 17 100500
     a.bankOrder b = [e] ∧ bankOf e.valve = b ∧ a.nibRuns = true ∧ a.dev.code ≠ Code.draining ∧ a.nib.events = [e] ∧
       e.st = EState.pending ∧ e.cOn - ↑a.tCommit ≤ a.full ∧ a.holdsArms = false ∧ a.lastStep = none ∧
       a.vlv.valves[e.valve].inhibited = false ∧ a.available b < ↑e.energy ∧ a.staggerTol e ≠ 0) ∧
    (let s : State := { live .sorting with
         time := { z.time with n := 100000, e := 0, phi := 0, announced := false, history := [] }
         stage := {}
         vlv := { z.vlv with
             valves := Vector.replicate 64 { inhibited := false }
             banks := z.vlv.banks.set 1 { eEst := 50000, goal := none } }
         nib := { z.nib with events := [{ ev 17 100500 with noStag := true }], tokens := [{ id := 3, bank := 1, energy := 1, begun := true }] }
         hnd := { z.hnd with ej := { z.hnd.ej with live := [{ id := 0, st := .accepted, opc := 0x20, dst := 0 }] } }
         par := { z.par with work := [] } }
     let dt : Nat := 0
     let a : State := s.elapse dt
     let b : Bank := 1
     let e : Event := { ev 17 100500 with noStag := true }
     a.bankOrder b = [e] ∧ bankOf e.valve = b ∧ a.nibRuns = true ∧ a.dev.code ≠ Code.draining ∧ a.nib.events = [e] ∧
       e.st = EState.pending ∧ e.cOn - ↑a.tCommit ≤ a.full ∧ a.holdsArms = false ∧ a.lastStep = none ∧
       a.vlv.valves[e.valve].inhibited = false ∧ a.available b < ↑e.energy ∧ a.staggerTol e = 0 ∧ e.carrier = none ∧
       (a.mode = 0 ∨ a.mode = 1) ∧ a.tablesWf = true) ∧
    (let s : State := { live .sorting with
         time := { z.time with n := 100000, e := 0, phi := 0, announced := false, history := [] }
         stage := { set0 := [(0x230, 0x03FF00000000)] }
         vlv := { z.vlv with
             valves := Vector.replicate 64 { inhibited := false }
             banks := z.vlv.banks.set 1 { eEst := 50001, goal := none } }
         nib := { z.nib with events := [{ ev 17 100500 with st := .waiting, waitAt := some 0 }], tokens := [{ id := 3, bank := 1, energy := 1, begun := true }] }
         hnd := { z.hnd with ej := { z.hnd.ej with live := [{ id := 0, st := .accepted, opc := 0x20, dst := 0 }] } }
         par := { z.par with work := [] } }
     let dt : Nat := 0
     let a : State := s.elapse dt
     let b : Bank := 1
     let e : Event := { ev 17 100500 with st := .waiting, waitAt := some 0 }
     let d : Int := a.full - (e.cOn - ↑a.tCommit)
     let v : Nat := 2424
     let energy : Int := a.eEst b v - ↑(a.tokens b false) - ↑(a.tokens b true)
     a.bankOrder b = [e] ∧ bankOf e.valve = b ∧ a.nibRuns = true ∧ a.dev.code ≠ Code.draining ∧ a.nib.events = [e] ∧
       e.st = EState.waiting ∧ a.holdsArms = false ∧ v ≤ 2424 ∧ a.vlv.banks[b].goal = none ∧ d ≤ a.staggerTol e ∧
       a.vlv.valves[e.valve].inhibited = false ∧ ↑e.energy ≤ energy) ∧
    (let s : State := { live .sorting with
         time := { z.time with n := 100000, e := 0, phi := 0, announced := false, history := [] }
         stage := { set0 := [(0x230, 0x03FF00000000)] }
         vlv := { z.vlv with
             valves := Vector.replicate 64 { inhibited := false }
             banks := z.vlv.banks.set 1 { eEst := 50001, goal := none } }
         nib := { z.nib with events := [{ ev 17 100500 with st := .waiting, waitAt := some 0 }], tokens := [{ id := 3, bank := 1, energy := 1, begun := true }] }
         hnd := { z.hnd with ej := { z.hnd.ej with live := [{ id := 0, st := .accepted, opc := 0x20, dst := 0 }] } }
         par := { z.par with work := [] } }
     let dt : Nat := 0
     let a : State := s.elapse dt
     let b : Bank := 1
     let e : Event := { ev 17 100500 with st := .waiting, waitAt := some 0 }
     let d : Int := a.full - (e.cOn - ↑a.tCommit)
     let v : Nat := 0
     let energy : Int := a.eEst b v - ↑(a.tokens b false) - ↑(a.tokens b true)
     a.bankOrder b = [e] ∧ bankOf e.valve = b ∧ a.nibRuns = true ∧ a.dev.code ≠ Code.draining ∧ a.nib.events = [e] ∧
       e.st = EState.waiting ∧ a.holdsArms = false ∧ v ≤ 2424 ∧ a.vlv.banks[b].goal = none ∧ d ≤ a.staggerTol e ∧
       a.staggerTol e ≠ 0 ∧ a.vlv.valves[e.valve].inhibited = false ∧ energy < ↑e.energy) ∧
    (let s : State := { live .sorting with
         time := { z.time with n := 200000, e := 0, phi := 0, announced := false, history := [] }
         stage := {}
         vlv := { z.vlv with
             valves := Vector.replicate 64 { inhibited := false }
             banks := z.vlv.banks.set 1 { eEst := 50001, goal := none } }
         nib := { z.nib with events := [{ ev 17 100500 with st := .waiting, waitAt := some 0 }], tokens := [{ id := 3, bank := 1, energy := 1, begun := true }] }
         hnd := { z.hnd with ej := { z.hnd.ej with live := [{ id := 0, st := .accepted, opc := 0x20, dst := 0 }] } }
         par := { z.par with work := [] } }
     let dt : Nat := 0
     let a : State := s.elapse dt
     let b : Bank := 1
     let e : Event := { ev 17 100500 with st := .waiting, waitAt := some 0 }
     let d : Int := a.full - (e.cOn - ↑a.tCommit)
     let v : Nat := 2424
     a.bankOrder b = [e] ∧ bankOf e.valve = b ∧ a.nibRuns = true ∧ a.dev.code ≠ Code.draining ∧ a.nib.events = [e] ∧
       e.st = EState.waiting ∧ a.holdsArms = false ∧ v ≤ 2424 ∧ a.vlv.banks[b].goal = none ∧ a.staggerTol e < d ∧
       a.vlv.valves[e.valve].inhibited = false ∧ e.carrier = none ∧ (a.mode = 0 ∨ a.mode = 1) ∧ a.tablesWf = true) := by
  refine ⟨?_, ?_, ?_, ?_, ?_, ?_, ?_, ?_⟩ <;> decide +kernel

theorem test_DirectPulseIsScheduled_witness :
    (let s : State := { live .idle with
         time := { z.time with n := 0, e := 0, phi := 0 }
         clocks := { (live .idle).clocks with locked := false, selected := true }
         vlv := { z.vlv with banks := z.vlv.banks.set 3 { z.vlv.banks[3] with en := true } }
         nib := { z.nib with events := [] }
         hnd := { z.hnd with ej := { fresh := 0x3EFF, freed := [], live := [] } }
         stage := {}
         par := { z.par with work := [] } }
     let dt : Nat := 0
     let r : Request := rq [30000000, 0x00C80007003F]
     let w : Word := arg r 1
     let v : Valve := Fin.ofNat 64 (fld w 5 0)
     let a : State := s.hears dt 33 r
     let on : Int := a.resolve (arg r 0)
     (s.elapse dt).turn 33 r = true ∧ Takes a r false false false 2 2 ∧ (a.dev.code = Code.idle ∨ a.dev.code =
       Code.sorting) ∧ a.vlv.banks[bankOf v].en = true ∧ bit w 12 = false ∧ on - a.full ≤ 30000000 ∧ ↑a.tCommit +
       100 ≤ on - a.full ∧ fld w 19 16 ≤ 7 ∧ 200 ≤ fld w 47 32 ∧ fld w 47 32 ≤ 50000 ∧ a.hnd.ej.fresh < 16128 ∧
       a.frozen 0 = false ∧ a.nib.events = []) ∧
    (let s : State := { live .idle with
         time := { z.time with n := 0, e := 0, phi := 0 }
         clocks := { (live .idle).clocks with locked := false, selected := true }
         vlv := { z.vlv with banks := z.vlv.banks.set 3 { z.vlv.banks[3] with en := true } }
         nib := { z.nib with events := [{ ev 63 29990000 with id := 7 }] }
         hnd := { z.hnd with ej := { fresh := 0x3EFF, freed := [], live := [] } }
         stage := {}
         par := { z.par with work := [] } }
     let dt : Nat := 0
     let r : Request := rq [30000000, 0x00C80007003F]
     let w : Word := arg r 1
     let v : Valve := Fin.ofNat 64 (fld w 5 0)
     let a : State := s.hears dt 33 r
     let on : Int := a.resolve (arg r 0)
     let off : Int := on + ↑(fld w 47 32 * 100)
     let h : HandleId := a.hnd.idOf a.hnd.ej.fresh
     let y : Event := { ev 63 29990000 with id := 7 }
     let cls : Nat := 0
     let gap : Int := max (↑(a.sf (a.setOf on) (560 + cls) 31 22 * 100)) (a.mergeGap y)
     (s.elapse dt).turn 33 r = true ∧ Takes a r false false false 2 2 ∧ (a.dev.code = Code.idle ∨ a.dev.code =
       Code.sorting) ∧ a.vlv.banks[bankOf v].en = true ∧ bit w 12 = false ∧ on - a.full ≤ 30000000 ∧ ↑a.tCommit +
       100 ≤ on - a.full ∧ fld w 19 16 ≤ 7 ∧ 200 ≤ fld w 47 32 ∧ fld w 47 32 ≤ 50000 ∧ a.hnd.ej.fresh < 16128 ∧
       a.frozen 0 = false ∧ a.nib.events = [y] ∧ y.valve = v ∧ y.carrier = none ∧ y.id ≠ h ∧ cls = fld w 11 8 ∧ (max
       (y.cOn - off) (on - y.cOff) < gap ∨ (on - y.cOn).natAbs < 50000) ∧ (y.st = EState.pending ∨ y.st =
       EState.waiting) ∧ a.tablesWf = true) ∧
    (let s : State := { live .idle with
         time := { z.time with n := 0, e := 0, phi := 0 }
         clocks := { (live .idle).clocks with locked := false, selected := true }
         vlv := { z.vlv with banks := z.vlv.banks.set 3 { z.vlv.banks[3] with en := true } }
         nib := { z.nib with events := [{ ev 63 29990000 with id := 7, st := .waiting }] }
         hnd := { z.hnd with ej := { fresh := 0x3EFF, freed := [], live := [] } }
         stage := {}
         par := { z.par with work := [] } }
     let dt : Nat := 0
     let r : Request := rq [30000000, 0x00C80007003F]
     let w : Word := arg r 1
     let v : Valve := Fin.ofNat 64 (fld w 5 0)
     let a : State := s.hears dt 33 r
     let on : Int := a.resolve (arg r 0)
     let off : Int := on + ↑(fld w 47 32 * 100)
     let h : HandleId := a.hnd.idOf a.hnd.ej.fresh
     let y : Event := { ev 63 29990000 with id := 7, st := .waiting }
     let cls : Nat := 0
     let gap : Int := max (↑(a.sf (a.setOf on) (560 + cls) 31 22 * 100)) (a.mergeGap y)
     (s.elapse dt).turn 33 r = true ∧ Takes a r false false false 2 2 ∧ (a.dev.code = Code.idle ∨ a.dev.code =
       Code.sorting) ∧ a.vlv.banks[bankOf v].en = true ∧ bit w 12 = false ∧ on - a.full ≤ 30000000 ∧ ↑a.tCommit +
       100 ≤ on - a.full ∧ fld w 19 16 ≤ 7 ∧ 200 ≤ fld w 47 32 ∧ fld w 47 32 ≤ 50000 ∧ a.hnd.ej.fresh < 16128 ∧
       a.frozen 0 = false ∧ a.nib.events = [y] ∧ y.valve = v ∧ y.carrier = none ∧ y.id ≠ h ∧ cls = fld w 11 8 ∧ (max
       (y.cOn - off) (on - y.cOff) < gap ∨ (on - y.cOn).natAbs < 50000) ∧ (y.st = EState.pending ∨ y.st =
       EState.waiting) ∧ a.tablesWf = true) ∧
    (let s : State := { live .idle with
         time := { z.time with n := 0, e := 0, phi := 0 }
         clocks := { (live .idle).clocks with locked := false, selected := true }
         vlv := { z.vlv with banks := z.vlv.banks.set 3 { z.vlv.banks[3] with en := true } }
         nib := { z.nib with events := [{ ev 63 29990000 with id := 7, st := .armed }] }
         hnd := { z.hnd with ej := { fresh := 0x3EFF, freed := [], live := [] } }
         stage := {}
         par := { z.par with work := [] } }
     let dt : Nat := 0
     let r : Request := rq [30000000, 0x00C80007003F]
     let w : Word := arg r 1
     let v : Valve := Fin.ofNat 64 (fld w 5 0)
     let a : State := s.hears dt 33 r
     let on : Int := a.resolve (arg r 0)
     let off : Int := on + ↑(fld w 47 32 * 100)
     let h : HandleId := a.hnd.idOf a.hnd.ej.fresh
     let y : Event := { ev 63 29990000 with id := 7, st := .armed }
     let cls : Nat := 0
     let gap : Int := max (↑(a.sf (a.setOf on) (560 + cls) 31 22 * 100)) (a.mergeGap y)
     let tol : Int := ↑(a.sf (a.setOf on) (560 + cls) 41 32 * 100)
     let start : Int := max on (max (y.cOff + gap) (y.cOn + 50000))
     (s.elapse dt).turn 33 r = true ∧ Takes a r false false false 2 2 ∧ (a.dev.code = Code.idle ∨ a.dev.code =
       Code.sorting) ∧ a.vlv.banks[bankOf v].en = true ∧ bit w 12 = false ∧ on - a.full ≤ 30000000 ∧ ↑a.tCommit +
       100 ≤ on - a.full ∧ fld w 19 16 ≤ 7 ∧ 200 ≤ fld w 47 32 ∧ fld w 47 32 ≤ 50000 ∧ a.hnd.ej.fresh < 16128 ∧
       a.frozen 0 = false ∧ a.nib.events = [y] ∧ y.valve = v ∧ y.carrier = none ∧ y.id ≠ h ∧ cls = fld w 11 8 ∧ (max
       (y.cOn - off) (on - y.cOff) < gap ∨ (on - y.cOn).natAbs < 50000) ∧ y.st = EState.armed ∧ (off ≤ y.cOff ∨ tol
       < start - on)) ∧
    (let s : State := { live .idle with
         time := { z.time with n := 0, e := 0, phi := 0 }
         clocks := { (live .idle).clocks with locked := false, selected := true }
         vlv := { z.vlv with banks := z.vlv.banks.set 3 { z.vlv.banks[3] with en := true } }
         nib := { z.nib with events := [{ ev 63 29960001 with id := 7, st := .armed, cOff := 30010000, cOff0 := 30010000 }] }
         hnd := { z.hnd with ej := { fresh := 0x3EFF, freed := [], live := [] } }
         stage := { set0 := [(0x230, 0x03FF00000000)] }
         par := { z.par with work := [] } }
     let dt : Nat := 0
     let r : Request := rq [30000000, 0x10000007003F]
     let w : Word := arg r 1
     let v : Valve := Fin.ofNat 64 (fld w 5 0)
     let a : State := s.hears dt 33 r
     let on : Int := a.resolve (arg r 0)
     let off : Int := on + ↑(fld w 47 32 * 100)
     let h : HandleId := a.hnd.idOf a.hnd.ej.fresh
     let y : Event := { ev 63 29960001 with id := 7, st := .armed, cOff := 30010000, cOff0 := 30010000 }
     let cls : Nat := 0
     let gap : Int := max (↑(a.sf (a.setOf on) (560 + cls) 31 22 * 100)) (a.mergeGap y)
     let tol : Int := ↑(a.sf (a.setOf on) (560 + cls) 41 32 * 100)
     let start : Int := max on (max (y.cOff + gap) (y.cOn + 50000))
     (s.elapse dt).turn 33 r = true ∧ Takes a r false false false 2 2 ∧ (a.dev.code = Code.idle ∨ a.dev.code =
       Code.sorting) ∧ a.vlv.banks[bankOf v].en = true ∧ bit w 12 = false ∧ on - a.full ≤ 30000000 ∧ ↑a.tCommit +
       100 ≤ on - a.full ∧ fld w 19 16 ≤ 7 ∧ 200 ≤ fld w 47 32 ∧ fld w 47 32 ≤ 50000 ∧ a.hnd.ej.fresh < 16128 ∧
       a.frozen 0 = false ∧ a.nib.events = [y] ∧ y.valve = v ∧ y.carrier = none ∧ y.id ≠ h ∧ cls = fld w 11 8 ∧ (max
       (y.cOn - off) (on - y.cOff) < gap ∨ (on - y.cOn).natAbs < 50000) ∧ y.st = EState.armed ∧ y.cOff < off ∧ start
       - on ≤ tol) := by
  refine ⟨?_, ?_, ?_, ?_, ?_⟩ <;> decide +kernel

theorem test_BanksAreEnabledAndDisabled_witness :
    (let s : State := live .sorting
     let dt : Nat := 3
     let r : Request := { rq [15] with dst := 62 }
     let a : State := s.hears dt 34 r
     (s.elapse dt).turn 34 r = true ∧ Takes a r false true false 1 1 ∧ (a.dev.code = Code.idle ∨ a.dev.code =
       Code.sorting)) ∧
    (let s : State := { live .sorting with nib := { z.nib with events := [], aborted := [] } }
     let dt : Nat := 3
     let r : Request := { rq [9] with urgent := true }
     let a : State := s.hears dt 35 r
     (s.elapse dt).turn 35 r = true ∧ Takes a r true true true 1 1 ∧ a.nib.events = [] ∧ a.nib.aborted = [] ∧
       a.dev.code ≠ Code.draining) ∧
    (let s : State := { live .sorting with
         time := { z.time with n := 5, e := 0, announced := false }
         stage := {}
         par := { z.par with work := [] }
         nib := { z.nib with events := [{ ev 17 100500 with st := .pending }], aborted := [] }
         hnd := { z.hnd with ej := { z.hnd.ej with live := [{ id := 0, st := .accepted, opc := 0x20, dst := 0 }] } } }
     let dt : Nat := 3
     let r : Request := rq [2]
     let a : State := s.hears dt 35 r
     let e : Event := { ev 17 100500 with st := .pending }
     let l : Live := { id := 0, st := .accepted, opc := 0x20, dst := 0 }
     (s.elapse dt).turn 35 r = true ∧ Takes a r true true true 1 1 ∧ a.nib.aborted = [] ∧ a.dev.code ≠ Code.draining
       ∧ a.nib.events = [e] ∧ e.carrier = none ∧ bit (arg r 0) ↑(bankOf e.valve) = true ∧ a.live? e.id = some l ∧
       (e.st = EState.pending ∧ a.due e = false ∨ e.st = EState.waiting) ∧ l.st = HState.accepted ∧ e.wasArmed =
       false ∧ (a.mode = 0 ∨ a.mode = 1)) ∧
    (let s : State := { live .sorting with
         time := { z.time with n := 5, e := 0, announced := false }
         stage := {}
         par := { z.par with work := [] }
         nib := { z.nib with events := [{ ev 17 100500 with st := .waiting }], aborted := [] }
         hnd := { z.hnd with ej := { z.hnd.ej with live := [{ id := 0, st := .accepted, opc := 0x20, dst := 0 }] } } }
     let dt : Nat := 3
     let r : Request := rq [0x102]
     let a : State := s.hears dt 35 r
     let e : Event := { ev 17 100500 with st := .waiting }
     let l : Live := { id := 0, st := .accepted, opc := 0x20, dst := 0 }
     (s.elapse dt).turn 35 r = true ∧ Takes a r true true true 1 1 ∧ a.nib.aborted = [] ∧ a.dev.code ≠ Code.draining
       ∧ a.nib.events = [e] ∧ e.carrier = none ∧ bit (arg r 0) ↑(bankOf e.valve) = true ∧ a.live? e.id = some l ∧
       (e.st = EState.pending ∧ a.due e = false ∨ e.st = EState.waiting) ∧ l.st = HState.accepted ∧ e.wasArmed =
       false ∧ (a.mode = 0 ∨ a.mode = 1)) ∧
    (let s : State := { live .sorting with
         time := { z.time with n := 5, e := 0, announced := false }
         stage := {}
         par := { z.par with work := [] }
         nib := { z.nib with events := [{ ev 17 100500 with st := .armed }], aborted := [] }
         hnd := { z.hnd with ej := { z.hnd.ej with live := [{ id := 0, st := .armed, opc := 0x20, dst := 0 }] } } }
     let dt : Nat := 3
     let r : Request := rq [2]
     let a : State := s.hears dt 35 r
     let e : Event := { ev 17 100500 with st := .armed }
     let l : Live := { id := 0, st := .armed, opc := 0x20, dst := 0 }
     (s.elapse dt).turn 35 r = true ∧ Takes a r true true true 1 1 ∧ a.nib.aborted = [] ∧ a.dev.code ≠ Code.draining
       ∧ a.nib.events = [e] ∧ e.carrier = none ∧ bit (arg r 0) ↑(bankOf e.valve) = true ∧ a.live? e.id = some l ∧
       e.st = EState.armed ∧ bit (arg r 0) 8 = false) ∧
    (let s : State := { live .sorting with
         time := { z.time with n := 5, e := 0, announced := false }
         stage := {}
         par := { z.par with work := [] }
         nib := { z.nib with events := [{ ev 17 100500 with st := .armed }], aborted := [] }
         hnd := { z.hnd with ej := { z.hnd.ej with live := [{ id := 0, st := .armed, opc := 0x20, dst := 0 }] } } }
     let dt : Nat := 3
     let r : Request := rq [0x102]
     let a : State := s.hears dt 35 r
     let e : Event := { ev 17 100500 with st := .armed }
     let l : Live := { id := 0, st := .armed, opc := 0x20, dst := 0 }
     (s.elapse dt).turn 35 r = true ∧ Takes a r true true true 1 1 ∧ a.nib.aborted = [] ∧ a.dev.code ≠ Code.draining
       ∧ a.nib.events = [e] ∧ e.carrier = none ∧ bit (arg r 0) ↑(bankOf e.valve) = true ∧ a.live? e.id = some l ∧
       e.st = EState.armed ∧ bit (arg r 0) 8 = true ∧ l.st = HState.armed ∧ (a.mode = 0 ∨ a.mode = 1)) ∧
    (let s : State := { live .sorting with
         nib := { z.nib with events := [ev 17 100500] }
         hnd := { z.hnd with ej := { z.hnd.ej with live := [{ id := 0, st := .accepted, opc := 0x20, dst := 0 }] } } }
     let dt : Nat := 3
     let r : Request := rq [0]
     let a : State := s.hears dt 38 r
     let l : Live := { id := 0, st := .accepted, opc := 0x20, dst := 0 }
     let e : Event := ev 17 100500
     (s.elapse dt).turn 38 r = true ∧ Takes a r false false true 1 1 ∧ a.live? (BitVec.ofNat 16 (fld (arg r 0) 15
       0)) = some l ∧ a.event? l.id = some e) ∧
    (let s : State := { live .sorting with log := { z.log with staging := [] } }
     let dt : Nat := 3
     let r : Request := rq [7777]
     let a : State := s.hears dt 38 r
     (s.elapse dt).turn 38 r = true ∧ Takes a r false false true 1 1 ∧ a.live? (BitVec.ofNat 16 (fld (arg r 0) 15
       0)) = none ∧ a.log.staging = []) ∧
    (let s : State := { live .sorting with
         hnd := { z.hnd with
             rs := { z.hnd.rs with live := [{ id := 0x3F07, st := .accepted, opc := 0xF0, dst := 0 }] } } }
     let dt : Nat := 3
     let r : Request := { rq [0x3F07] with urgent := true }
     let a : State := s.hears dt 14 r
     let b : State := a.armDue
     let h : HandleId := 0x3F07
     let l : Live := { id := 0x3F07, st := .accepted, opc := 0xF0, dst := 0 }
     (s.elapse dt).turn 14 r = true ∧ Takes a r true false true 1 1 ∧ h = BitVec.ofNat 16 (fld (arg r 0) 15 0) ∧
       (s.elapse dt).armDue.live? h = some l ∧ l.st = HState.accepted ∧ b.live? h = some l ∧ l.id = h ∧ isEj h =
       false ∧ l.opc = 240 ∧ b.dev.code ≠ Code.draining) ∧
    (let s : State := { live .sorting with
         time := { z.time with n := 5, e := 0, announced := false }
         stage := {}
         par := { z.par with work := [] }
         nib := { z.nib with events := [{ ev 17 100500 with st := .pending }], aborted := [] }
         hnd := { z.hnd with ej := { z.hnd.ej with live := [{ id := 0, st := .accepted, opc := 0x20, dst := 0 }] } } }
     let dt : Nat := 3
     let r : Request := rq [0]
     let a : State := s.hears dt 14 r
     let h : HandleId := 0
     let e : Event := { ev 17 100500 with st := .pending }
     let l : Live := { id := 0, st := .accepted, opc := 0x20, dst := 0 }
     (s.elapse dt).turn 14 r = true ∧ Takes a r true false true 1 1 ∧ h = BitVec.ofNat 16 (fld (arg r 0) 15 0) ∧
       a.nib.events = [e] ∧ e.id = h ∧ isEj h = true ∧ e.carrier = none ∧ e.wasArmed = false ∧ (e.st =
       EState.pending ∧ a.due e = false ∨ e.st = EState.waiting) ∧ a.live? h = some l ∧ l.st = HState.accepted ∧
       (a.mode = 0 ∨ a.mode = 1) ∧ a.dev.code ≠ Code.draining) ∧
    (let s : State := { live .sorting with
         time := { z.time with n := 5, e := 0, announced := false }
         stage := {}
         par := { z.par with work := [] }
         nib := { z.nib with events := [{ ev 17 100500 with st := .waiting }], aborted := [] }
         hnd := { z.hnd with ej := { z.hnd.ej with live := [{ id := 0, st := .accepted, opc := 0x20, dst := 0 }] } } }
     let dt : Nat := 3
     let r : Request := rq [0]
     let a : State := s.hears dt 14 r
     let h : HandleId := 0
     let e : Event := { ev 17 100500 with st := .waiting }
     let l : Live := { id := 0, st := .accepted, opc := 0x20, dst := 0 }
     (s.elapse dt).turn 14 r = true ∧ Takes a r true false true 1 1 ∧ h = BitVec.ofNat 16 (fld (arg r 0) 15 0) ∧
       a.nib.events = [e] ∧ e.id = h ∧ isEj h = true ∧ e.carrier = none ∧ e.wasArmed = false ∧ (e.st =
       EState.pending ∧ a.due e = false ∨ e.st = EState.waiting) ∧ a.live? h = some l ∧ l.st = HState.accepted ∧
       (a.mode = 0 ∨ a.mode = 1) ∧ a.dev.code ≠ Code.draining) ∧
    (let s : State := { live .sorting with
         nib := { z.nib with aborted := [] }
         hnd := { z.hnd with ej := { z.hnd.ej with live := [{ id := 7, st := .retiring, opc := 0x20, dst := 0, final := some .cancelled }] } } }
     let dt : Nat := 3
     let r : Request := rq [7]
     let a : State := s.hears dt 14 r
     let h : HandleId := 7
     let l : Live := { id := 7, st := .retiring, opc := 0x20, dst := 0, final := some .cancelled }
     (s.elapse dt).turn 14 r = true ∧ Takes a r true false true 1 1 ∧ h = BitVec.ofNat 16 (fld (arg r 0) 15 0) ∧
       (s.elapse dt).armDue.live? h = some l ∧ l.st = HState.retiring ∧ (((s.elapse dt).armDue.abortedNow fun (e :
       Event) => e.id == h) = [])) ∧
    (let s : State := { live .sorting with
         hnd := { z.hnd with ej := { z.hnd.ej with live := [{ id := 7, st := .armed, opc := 0x20, dst := 0 }] } } }
     let dt : Nat := 3
     let r : Request := rq [7]
     let a : State := s.hears dt 14 r
     let h : HandleId := 7
     let l : Live := { id := 7, st := .armed, opc := 0x20, dst := 0 }
     (s.elapse dt).turn 14 r = true ∧ Takes a r true false true 1 1 ∧ h = BitVec.ofNat 16 (fld (arg r 0) 15 0) ∧
       (s.elapse dt).armDue.live? h = some l ∧ l.st = HState.armed) ∧
    (let s : State := live .sorting
     let dt : Nat := 3
     let r : Request := rq [7777]
     let a : State := s.hears dt 14 r
     let h : HandleId := 7777
     (s.elapse dt).turn 14 r = true ∧ Takes a r true false true 1 1 ∧ h = BitVec.ofNat 16 (fld (arg r 0) 15 0) ∧
       (s.elapse dt).armDue.live? h = none) := by
  refine ⟨?_, ?_, ?_, ?_, ?_, ?_, ?_, ?_, ?_, ?_, ?_, ?_, ?_, ?_⟩ <;> decide +kernel

theorem test_SortJobsStartAndStop_witness :
    (let s : State := live .idle
     let dt : Nat := 3
     let r : Request := rq [65535]
     let a : State := s.hears dt 36 r
     (s.elapse dt).turn 36 r = true ∧ Takes a r false true false 1 1 ∧ a.dev.code = Code.idle ∧ fld (arg r 0) 15 0 ≠
       0 ∧ (a.dev.master = false ∨ a.dev.chainOk = true)) ∧
    (let s : State := { live .idle with dev := { (live .idle).dev with master := true, chainOk := false } }
     let dt : Nat := 3
     let r : Request := rq [7]
     let a : State := s.hears dt 36 r
     (s.elapse dt).turn 36 r = true ∧ Takes a r false true false 1 1 ∧ a.dev.code = Code.idle ∧ fld (arg r 0) 15 0 ≠
       0 ∧ a.dev.master = true ∧ a.dev.chainOk = false) ∧
    (let s : State := { live .idle with
         dev := { (live .idle).dev with master := true, chainOk := true, heldStarts := [(rq [7], 5)] } }
     let dt : Nat := 3
     let r : Request := rq [7]
     let at_ : Nat := 5
     let a : State := s.elapse dt
     a.dev.chainOk = true ∧ a.answers = true ∧ a.dev.heldStarts = [(r, at_)] ∧ a.dev.code = Code.idle ∧ fld (arg r
       0) 15 0 ≠ 0) ∧
    (let s : State := { live .sorting with
         hnd := { z.hnd with ej := { z.hnd.ej with live := [{ id := 7, st := .armed, opc := 0x20, dst := 0 }] } } }
     let dt : Nat := 3
     let r : Request := rq [0]
     let a : State := s.hears dt 37 r
     (s.elapse dt).turn 37 r = true ∧ Takes a r true true true 1 1 ∧ a.dev.code = Code.sorting ∧ bit (arg r 0) 0 =
       false ∧ a.hnd.ej.live ≠ []) ∧
    (let s : State := { live .sorting with nib := {}, hnd := { z.hnd with ej := { z.hnd.ej with live := [] } } }
     let dt : Nat := 3
     let r : Request := rq [0]
     let a : State := s.hears dt 37 r
     (s.elapse dt).turn 37 r = true ∧ Takes a r true true true 1 1 ∧ a.dev.code = Code.sorting ∧ bit (arg r 0) 0 =
       false ∧ a.hnd.ej.live = [] ∧ a.nib.qA = [] ∧ a.nib.qB = [] ∧ a.nib.qC = [] ∧ a.nib.qD = [] ∧ a.nib.held = []) := by
  refine ⟨?_, ?_, ?_, ?_, ?_⟩ <;> decide +kernel

theorem test_PulseRunsThroughItsPhases_witness :
    (let s : State := { chan .sorting 0 fun c => { c with held := [fr 0], pulse := none, latched := false } with
         vlv := { (chan .sorting 0 fun c => { c with held := [fr 0], pulse := none, latched := false }).vlv with
             quill0 := { z.vlv.quill0 with mirror := 98, allOff := false, stopped := false } } }
     let dt : Nat := 2
     let a : State := s.elapse dt
     let v : Valve := 0
     let c : Chan := a.vlv.chans[v]
     let f : ArmFrame := fr 0
     let l : List ArmFrame := []
     c.held = f :: l ∧ (∀ (p : Pulse), p ∈ c.pulse → p.phase = Phase.turnOff) ∧ c.latched = false ∧ (a.quill
       (quillOfValve v)).allOff = false ∧ (a.quill (quillOfValve v)).stopped = false ∧ (a.quill (quillOfValve
       v)).reached f.cOn = true) ∧
    (let s : State := { chan .sorting 0 fun c => { c with held := [fr 0], pulse := some (pulse 0 .turnOff), latched := false } with
         vlv := { (chan .sorting 0 fun c => { c with held := [fr 0], pulse := some (pulse 0 .turnOff), latched := false }).vlv with
             quill0 := { z.vlv.quill0 with mirror := 98, allOff := false, stopped := false } } }
     let dt : Nat := 2
     let a : State := s.elapse dt
     let v : Valve := 0
     let c : Chan := a.vlv.chans[v]
     let f : ArmFrame := fr 0
     let l : List ArmFrame := []
     c.held = f :: l ∧ (∀ (p : Pulse), p ∈ c.pulse → p.phase = Phase.turnOff) ∧ c.latched = false ∧ (a.quill
       (quillOfValve v)).allOff = false ∧ (a.quill (quillOfValve v)).stopped = false ∧ (a.quill (quillOfValve
       v)).reached f.cOn = true) ∧
    (let s : State := chan .sorting 0 fun c => { c with pulse := some (pulse 0 .swell) }
     let dt : Nat := 2
     let a : State := s.elapse dt
     let free : Prop := a.dog.recalls = []
     let v : Valve := 0
     let c : Chan := a.vlv.chans[v]
     let p : Pulse := pulse 0 .swell
     let current : List Nat := [60000]
     free ∧ c.pulse = some p ∧ p.phase = Phase.swell ∧ p.frame.valve = v ∧ a.swellI p.frame ≤ current.getLastD 0 ∧
       (∀ (i : Nat), i ∈ current.dropLast → i < a.swellI p.frame) ∧ 16 * a.hairlineI p.frame + fld (a.shapeRow
       p.frame) 23 16 < current.getLastD 0) ∧
    (let s : State := { chan .sorting 0 fun c => { c with pulse := some (pulse 0 .swell) } with
         vlv := { (chan .sorting 0 fun c => { c with pulse := some (pulse 0 .swell) }).vlv with
             quill0 := { z.vlv.quill0 with shapes0 := [0x01FFFF8A5000] } } }
     let dt : Nat := 2
     let a : State := s.elapse dt
     let free : Prop := a.dog.recalls = []
     let v : Valve := 0
     let c : Chan := a.vlv.chans[v]
     let p : Pulse := pulse 0 .swell
     let middle : Nat := 16 * a.hairlineI p.frame
     let half : Nat := fld (a.shapeRow p.frame) 23 16
     let current : List Nat := [4218]
     let i : Nat := current.getLastD 0
     free ∧ c.pulse = some p ∧ p.phase = Phase.swell ∧ p.frame.valve = v ∧ a.swellI p.frame ≤ current.getLastD 0 ∧
       (∀ (i : Nat), i ∈ current.dropLast → i < a.swellI p.frame) ∧ i ≤ middle + half) ∧
    (let s : State := { chan .sorting 0 fun c => { c with pulse := some (pulse 0 .swell) } with
         vlv := { (chan .sorting 0 fun c => { c with pulse := some (pulse 0 .swell) }).vlv with
             quill0 := { z.vlv.quill0 with shapes0 := [0x01FFFF8A5000] } } }
     let dt : Nat := 2
     let a : State := s.elapse dt
     let free : Prop := a.dog.recalls = []
     let v : Valve := 0
     let c : Chan := a.vlv.chans[v]
     let p : Pulse := pulse 0 .swell
     let middle : Nat := 16 * a.hairlineI p.frame
     let half : Nat := fld (a.shapeRow p.frame) 23 16
     let current : List Nat := [20]
     let i : Nat := current.getLastD 0
     free ∧ c.pulse = some p ∧ p.phase = Phase.swell ∧ p.frame.valve = v ∧ a.swellI p.frame ≤ current.getLastD 0 ∧
       (∀ (i : Nat), i ∈ current.dropLast → i < a.swellI p.frame) ∧ i ≤ middle + half) ∧
    (let s : State := { chan .sorting 63 fun c => { c with pulse := some (pulse 63 .swell) } with
         vlv := { (chan .sorting 63 fun c => { c with pulse := some (pulse 63 .swell) }).vlv with
             quill1 := { z.vlv.quill1 with shapes0 := [0x4B1900005000] } } }
     let dt : Nat := 200000
     let a : State := s.elapse dt
     let free : Prop := a.dog.recalls = []
     let v : Valve := 63
     let c : Chan := a.vlv.chans[v]
     let p : Pulse := pulse 63 .swell
     let current : List Nat := [800]
     free ∧ c.pulse = some p ∧ p.phase = Phase.swell ∧ p.frame.valve = v ∧ p.startAt + fld (a.shapeRow p.frame) 15
       10 * 10000 ≤ a.clk ∧ (∀ (i : Nat), i ∈ current → i < a.swellI p.frame) ∧ 16 * a.hairlineI p.frame + fld
       (a.shapeRow p.frame) 23 16 < current.getLastD 0) ∧
    (let s : State := chan .sorting 0 fun c => { c with pulse := some (pulse 0 .transition) }
     let dt : Nat := 2
     let a : State := s.elapse dt
     let v : Valve := 0
     let c : Chan := a.vlv.chans[v]
     let p : Pulse := pulse 0 .transition
     c.pulse = some p ∧ p.phase = Phase.transition) ∧
    (let s : State := chan .sorting 0 fun c => { c with pulse := some (pulse 0 .hairline), drive := .fast }
     let dt : Nat := 200
     let a : State := s.elapse dt
     let v : Valve := 0
     let c : Chan := a.vlv.chans[v]
     let p : Pulse := pulse 0 .hairline
     c.pulse = some p ∧ p.phase = Phase.hairline ∧ p.swAt + 200 ≤ a.clk ∧ p.mixAt + 100 ≤ a.clk ∧ c.drive ≠
       Drive.battery) ∧
    (let s : State := chan .sorting 0 fun c => { c with pulse := some (pulse 0 .hairline), drive := .battery }
     let dt : Nat := 200
     let a : State := s.elapse dt
     let v : Valve := 0
     let c : Chan := a.vlv.chans[v]
     let p : Pulse := pulse 0 .hairline
     c.pulse = some p ∧ p.phase = Phase.hairline ∧ p.swAt + 200 ≤ a.clk ∧ p.mixAt + 100 ≤ a.clk ∧ c.drive =
       Drive.battery) ∧
    (let s : State := chan .sorting 0 fun c => { c with pulse := some (pulse 0 .hairline) }
     let dt : Nat := 2
     let a : State := s.elapse dt
     let v : Valve := 0
     let c : Chan := a.vlv.chans[v]
     let p : Pulse := pulse 0 .hairline
     c.pulse = some p ∧ p.phase = Phase.hairline ∧ (a.clk < p.swAt + 200 ∨ a.clk < p.mixAt + 100)) ∧
    (let s : State := { chan .sorting 63 fun c => { c with pulse := some (pulse 63 .hairline), drive := .fast } with
         vlv := { (chan .sorting 63 fun c => { c with pulse := some (pulse 63 .hairline), drive := .fast }).vlv with
             quill1 := { z.vlv.quill1 with shapes0 := [0x0254] } } }
     let dt : Nat := 4200
     let a : State := s.elapse dt
     let v : Valve := 63
     let c : Chan := a.vlv.chans[v]
     let p : Pulse := pulse 63 .hairline
     c.pulse = some p ∧ p.phase = Phase.hairline ∧ fld (a.shapeRow p.frame) 9 8 = 2 ∧ c.drive = Drive.fast ∧
       p.chopAt + fld (a.shapeRow p.frame) 6 1 * 100 ≤ a.clk) := by
  refine ⟨?_, ?_, ?_, ?_, ?_, ?_, ?_, ?_, ?_, ?_, ?_⟩ <;> decide +kernel

theorem test_PulseEndsAndIsProtected_witness :
    (let s : State := { chan .sorting 0 fun c => { c with pulse := some (pulse 0 .swell) } with
         vlv := { (chan .sorting 0 fun c => { c with pulse := some (pulse 0 .swell) }).vlv with
             quill0 := { z.vlv.quill0 with mirror := 299998 } } }
     let dt : Nat := 2
     let a : State := s.elapse dt
     let v : Valve := 0
     let c : Chan := a.vlv.chans[v]
     let p : Pulse := pulse 0 .swell
     a.dog.recalls = [] ∧ c.pulse = some p ∧ p.phase ≠ Phase.turnOff ∧ (a.quill (quillOfValve v)).reached
       p.frame.cOff = true) ∧
    (let s : State := { chan .sorting 0 fun c => { c with pulse := some (pulse 0 .hairline) } with
         vlv := { (chan .sorting 0 fun c => { c with pulse := some (pulse 0 .hairline) }).vlv with
             quill0 := { z.vlv.quill0 with mirror := 299998 } } }
     let dt : Nat := 2
     let a : State := s.elapse dt
     let v : Valve := 0
     let c : Chan := a.vlv.chans[v]
     let p : Pulse := pulse 0 .hairline
     a.dog.recalls = [] ∧ c.pulse = some p ∧ p.phase ≠ Phase.turnOff ∧ (a.quill (quillOfValve v)).reached
       p.frame.cOff = true) ∧
    (let s : State := chan .sorting 0 fun c => { c with pulse := some (pulse 0 .hairline) }
     let dt : Nat := 2
     let a : State := s.elapse dt
     let v : Valve := 0
     let c : Chan := a.vlv.chans[v]
     let p : Pulse := pulse 0 .hairline
     a.dog.recalls = [] ∧ c.pulse = some p ∧ p.phase ≠ Phase.turnOff) ∧
    (let s : State := chan .sorting 0 fun c => { c with pulse := some (pulse 0 .swell) }
     let dt : Nat := 5000
     let a : State := s.elapse dt
     let v : Valve := 0
     let c : Chan := a.vlv.chans[v]
     let p : Pulse := pulse 0 .swell
     a.dog.recalls = [] ∧ c.pulse = some p ∧ p.phase ≠ Phase.turnOff) ∧
    (let s : State := chan .sorting 0 fun c => { c with pulse := some (pulse 0 .turnOff) }
     let dt : Nat := 2
     let a : State := s.elapse dt
     let v : Valve := 0
     let c : Chan := a.vlv.chans[v]
     let p : Pulse := pulse 0 .turnOff
     a.dog.recalls = [] ∧ c.pulse = some p ∧ p.phase = Phase.turnOff) ∧
    (let s : State := chan .sorting 0 fun c => { c with pulse := none }
     let dt : Nat := 2
     let a : State := s.elapse dt
     let v : Valve := 0
     let c : Chan := a.vlv.chans[v]
     a.dog.recalls = [] ∧ c.pulse = none) ∧
    (let s : State := chan .sorting 0 fun c => { c with pulse := some (pulse 0 .swell) }
     let dt : Nat := 5000
     let a : State := s.elapse dt
     let v : Valve := 0
     let c : Chan := a.vlv.chans[v]
     let p : Pulse := pulse 0 .swell
     let current : List Nat := [49]
     a.dog.recalls = [] ∧ c.pulse = some p ∧ p.phase = Phase.swell ∧ p.startAt + 5000 ≤ a.clk ∧ current.getLastD 0 <
       50) ∧
    (let s : State := chan .sorting 31 fun c => { c with held := [fr 31], drive := .boost }
     let dt : Nat := 2
     let a : State := s.elapse dt
     a.dog.recalls = []) ∧
    (let s : State := { live .sorting with vlv := { z.vlv with quill1 := { z.vlv.quill1 with hot := true } } }
     let dt : Nat := 2
     let a : State := s.elapse dt
     let q : Fin 2 := 1
     a.dog.recalls = [] ∧ (a.quill q).hot = true) := by
  refine ⟨?_, ?_, ?_, ?_, ?_, ?_, ?_, ?_, ?_⟩ <;> decide +kernel

theorem test_ReportsReachTheScribe_witness :
    (let s : State := { live .sorting with
         par := { z.par with work := [] }
         stage := {}
         nib := { z.nib with tokens := [{ id := 7, bank := 0, energy := 5, begun := true, fold := true }] }
         vlv := { z.vlv with tests := [], valves := Vector.replicate 64 { eSeeded := true } } }
     let dt : Nat := 2
     let a : State := s.elapse dt
     let r : SwellReport := { valve := 5, handle := 7, ttp := some 3, sig := none, drawn := 1048575, diag := 4 }
     let k : Token := { id := 7, bank := 0, energy := 5, begun := true, fold := true }
     a.nibRuns = true ∧ a.dev.code ≠ Code.draining ∧ (List.find? (fun (t : Token) => t.id == r.handle && t.begun)
       a.nib.tokens = some k)) ∧
    (let s : State := { live .sorting with
         par := { z.par with work := [] }
         stage := {}
         nib := { z.nib with tokens := [{ id := 7, bank := 0, energy := 5, begun := true, fold := true }] }
         vlv := { z.vlv with tests := [], valves := Vector.replicate 64 { eSeeded := false } } }
     let dt : Nat := 2
     let a : State := s.elapse dt
     let r : SwellReport := { valve := 5, handle := 7, ttp := some 30000, sig := some 2000, drawn := 1048575, diag := 0 }
     let k : Token := { id := 7, bank := 0, energy := 5, begun := true, fold := true }
     a.nibRuns = true ∧ a.dev.code ≠ Code.draining ∧ (List.find? (fun (t : Token) => t.id == r.handle && t.begun)
       a.nib.tokens = some k)) ∧
    (let s : State := { live .sorting with
         par := { z.par with work := [] }
         stage := {}
         nib := { z.nib with tokens := [{ id := 7, bank := 0, energy := 5, begun := true, fold := false }] }
         vlv := { z.vlv with tests := [], valves := Vector.replicate 64 { eSeeded := true } } }
     let dt : Nat := 2
     let a : State := s.elapse dt
     let r : SwellReport := { valve := 5, handle := 7, ttp := some 30000, sig := none, drawn := 1048575, diag := 2 }
     let k : Token := { id := 7, bank := 0, energy := 5, begun := true, fold := false }
     a.nibRuns = true ∧ a.dev.code ≠ Code.draining ∧ (List.find? (fun (t : Token) => t.id == r.handle && t.begun)
       a.nib.tokens = some k)) ∧
    (let s : State := { live .sorting with
         par := { z.par with work := [] }
         stage := {}
         nib := { z.nib with tokens := [{ id := 7, bank := 0, energy := 5, begun := true, fold := true }] }
         vlv := { z.vlv with tests := [], valves := Vector.replicate 64 { eSeeded := true } } }
     let dt : Nat := 2
     let a : State := s.elapse dt
     let r : SwellReport := { valve := 5, handle := 7, ttp := none, sig := none, drawn := 1048575, diag := 6 }
     let k : Token := { id := 7, bank := 0, energy := 5, begun := true, fold := true }
     a.nibRuns = true ∧ a.dev.code ≠ Code.draining ∧ (List.find? (fun (t : Token) => t.id == r.handle && t.begun)
       a.nib.tokens = some k)) ∧
    (let s : State := { live .sorting with
         par := { z.par with work := [] }
         stage := {}
         nib := { z.nib with tokens := [{ id := 7, bank := 0, energy := 5, begun := true, fold := true }] }
         vlv := { z.vlv with tests := [], valves := Vector.replicate 64 { eSeeded := true } } }
     let dt : Nat := 2
     let a : State := s.elapse dt
     let r : SwellReport := { valve := 5, handle := 7, ttp := some 30000, sig := some 2000, drawn := 1048575, diag := 0 }
     let held : Nat := a.pf (4416 + ↑r.valve) 0 0
     let timed : Bool := r.diag == 0 || r.diag == 1 || r.diag == 2
     let k : Token := { id := 7, bank := 0, energy := 5, begun := true, fold := true }
     let g : Nat := 2000
     a.nibRuns = true ∧ a.dev.code ≠ Code.draining ∧ (List.find? (fun (t : Token) => t.id == r.handle && t.begun)
       a.nib.tokens = some k) ∧ k.fold = true ∧ timed = true ∧ r.sig = some g ∧ held = 0) ∧
    (let s : State := { live .sorting with
         par := { z.par with work := [] }
         stage := {}
         nib := { z.nib with tokens := [{ id := 7, bank := 0, energy := 5, begun := true, fold := true }] }
         vlv := { z.vlv with tests := [], valves := Vector.replicate 64 { eSeeded := true } } }
     let dt : Nat := 2
     let a : State := s.elapse dt
     let r : SwellReport := { valve := 5, handle := 7, ttp := some 30000, sig := some 2000, drawn := 1048575, diag := 1 }
     let held : Nat := a.pf (4416 + ↑r.valve) 0 0
     let timed : Bool := r.diag == 0 || r.diag == 1 || r.diag == 2
     let k : Token := { id := 7, bank := 0, energy := 5, begun := true, fold := true }
     let g : Nat := 2000
     a.nibRuns = true ∧ a.dev.code ≠ Code.draining ∧ (List.find? (fun (t : Token) => t.id == r.handle && t.begun)
       a.nib.tokens = some k) ∧ k.fold = true ∧ timed = true ∧ r.sig = some g ∧ held = 0) ∧
    (let s : State := { live .sorting with
         par := { z.par with work := [] }
         stage := {}
         nib := { z.nib with tokens := [{ id := 7, bank := 0, energy := 5, begun := true, fold := true }] }
         vlv := { z.vlv with tests := [], valves := Vector.replicate 64 { eSeeded := true } } }
     let dt : Nat := 2
     let a : State := s.elapse dt
     let r : SwellReport := { valve := 5, handle := 7, ttp := some 30000, sig := some 2000, drawn := 1048575, diag := 2 }
     let held : Nat := a.pf (4416 + ↑r.valve) 0 0
     let timed : Bool := r.diag == 0 || r.diag == 1 || r.diag == 2
     let k : Token := { id := 7, bank := 0, energy := 5, begun := true, fold := true }
     let g : Nat := 2000
     a.nibRuns = true ∧ a.dev.code ≠ Code.draining ∧ (List.find? (fun (t : Token) => t.id == r.handle && t.begun)
       a.nib.tokens = some k) ∧ k.fold = true ∧ timed = true ∧ r.sig = some g ∧ held = 0) ∧
    (let s : State := { live .sorting with
         nib := { z.nib with tokens := [], events := [] }
         vlv := { z.vlv with tests := [] } }
     let dt : Nat := 2
     let a : State := s.elapse dt
     let r : OffReport := { valve := 5, handle := 7, recovered := 9, diag := 1, outcome := .fired, samples := [] }
     let refused : Bool := a.nib.tokens.any fun (t : Token) => t.id == r.handle && !t.begun
     a.nibRuns = true ∧ a.dev.code ≠ Code.draining ∧ refused = false ∧ a.test? r.handle = none ∧ a.event? r.handle =
       none) ∧
    (let s : State := { live .sorting with
         nib := { z.nib with tokens := [], events := [] }
         vlv := { z.vlv with tests := [] } }
     let dt : Nat := 2
     let a : State := s.elapse dt
     let r : OffReport := { valve := 5, handle := 7, recovered := 9, diag := 2, outcome := .fired, samples := [] }
     let refused : Bool := a.nib.tokens.any fun (t : Token) => t.id == r.handle && !t.begun
     a.nibRuns = true ∧ a.dev.code ≠ Code.draining ∧ refused = false ∧ a.test? r.handle = none ∧ a.event? r.handle =
       none) ∧
    (let s : State := { live .sorting with
         nib := { z.nib with tokens := [], events := [] }
         vlv := { z.vlv with tests := [] } }
     let dt : Nat := 2
     let a : State := s.elapse dt
     let r : OffReport := { valve := 5, handle := 7, recovered := 9, diag := 3, outcome := .fired, samples := [] }
     let refused : Bool := a.nib.tokens.any fun (t : Token) => t.id == r.handle && !t.begun
     a.nibRuns = true ∧ a.dev.code ≠ Code.draining ∧ refused = false ∧ a.test? r.handle = none ∧ a.event? r.handle =
       none) ∧
    (let s : State := { live .sorting with
         nib := { z.nib with tokens := [], events := [] }
         vlv := { z.vlv with tests := [] } }
     let dt : Nat := 2
     let a : State := s.elapse dt
     let r : OffReport := { valve := 5, handle := 7, recovered := 9, diag := 4, outcome := .fired, samples := [] }
     let refused : Bool := a.nib.tokens.any fun (t : Token) => t.id == r.handle && !t.begun
     a.nibRuns = true ∧ a.dev.code ≠ Code.draining ∧ refused = false ∧ a.test? r.handle = none ∧ a.event? r.handle =
       none) ∧
    (let s : State := { live .sorting with
         par := { z.par with work := [(0x40, 0)] }
         stage := {}
         nib := { z.nib with tokens := [], events := [{ ev 5 100500 with id := 7, st := .armed }] }
         hnd := { z.hnd with ej := { z.hnd.ej with live := [{ id := 7, st := .armed, opc := 0x20, dst := 0 }] } }
         vlv := { z.vlv with tests := [] } }
     let dt : Nat := 2
     let a : State := s.elapse dt
     let r : OffReport := { valve := 5, handle := 7, recovered := 9, diag := 0, outcome := .fired, samples := [] }
     let e : Event := { ev 5 100500 with id := 7, st := .armed }
     let l : Live := { id := 7, st := .armed, opc := 0x20, dst := 0 }
     a.nibRuns = true ∧ a.dev.code ≠ Code.draining ∧ a.nib.events = [e] ∧ e.id = r.handle ∧ e.st = EState.armed ∧
       e.carrier = none ∧ a.test? r.handle = none ∧ a.live? e.id = some l ∧ l.st = HState.armed ∧ a.mode = 0) ∧
    (let s : State := { live .sorting with
         par := { z.par with work := [(0x40, 0)] }
         stage := {}
         nib := { z.nib with tokens := [], events := [{ ev 5 100500 with id := 7, st := .armed }] }
         hnd := { z.hnd with ej := { z.hnd.ej with live := [{ id := 7, st := .armed, opc := 0x20, dst := 0 }] } }
         vlv := { z.vlv with tests := [] } }
     let dt : Nat := 2
     let a : State := s.elapse dt
     let r : OffReport := { valve := 5, handle := 7, recovered := 9, diag := 7, outcome := .cut, samples := [] }
     let e : Event := { ev 5 100500 with id := 7, st := .armed }
     let l : Live := { id := 7, st := .armed, opc := 0x20, dst := 0 }
     a.nibRuns = true ∧ a.dev.code ≠ Code.draining ∧ a.nib.events = [e] ∧ e.id = r.handle ∧ e.st = EState.armed ∧
       e.carrier = none ∧ a.test? r.handle = none ∧ a.live? e.id = some l ∧ l.st = HState.armed ∧ a.mode = 0) ∧
    (let s : State := { live .sorting with
         d2d := { z.d2d with wait := [{ link := 1, msg := .alert .cooled, sentAt := 0, fails := 0 }] } }
     let dt : Nat := 2
     let a : State := s.elapse dt
     let q : Fin 2 := 1
     let x : AlertMsg := .cooled
     let w : D2dWait := { link := 1, msg := .alert .cooled, sentAt := 0, fails := 0 }
     let l : List D2dWait := []
     a.nibRuns = true ∧ a.dev.code ≠ Code.draining ∧ a.d2d.wait = w :: l ∧ w.link = linkOf q ∧ w.msg = D2dMsg.alert
       x) := by
  refine ⟨?_, ?_, ?_, ?_, ?_, ?_, ?_, ?_, ?_, ?_, ?_, ?_, ?_, ?_⟩ <;> decide +kernel

theorem test_BoostBanksFollowTheirTargets_witness :
    (let s : State := { (live .idle).modBank 3 fun k => { k with goal := none } with
         nib := { z.nib with events := [] } }
     let dt : Nat := 2
     let a : State := s.elapse dt
     let b : Bank := 3
     let k : BankSt := a.vlv.banks[b]
     let v : Nat := 2424
     v ≤ 2424 ∧ a.dev.code = Code.idle ∧ k.goal = none ∧ a.nib.events = []) ∧
    (let s : State := (live .idle).modBank 3 fun k => { k with ready := true, outAt := some z.clk }
     let dt : Nat := 100000
     let a : State := s.elapse dt
     let b : Bank := 3
     let k : BankSt := a.vlv.banks[b]
     let x : Nat := z.clk
     k.ready = true ∧ k.outAt = some x ∧ x + 100000 ≤ a.clk) ∧
    (let s : State := { (live .idle).modBank 3 fun k => { k with goal := none } with
         nib := { z.nib with events := [] } }
     let dt : Nat := 2
     let a : State := s.elapse dt
     let b : Bank := 3
     let k : BankSt := a.vlv.banks[b]
     k.outAt = none) ∧
    (let s : State := (live .idle).modBank 3 fun k => { k with ready := true }
     let dt : Nat := 2
     let a : State := s.elapse dt
     let b : Bank := 3
     let k : BankSt := a.vlv.banks[b]
     k.outAt = none) ∧
    (let s : State := (live .idle).modBank 3 fun k => { k with ready := false, phase := .regulated, goal := none }
     let dt : Nat := 2
     let a : State := s.elapse dt
     let b : Bank := 3
     let k : BankSt := a.vlv.banks[b]
     k.outAt = none) ∧
    (let s : State := (live .idle).modBank 3 fun k => { k with ready := false, phase := .regulated, goal := none, bandAt := some z.clk }
     let dt : Nat := 50000
     let a : State := s.elapse dt
     let b : Bank := 3
     let k : BankSt := a.vlv.banks[b]
     let x : Nat := z.clk
     k.phase = BankPhase.regulated ∧ k.ready = false ∧ k.goal = none ∧ k.bandAt = some x ∧ x + 50000 ≤ a.clk) ∧
    (let s : State := { (live .idle).modBank 3 fun k => { k with
         goal := some 200
         target := 199
         ready := false
         rampAt := z.clk } with
         stage := {}
         par := { z.par with work := [] } }
     let dt : Nat := 500000
     let a : State := s.elapse dt
     let b : Bank := 3
     let k : BankSt := a.vlv.banks[b]
     let g : Nat := 200
     k.goal = some g ∧ k.target < g ∧ k.rampAt + ceilDiv 2500000 (a.pf (4112 + ↑b) 26 20) ≤ a.clk ∧ (k.target + 1 ≠
       g ∨ k.ready = false)) ∧
    (let s : State := { live .idle with
         vlv := { z.vlv with
             banks := (z.vlv.banks.map fun k => { k with goalHandle := none }).set 2 {
                 goalHandle := some 0x3F05
                 goalDone := none
                 reachedAt := some z.clk } } }
     let dt : Nat := 10000000
     let a : State := s.elapse dt
     let b : Bank := 2
     let k : BankSt := a.vlv.banks[b]
     let h : HandleId := 0x3F05
     let x : Nat := z.clk
     k.goalHandle = some h ∧ k.goalDone = none ∧ k.reachedAt = some x ∧ x + 10000000 ≤ a.clk ∧ (k.ready = false ∨
       k.bandAt = none) ∧ (∀ (c : Bank), c ≠ b → a.vlv.banks[c].goalHandle = none)) ∧
    (let s : State := { (live .idle).modBank 3 fun k => { k with
         inhHandles := []
         inhibit := 156
         inhAt := z.clk } with
         stage := {}
         par := { z.par with work := [] } }
     let dt : Nat := 100000000
     let a : State := s.elapse dt
     let b : Bank := 3
     let k : BankSt := a.vlv.banks[b]
     k.inhHandles = [] ∧ a.pf (4116 + ↑b) 31 24 < k.inhibit ∧ k.inhAt + 100000000 ≤ a.clk) ∧
    (let s : State := { (live .idle).modBank 3 fun k => { k with goalHandle := none, phase := .regulated } with
         stage := {}
         par := { z.par with work := [] } }
     let dt : Nat := 2
     let b : Bank := 3
     let r : Request := rq [0x120000000008]
     let a : State := s.hears dt 67 r
     (s.elapse dt).turn 67 r = true ∧ Takes a r false true false 1 1 ∧ a.working = true ∧ fld (arg r 0) 3 0 = 2 ^
       b.val ∧ 120 ≤ fld (arg r 0) 47 36 ∧ fld (arg r 0) 47 36 ≤ 288 ∧ a.pf 515 (8 * ↑b + 7) (8 * ↑b) + 16 ≤ fld
       (arg r 0) 47 36 ∧ a.hnd.rs.fresh < 16384 ∧ a.vlv.banks[b].goalHandle = none ∧ a.vlv.banks[b].phase =
       BankPhase.regulated ∧ (a.vlv.banks[b].ready = false ∨ a.vlv.banks[b].target ≠ fld (arg r 0) 47 36)) := by
  refine ⟨?_, ?_, ?_, ?_, ?_, ?_, ?_, ?_, ?_, ?_⟩ <;> decide +kernel

theorem test_ValvesAreTestedAndKept_witness :
    (let s : State := { live .sorting with vlv := { z.vlv with blotAt := z.clk } }
     let dt : Nat := 100000
     let a : State := s.elapse dt
     a.nibRuns = true ∧ a.vlv.blotAt + 100000 ≤ a.clk) ∧
    (let s : State := { live .sorting with vlv := { z.vlv with blotAt := z.clk } }
     let dt : Nat := 399999
     let a : State := s.elapse dt
     a.nibRuns = true ∧ a.vlv.blotAt + 100000 ≤ a.clk) ∧
    (let s : State := { live .sorting with vlv := { z.vlv with saveDue := true } }
     let dt : Nat := 3
     let a : State := s.elapse dt
     a.answers = true ∧ (a.vlv.saveDue = true ∨ a.unsaved = true ∧ a.vlv.savedAt + 360000000000 ≤ a.clk)) ∧
    (let s : State := { live .idle with stage := { st := .open_ } }
     let dt : Nat := 3
     let r : Request := rq [0x107, paramReset 0x1007]
     let a : State := s.hears dt 64 r
     let id : Nat := 4096 + fld (arg r 0) 2 0
     let fs : List Field := (paramFields 0x1007).getD []
     (s.elapse dt).turn 64 r = true ∧ Takes a r false true false 2 2 ∧ a.stage.st = StageSt.open_ ∧ paramFields id =
       some fs ∧ badField fs (arg r 1) = none ∧ rowBad (arg r 1) = none ∧ bit (arg r 0) 8 = true ∧ a.working = true) ∧
    (let s : State := { live .idle with stage := { st := .open_ } }
     let dt : Nat := 3
     let r : Request := rq [0x7, paramReset 0x1007]
     let a : State := s.hears dt 64 r
     let id : Nat := 4096 + fld (arg r 0) 2 0
     let fs : List Field := (paramFields 0x1007).getD []
     (s.elapse dt).turn 64 r = true ∧ Takes a r false true false 2 2 ∧ a.stage.st = StageSt.open_ ∧ paramFields id =
       some fs ∧ badField fs (arg r 1) = none ∧ rowBad (arg r 1) = none ∧ bit (arg r 0) 8 = false ∧ a.dev.code =
       Code.idle) ∧
    (let s : State := { (live .idle).modBank 3 fun k => { k with ready := true, eEst := 100000 } with
         nib := { z.nib with tokens := [] }
         vlv := { ((live .idle).modBank 3 fun k => { k with ready := true, eEst := 100000 }).vlv with
             valves := Vector.replicate 64 {} }
         stage := {}
         par := { z.par with work := [] } }
     let dt : Nat := 3
     let r : Request := rq [0x00C80100003F]
     let a : State := s.hears dt 65 r
     let v : Valve := Fin.ofNat 64 (fld (arg r 0) 5 0)
     (s.elapse dt).turn 65 r = true ∧ Takes a r false false false 1 1 ∧ a.dev.code = Code.idle ∧ a.vlv.banks[bankOf
       v].ready = true ∧ fld (arg r 0) 23 14 ≤ 992 ∧ fld (arg r 0) 31 24 ≠ 0 ∧ 200 ≤ fld (arg r 0) 47 32 ∧ fld (arg
       r 0) 47 32 ≤ 50000 ∧ a.hnd.rs.fresh < 16384 ∧ ↑(a.energyOf v) ≤ a.available (bankOf v) ∧
       a.vlv.valves[v].inhibited = false) ∧
    (let s : State := { (live .idle).modBank 3 fun k => { k with ready := true, eEst := 100000 } with
         nib := { z.nib with tokens := [] }
         hnd := { z.hnd with rs := { z.hnd.rs with live := [] } }
         vlv := { ((live .idle).modBank 3 fun k => { k with ready := true, eEst := 100000 }).vlv with
             valves := Vector.replicate 64 { inhibited := true } }
         stage := {}
         par := { z.par with work := [] } }
     let dt : Nat := 3
     let r : Request := rq [0x00C80100003F]
     let a : State := s.hears dt 65 r
     let v : Valve := Fin.ofNat 64 (fld (arg r 0) 5 0)
     let h : HandleId := a.hnd.idOf a.hnd.rs.fresh
     (s.elapse dt).turn 65 r = true ∧ Takes a r false false false 1 1 ∧ a.dev.code = Code.idle ∧ a.vlv.banks[bankOf
       v].ready = true ∧ fld (arg r 0) 23 14 ≤ 992 ∧ fld (arg r 0) 31 24 ≠ 0 ∧ 200 ≤ fld (arg r 0) 47 32 ∧ fld (arg
       r 0) 47 32 ≤ 50000 ∧ a.hnd.rs.fresh < 16384 ∧ ↑(a.energyOf v) ≤ a.available (bankOf v) ∧
       a.vlv.valves[v].inhibited = true ∧ (∀ (l : Live), l ∈ a.hnd.rs.live → l.id ≠ h)) ∧
    (let s : State := { live .idle with
         nib := { z.nib with tokens := [], events := [] }
         hnd := { z.hnd with rs := { z.hnd.rs with live := [{ id := 0x3F07, st := .armed, opc := 0x41, dst := 0 }] } }
         vlv := { z.vlv with tests := [{ handle := 0x3F07, dst := 0, valve := 5, cOn := 0, energy := 5, interval := 1, samples := 2, cleared := false, ttp := 3, sig := 4, drawn := 5, start := some (6, 7) }] } }
     let dt : Nat := 3
     let a : State := s.elapse dt
     let x : OffReport := { valve := 5, handle := 0x3F07, recovered := 9, diag := 0, outcome := .fired, samples := [1, 2] }
     let k : TestRun := { handle := 0x3F07, dst := 0, valve := 5, cOn := 0, energy := 5, interval := 1, samples := 2, cleared := false, ttp := 3, sig := 4, drawn := 5, start := some (6, 7) }
     let l : Live := { id := 0x3F07, st := .armed, opc := 0x41, dst := 0 }
     a.nibRuns = true ∧ a.dev.code ≠ Code.draining ∧ a.vlv.tests = [k] ∧ k.handle = x.handle ∧ a.live? k.handle =
       some l ∧ l.st = HState.armed) ∧
    (let s : State := live .fault
     let dt : Nat := 3
     let r : Request := rq [63]
     let a : State := s.hears dt 66 r
     (s.elapse dt).turn 66 r = true ∧ Takes a r false false true 1 1) := by
  refine ⟨?_, ?_, ?_, ?_, ?_, ?_, ?_, ?_, ?_⟩ <;> decide +kernel

theorem test_SwitchesObeyCommands_witness :
    (let s : State := powered .idle
     let dt : Nat := 3
     let r : Request := { rq [0x800100000001] with urgent := true }
     let a : State := s.hears dt 80 r
     (s.elapse dt).turn 80 r = true ∧ Takes a r true true false 1 1 ∧ a.working = true ∧ a.kennel.active = false ∧
       fld (arg r 0) 47 32 ≠ 0 ∧ bit (arg r 0) 0 = true ∧ fld (arg r 0) 31 16 = 0) ∧
    (let s : State := powered .idle
     let dt : Nat := 3
     let r : Request := { rq [0x800100000000] with urgent := true }
     let a : State := s.hears dt 80 r
     (s.elapse dt).turn 80 r = true ∧ Takes a r true true false 1 1 ∧ a.working = true ∧ a.kennel.active = false ∧
       fld (arg r 0) 47 32 ≠ 0 ∧ bit (arg r 0) 0 = false ∧ fld (arg r 0) 31 16 = 0) ∧
    (let s : State := powered .idle
     let dt : Nat := 3
     let r : Request := rq [0x800180010000]
     let a : State := s.hears dt 80 r
     (s.elapse dt).turn 80 r = true ∧ Takes a r true true false 1 1 ∧ a.working = true ∧ a.kennel.active = false ∧
       fld (arg r 0) 47 32 ≠ 0 ∧ bit (arg r 0) 0 = false ∧ fld (arg r 0) 31 16 = fld (arg r 0) 47 32 ∧ a.pf 8208 15
       8 = 0 ∧ a.d2d.ferruleHeard ≠ none ∧ a.d2d.ferruleAllOff = false ∧ (∀ (n : Sw), a.sw.ch[n].hotAt ≠ some a.clk)) ∧
    (let s : State := { (powered .idle).modSw 4 fun c => { c with st := .tripShort, tripAt := none, hotAt := some z.clk } with
         par := { z.par with work := [(0x2004, 0)] } }
     let dt : Nat := 0
     let r : Request := rq [0x001000100001]
     let a : State := s.hears dt 80 r
     let n : Sw := 4
     (s.elapse dt).turn 80 r = true ∧ Takes a r true true false 1 1 ∧ a.working = true ∧ a.kennel.active = false ∧
       fld (arg r 0) 47 32 ≠ 0 ∧ bit (arg r 0) 0 = true ∧ fld (arg r 0) 47 32 = 2 ^ n.val ∧ fld (arg r 0) 31 16 = 2
       ^ n.val ∧ a.pf 8208 15 8 = 0 ∧ a.d2d.ferruleHeard ≠ none ∧ a.d2d.ferruleAllOff = false ∧
       a.sw.ch[n].st.latched = true ∧ a.sw.ch[n].tripAt ≠ some a.clk ∧ a.sw.ch[n].hotAt = some a.clk ∧ a.pf (8192 +
       ↑n) 14 14 = 0) ∧
    (let s : State := { (powered .idle).modSw 9 fun c => { c with st := .off } with
         sw := { ((powered .idle).modSw 9 fun c => { c with st := .off }).sw with gaps := [([9, 4], z.clk)] }
         par := { z.par with work := [(0x2010, 0x0500)] } }
     let dt : Nat := 500000
     let a : State := s.elapse dt
     let n : Sw := 9
     let l : List Sw := [4]
     let x : Nat := z.clk
     a.sw.gaps = [(n :: l, x)] ∧ x + a.pf 8208 15 8 * 100000 ≤ a.clk ∧ a.d2d.ferruleHeard ≠ none ∧
       a.d2d.ferruleAllOff = false ∧ a.sw.ch[n].st = SwState.off) ∧
    (let s : State := { (powered .idle).modSw 9 fun c => { c with st := .off } with
         sw := { ((powered .idle).modSw 9 fun c => { c with st := .off }).sw with gaps := [([9], z.clk)] }
         par := { z.par with work := [(0x2010, 0x0500)] } }
     let dt : Nat := 500000
     let a : State := s.elapse dt
     let n : Sw := 9
     let l : List Sw := []
     let x : Nat := z.clk
     a.sw.gaps = [(n :: l, x)] ∧ x + a.pf 8208 15 8 * 100000 ≤ a.clk ∧ a.d2d.ferruleHeard ≠ none ∧
       a.d2d.ferruleAllOff = false ∧ a.sw.ch[n].st = SwState.off) ∧
    (let s : State := live .fault
     let dt : Nat := 3
     let r : Request := rq []
     let a : State := s.hears dt 81 r
     (s.elapse dt).turn 81 r = true ∧ Takes a r false false true 0 0) ∧
    (let s : State := powered .idle
     let dt : Nat := 3
     let r : Request := rq [77, 15]
     let a : State := s.hears dt 83 r
     (s.elapse dt).turn 83 r = true ∧ Takes a r false true false 2 2 ∧ a.working = true) ∧
    (let s : State := live .idle
     let dt : Nat := 3
     let r : Request := rq [77, 15]
     let a : State := s.hears dt 83 r
     (s.elapse dt).turn 83 r = true ∧ Takes a r false true false 2 2 ∧ a.working = true) ∧
    (let s : State := live .idle
     let dt : Nat := 3
     let r : Request := rq [0x80000002]
     let a : State := s.hears dt 82 r
     (s.elapse dt).turn 82 r = true ∧ Takes a r false true false 1 1 ∧ a.working = true ∧ (∀ (n : Sw), fld (arg r 0)
       (2 * ↑n + 1) (2 * ↑n) ≠ 3)) ∧
    (let s : State := { live .idle with par := { z.par with kennelOps := [(rq [1], 1, 5)] } }
     let dt : Nat := 3
     let a : State := s.elapse dt
     let r : Request := rq [1]
     let codes : BitVec 32 := 1
     let x : Nat := 5
     let l : List (Request × BitVec 32 × Nat) := []
     a.par.kennelOps = (r, codes, x) :: l ∧ a.answers = true) ∧
    (let s : State := { live .idle with watch := { z.watch with expired := false } }
     let dt : Nat := 3
     let r : Request := rq []
     let a : State := s.hears dt 84 r
     (s.elapse dt).turn 84 r = true ∧ Takes a r false true false 0 0 ∧ a.working = true ∧ a.watch.expired = false) := by
  refine ⟨?_, ?_, ?_, ?_, ?_, ?_, ?_, ?_, ?_, ?_, ?_, ?_⟩ <;> decide +kernel

theorem test_SwitchesProtectThemselves_witness :
    (let s : State := { (live .idle).modSw 15 fun c => { c with st := .inrush, inrushAt := some z.clk } with
         stage := {}
         par := { z.par with work := [] } }
     let dt : Nat := 2000000
     let a : State := s.elapse dt
     let n : Sw := 15
     let c : Switch := a.sw.ch[n]
     let x : Nat := z.clk
     c.inrushAt = some x ∧ x + a.pf (8192 + ↑n) 31 24 * 100000 ≤ a.clk ∧ c.st = SwState.inrush) ∧
    (let s : State := { (live .idle).modSw 15 fun c => { c with st := .on, inrushAt := none, windowEnd := z.clk } with
         stage := {}
         par := { z.par with work := [] } }
     let dt : Nat := 100000000
     let a : State := s.elapse dt
     let n : Sw := 15
     let c : Switch := a.sw.ch[n]
     let lim : Nat := a.pf (8192 + ↑n) 23 16 * 100000
     let m : Nat := lim
     c.st = SwState.on ∧ a.gated n = false ∧ c.inrushAt = none ∧ lim ≤ m ∧ c.windowEnd + lim ≤ a.clk) ∧
    (let s : State := { (live .idle).modSw 15 fun c => { c with st := .on, inrushAt := none, windowEnd := z.clk } with
         stage := {}
         par := { z.par with work := [] } }
     let dt : Nat := 3
     let a : State := s.elapse dt
     let n : Sw := 15
     let c : Switch := a.sw.ch[n]
     let lim : Nat := a.pf (8192 + ↑n) 23 16 * 100000
     let m : Nat := lim
     c.st = SwState.on ∧ a.gated n = false ∧ c.inrushAt = none ∧ (m < lim ∨ a.clk < c.windowEnd + lim)) ∧
    (let s : State := { (live .idle).modSw 15 fun c => { c with st := .on, inrushAt := none, windowEnd := z.clk } with
         stage := {}
         par := { z.par with work := [] } }
     let dt : Nat := 100000000
     let a : State := s.elapse dt
     let n : Sw := 15
     let c : Switch := a.sw.ch[n]
     let lim : Nat := a.pf (8192 + ↑n) 23 16 * 100000
     let m : Nat := lim - 1
     c.st = SwState.on ∧ a.gated n = false ∧ c.inrushAt = none ∧ (m < lim ∨ a.clk < c.windowEnd + lim)) ∧
    (let s : State := { (live .idle).modSw 15 fun c => { c with st := .on, inrushAt := none, windowEnd := z.clk } with
         stage := {}
         par := { z.par with work := [] } }
     let dt : Nat := 20000
     let a : State := s.elapse dt
     let n : Sw := 15
     let c : Switch := a.sw.ch[n]
     let m : Nat := 20000
     c.st = SwState.on ∧ a.gated n = false ∧ c.inrushAt = none ∧ 20000 ≤ m ∧ c.windowEnd + 20000 ≤ a.clk) ∧
    (let s : State := { (live .idle).modSw 15 fun c => { c with st := .on, inrushAt := none, windowEnd := z.clk } with
         stage := {}
         par := { z.par with work := [] } }
     let dt : Nat := 19999
     let a : State := s.elapse dt
     let n : Sw := 15
     let c : Switch := a.sw.ch[n]
     let m : Nat := 20000
     c.st = SwState.on ∧ a.gated n = false ∧ c.inrushAt = none ∧ (m < 20000 ∨ a.clk < c.windowEnd + 20000)) ∧
    (let s : State := { (live .idle).modSw 15 fun c => { c with st := .on, inrushAt := none, windowEnd := z.clk } with
         stage := {}
         par := { z.par with work := [] } }
     let dt : Nat := 20000
     let a : State := s.elapse dt
     let n : Sw := 15
     let c : Switch := a.sw.ch[n]
     let m : Nat := 19999
     c.st = SwState.on ∧ a.gated n = false ∧ c.inrushAt = none ∧ (m < 20000 ∨ a.clk < c.windowEnd + 20000)) ∧
    (let s : State := { (live .idle).modSw 15 fun c => { c with st := .on, inrushAt := none } with
         stage := {}
         par := { z.par with work := [] } }
     let dt : Nat := 3
     let a : State := s.elapse dt
     let n : Sw := 15
     let c : Switch := a.sw.ch[n]
     c.st = SwState.on ∨ c.st = SwState.inrush) ∧
    (let s : State := { (live .idle).modSw 15 fun c => { c with st := .on, thermals := List.replicate 7 z.clk } with
         stage := {}
         par := { z.par with work := [] } }
     let dt : Nat := 3
     let a : State := s.elapse dt
     let n : Sw := 15
     let c : Switch := a.sw.ch[n]
     c.st = SwState.on ∨ c.st = SwState.inrush) ∧
    (let s : State := { (live .idle).modSw 15 fun c => { c with st := .on, thermals := List.replicate 6 z.clk } with
         stage := {}
         par := { z.par with work := [] } }
     let dt : Nat := 3
     let a : State := s.elapse dt
     let n : Sw := 15
     let c : Switch := a.sw.ch[n]
     c.st = SwState.on ∨ c.st = SwState.inrush) ∧
    (let s : State := { powered .idle with
         sw := { z.sw with shedAt := 0, ch := (Vector.replicate 16 {}).set 7 { st := .on } } }
     let dt : Nat := 3
     let a : State := s.elapse dt
     let n : Sw := 7
     let c : Switch := a.sw.ch[n]
     c.st = SwState.on ∨ c.st = SwState.inrush) ∧
    (let s : State := (powered .idle).modSw 4 fun c => { c with st := .off, offAt := some z.clk }
     let dt : Nat := 0
     let a : State := s.elapse dt
     let n : Sw := 4
     let c : Switch := a.sw.ch[n]
     c.st = SwState.off ∧ c.offAt = some a.clk) ∧
    (let s : State := (powered .idle).modSw 15 fun c => { c with st := .tripShort }
     let dt : Nat := 3
     let a : State := s.elapse dt
     let n : Sw := 15
     let c : Switch := a.sw.ch[n]
     c.st.latched = true) ∧
    (let s : State := (powered .idle).modSw 15 fun c => { c with st := .thermalWait }
     let dt : Nat := 3
     let a : State := s.elapse dt
     let n : Sw := 15
     let c : Switch := a.sw.ch[n]
     c.st = SwState.thermalWait ∧ a.d2d.ferruleHeard ≠ none ∧ a.d2d.ferruleAllOff = false) ∧
    (let s : State := { powered .idle with
         sw := { z.sw with shedAt := 0, ch := (Vector.replicate 16 {}).set 7 { st := .on } } }
     let dt : Nat := 3
     let a : State := s.elapse dt
     let n : Sw := 7
     let sum : Nat := ((powered .idle).pf 8212 6 0 * 2500) + 1
     ((List.filter (fun (m : Sw) => a.conducts m && a.gate != some m) a.startOrder).getLast? = some n) ∧
       (a.sw.shedAt = 0 ∨ a.sw.shedAt + 1000000 ≤ a.clk) ∧ (∀ (m : Sw), a.sw.ch[m].inrushAt = none) ∧ a.pf 8212 6 0
       * 2500 < sum) ∧
    (let s : State := { powered .idle with
         sw := { z.sw with shedAt := 1, ch := (Vector.replicate 16 {}).set 7 { st := .on } } }
     let dt : Nat := 1000001
     let a : State := s.elapse dt
     let n : Sw := 7
     let sum : Nat := ((powered .idle).pf 8212 6 0 * 2500) + 1
     ((List.filter (fun (m : Sw) => a.conducts m && a.gate != some m) a.startOrder).getLast? = some n) ∧
       (a.sw.shedAt = 0 ∨ a.sw.shedAt + 1000000 ≤ a.clk) ∧ (∀ (m : Sw), a.sw.ch[m].inrushAt = none) ∧ a.pf 8212 6 0
       * 2500 < sum) ∧
    (let s : State := { powered .idle with
         sw := { z.sw with shedAt := 0, ch := (Vector.replicate 16 {}).set 7 { st := .on } } }
     let dt : Nat := 3
     let a : State := s.elapse dt
     let n : Sw := 7
     let sum : Nat := ((powered .idle).pf 8212 6 0 * 2500)
     ((List.filter (fun (m : Sw) => a.conducts m && a.gate != some m) a.startOrder).getLast? = some n) ∧
       (a.sw.shedAt = 0 ∨ a.sw.shedAt + 1000000 ≤ a.clk) ∧ (∀ (m : Sw), a.sw.ch[m].inrushAt = none) ∧ sum ≤ a.pf
       8212 6 0 * 2500) ∧
    (let s : State := live .fault
     let dt : Nat := 3
     let a : State := s.elapse dt
     a.dev.code ≠ Code.off) ∧
    (let s : State := (powered .idle).modSw 4 fun c => { c with st := .off, probing := false, probeAt := z.clk }
     let dt : Nat := 1000000
     let a : State := s.elapse dt
     a.dev.code ≠ Code.off) ∧
    (let s : State := (powered .idle).modSw 4 fun c => { c with st := .off, probing := true, probeAt := z.clk }
     let dt : Nat := 100000
     let a : State := s.elapse dt
     a.dev.code ≠ Code.off) ∧
    (let s : State := (powered .idle).modSw 4 fun c => { c with st := .off }
     let dt : Nat := 3
     let a : State := s.elapse dt
     a.dev.code ≠ Code.off) ∧
    (let s : State := (powered .idle).modSw 4 fun c => { c with st := .off, probing := false, probeAt := z.clk, checkAt := z.clk }
     let dt : Nat := 1000000
     let a : State := s.elapse dt
     let n : Sw := 4
     let c : Switch := a.sw.ch[n]
     a.dev.code ≠ Code.off ∧ (c.st = SwState.off ∨ c.st = SwState.thermalWait) ∧ a.pf (8192 + ↑n) 15 15 = 1 ∧
       c.checkAt ≤ a.clk ∧ c.probing = false ∧ c.checkAt + 1000000 ≤ a.clk) ∧
    (let s : State := (powered .idle).modSw 4 fun c => { c with st := .thermalWait, probing := false, probeAt := z.clk, checkAt := z.clk }
     let dt : Nat := 1000000
     let a : State := s.elapse dt
     let n : Sw := 4
     let c : Switch := a.sw.ch[n]
     a.dev.code ≠ Code.off ∧ (c.st = SwState.off ∨ c.st = SwState.thermalWait) ∧ a.pf (8192 + ↑n) 15 15 = 1 ∧
       c.checkAt ≤ a.clk ∧ c.probing = false ∧ c.checkAt + 1000000 ≤ a.clk) ∧
    (let s : State := (powered .idle).modSw 4 fun c => { c with st := .off, probing := true, probeAt := z.clk, checkAt := z.clk }
     let dt : Nat := 100000
     let a : State := s.elapse dt
     let n : Sw := 4
     let c : Switch := a.sw.ch[n]
     a.dev.code ≠ Code.off ∧ (c.st = SwState.off ∨ c.st = SwState.thermalWait) ∧ a.pf (8192 + ↑n) 15 15 = 1 ∧
       c.checkAt ≤ a.clk ∧ c.probing = true ∧ c.probeAt + 100000 ≤ a.clk) ∧
    (let s : State := (powered .idle).modSw 4 fun c => { c with st := .thermalWait, probing := true, probeAt := z.clk, checkAt := z.clk }
     let dt : Nat := 100000
     let a : State := s.elapse dt
     let n : Sw := 4
     let c : Switch := a.sw.ch[n]
     a.dev.code ≠ Code.off ∧ (c.st = SwState.off ∨ c.st = SwState.thermalWait) ∧ a.pf (8192 + ↑n) 15 15 = 1 ∧
       c.checkAt ≤ a.clk ∧ c.probing = true ∧ c.probeAt + 100000 ≤ a.clk) ∧
    (let s : State := (powered .idle).modSw 4 fun c => { c with st := .off, probing := false, probeAt := z.clk, checkAt := z.clk }
     let dt : Nat := 3
     let a : State := s.elapse dt
     let n : Sw := 4
     let c : Switch := a.sw.ch[n]
     a.dev.code ≠ Code.off ∧ (c.st = SwState.off ∨ c.st = SwState.thermalWait) ∧ a.pf (8192 + ↑n) 15 15 = 1 ∧
       c.checkAt ≤ a.clk ∧ c.probing = false) ∧
    (let s : State := (powered .idle).modSw 4 fun c => { c with st := .thermalWait, probing := false, probeAt := z.clk, checkAt := z.clk }
     let dt : Nat := 3
     let a : State := s.elapse dt
     let n : Sw := 4
     let c : Switch := a.sw.ch[n]
     a.dev.code ≠ Code.off ∧ (c.st = SwState.off ∨ c.st = SwState.thermalWait) ∧ a.pf (8192 + ↑n) 15 15 = 1 ∧
       c.checkAt ≤ a.clk ∧ c.probing = false) := by
  refine ⟨?_, ?_, ?_, ?_, ?_, ?_, ?_, ?_, ?_, ?_, ?_, ?_, ?_, ?_, ?_, ?_, ?_, ?_, ?_, ?_, ?_, ?_, ?_, ?_, ?_, ?_,
    ?_⟩ <;> decide +kernel

theorem test_PlantBusTraffic_witness :
    (let s : State := { onBus with bus := { onBus.bus with ring := List.replicate 1023 rx } }
     let dt : Nat := 3
     let a : State := s.elapse dt
     a.busRuns = true ∧ a.bus.role ≠ 1 ∧ (a.bus.st = BusSt.errorActive ∧ a.bus.tec < 128 ∧ a.bus.rec_ < 128 ∨
       a.bus.st = BusSt.listen) ∧ a.bus.ring.length < 1024) ∧
    (let s : State := { onBus with bus := { onBus.bus with ring := List.replicate 1024 rx } }
     let dt : Nat := 3
     let a : State := s.elapse dt
     a.busRuns = true ∧ a.bus.role ≠ 1 ∧ (a.bus.st = BusSt.errorActive ∧ a.bus.tec < 128 ∧ a.bus.rec_ < 128 ∨
       a.bus.st = BusSt.listen) ∧ 1024 ≤ a.bus.ring.length) ∧
    (let s : State := { onBus with
         bus := { onBus.bus with m2 := 0x010000000000, ring := [rx], shadow := z.bus.shadow.take 127 }
         par := { z.par with work := [] }
         stage := {} }
     let dt : Nat := 3
     let a : State := s.elapse dt
     let x : RxFrame := rx
     let l : List RxFrame := []
     a.busRuns = true ∧ a.answers = true ∧ a.clockRuns = true ∧ a.bus.ring = x :: l ∧ a.bus.shadow.length < 128 ∧ (∀
       (i : Nat), i < 64 → a.matchesRule x.frame i = false) ∧ bit a.bus.m2 40 = true) ∧
    (let s : State := { onBus with
         bus := { onBus.bus with m2 := 0, ring := [rx], shadow := z.bus.shadow.take 127 }
         par := { z.par with work := [] }
         stage := {} }
     let dt : Nat := 3
     let a : State := s.elapse dt
     let x : RxFrame := rx
     let l : List RxFrame := []
     a.busRuns = true ∧ a.answers = true ∧ a.clockRuns = true ∧ a.bus.ring = x :: l ∧ a.bus.shadow.length < 128 ∧ (∀
       (i : Nat), i < 64 → a.matchesRule x.frame i = false) ∧ bit a.bus.m2 40 = false) ∧
    (let s : State := { onBus with bus := { onBus.bus with st := .listen } }
     let dt : Nat := 3
     let a : State := s.elapse dt
     a.busRuns = true ∧ a.bus.st = BusSt.listen) ∧
    (let s : State := { onBus with bus := { onBus.bus with st := .integrating, rec_ := 0 } }
     let dt : Nat := 3
     let a : State := s.elapse dt
     a.busRuns = true ∧ a.bus.st = BusSt.integrating ∧ a.bus.tec = 0 ∧ a.bus.rec_ = 0) ∧
    (let s : State := { onBus with bus := { onBus.bus with st := .errorPassive, tec := 250 } }
     let dt : Nat := 3
     let a : State := s.elapse dt
     let n : Nat := 6
     a.busRuns = true ∧ a.bus.st = BusSt.errorPassive ∧ 256 ≤ a.bus.tec + n) ∧
    (let s : State := { onBus with bus := { onBus.bus with tec := 120 } }
     let dt : Nat := 3
     let a : State := s.elapse dt
     let n : Nat := 7
     a.busRuns = true ∧ a.bus.st = BusSt.errorActive ∧ a.bus.tec + n < 128 ∧ a.bus.rec_ < 128) ∧
    (let s : State := { onBus with bus := { onBus.bus with st := .busOff, word := 4 } }
     let dt : Nat := 3
     let a : State := s.elapse dt
     a.busRuns = true ∧ a.bus.st = BusSt.busOff ∧ bit a.bus.word 2 = true) ∧
    (let s : State := { onBus with
         bus := { onBus.bus with tec := 127, tx := [{ frame := remote, slot := none, at_ := z.clk }] } }
     let dt : Nat := 3
     let a : State := s.elapse dt
     let x : TxFrame := { frame := remote, slot := none, at_ := z.clk }
     let ago : Nat := 3
     a.busRuns = true ∧ a.bus.st = BusSt.errorActive ∧ a.bus.tec < 128 ∧ a.bus.rec_ < 128 ∧ a.bus.ref = none ∧
       a.bus.fup = none ∧ a.bus.slotOn = none ∧ a.bus.tx = [x] ∧ x.slot = none ∧ x.at_ + ago ≤ a.clk) ∧
    (let s : State := { onBus with bus := { onBus.bus with st := .stopping } }
     let dt : Nat := 3
     let a : State := s.elapse dt
     a.busRuns = true ∧ a.bus.st = BusSt.stopping) := by
  refine ⟨?_, ?_, ?_, ?_, ?_, ?_, ?_, ?_, ?_, ?_, ?_⟩ <;> decide +kernel

theorem test_MirjanSchedule_witness :
    (let s : State := mirjan 0x801908271064 9999999
     let dt : Nat := 1
     let a : State := s.elapse dt
     let start : Int := a.bus.cycleStart a.full
     a.busRuns = true ∧ a.bus.st = BusSt.errorActive ∧ a.bus.cycleAt ≠ some a.clk ∧ a.bus.cycle ≠ 0 ∧ a.reached
       start = true ∧ start % ↑a.bus.refPeriod = 0 ∧ a.bus.role = 2) ∧
    (let s : State := { mirjan 0x461908271064 9999999 with
         bus := { (mirjan 0x461908271064 9999999).bus with paired := [], origin := -20000000, acting := false } }
     let dt : Nat := 1
     let a : State := s.elapse dt
     let start : Int := a.bus.cycleStart a.full
     a.busRuns = true ∧ a.bus.st = BusSt.errorActive ∧ a.bus.cycleAt ≠ some a.clk ∧ a.bus.cycle ≠ 0 ∧ a.reached
       start = true ∧ start % ↑a.bus.refPeriod = 0 ∧ a.takesOver start = true) ∧
    (let s : State := { mirjan 0x461908271064 9999999 with
         bus := { (mirjan 0x461908271064 9999999).bus with paired := [(0, 0, -20000000), (1, 0, 0)], origin := -40000000, acting := false } }
     let dt : Nat := 1
     let a : State := s.elapse dt
     let start : Int := a.bus.cycleStart a.full
     a.busRuns = true ∧ a.bus.st = BusSt.errorActive ∧ a.bus.cycleAt ≠ some a.clk ∧ a.bus.cycle ≠ 0 ∧ a.reached
       start = true ∧ start % ↑a.bus.refPeriod = 0 ∧ a.takesOver start = true) ∧
    (let s : State := { mirjan 0x801908271064 0 with
         bus := { (mirjan 0x801908271064 0).bus with fup := some { frame := remote, start := 0, at_ := 0 } } }
     let dt : Nat := 250000
     let a : State := s.elapse dt
     let start : Int := a.bus.cycleStart a.full
     let o : Offer := { frame := remote, start := 0, at_ := 0 }
     a.busRuns = true ∧ a.bus.fup = some o ∧ o.start + ↑a.bus.slotLen ≤ a.full) ∧
    (let s : State := { mirjan 0x801908271064 0 with
         bus := { (mirjan 0x801908271064 0).bus with ref := some { frame := remote, start := 0, at_ := 0 } } }
     let dt : Nat := 10000
     let a : State := s.elapse dt
     let start : Int := a.bus.cycleStart a.full
     let o : Offer := { frame := remote, start := 0, at_ := 0 }
     a.busRuns = true ∧ a.bus.ref = some o ∧ o.start + ↑a.bus.guard ≤ a.full) ∧
    (let s : State := { mirjan 0x801908271064 0 with
         bus := { (mirjan 0x801908271064 0).bus with
             m3 := 0x80
             stored := none
             tx := [{ frame := remote, slot := some 7, at_ := 0 }] } }
     let dt : Nat := 1750000
     let a : State := s.elapse dt
     let start : Int := a.bus.cycleStart a.full
     let n : Nat := 7
     let x : TxFrame := { frame := remote, slot := some 7, at_ := 0 }
     a.busRuns = true ∧ a.bus.st = BusSt.errorActive ∧ a.bus.slotAt ≠ some a.clk ∧ 0 < a.bus.slotLen ∧ n = ((a.full
       - start) / ↑a.bus.slotLen).toNat ∧ a.reached (start + ↑(n * a.bus.slotLen)) = true ∧ (fld a.bus.m3 31
       0).testBit n = true ∧ (List.find? (fun (t : TxFrame) => t.slot == some n) a.bus.tx = some x) ∧ a.bus.isMaster
       = true) ∧
    (let s : State := { mirjan 0x801908271064 0 with
         bus := { (mirjan 0x801908271064 0).bus with
             m3 := 0x80
             stored := none
             tx := [{ frame := remote, slot := some 7, at_ := 0 }] } }
     let dt : Nat := 1750000
     let a : State := s.elapse dt
     let start : Int := a.bus.cycleStart a.full
     let n : Nat := 7
     let x : TxFrame := { frame := remote, slot := some 7, at_ := 0 }
     let e : Rat := 0
     a.busRuns = true ∧ a.bus.st = BusSt.errorActive ∧ a.bus.slotAt ≠ some a.clk ∧ 0 < a.bus.slotLen ∧ n = ((a.full
       - start) / ↑a.bus.slotLen).toNat ∧ a.reached (start + ↑(n * a.bus.slotLen)) = true ∧ (fld a.bus.m3 31
       0).testBit n = true ∧ (List.find? (fun (t : TxFrame) => t.slot == some n) a.bus.tx = some x) ∧ a.project
       (start + ↑(n * a.bus.slotLen)) = some e ∧ 2 * e ≤ ↑a.bus.guard * 1000) ∧
    (let s : State := { mirjan 0x001908271064 0 with
         bus := { (mirjan 0x001908271064 0).bus with
             m3 := 0x80
             stored := none
             tx := [{ frame := remote, slot := some 7, at_ := 0 }] } }
     let dt : Nat := 1750000
     let a : State := s.elapse dt
     let start : Int := a.bus.cycleStart a.full
     let n : Nat := 7
     let x : TxFrame := { frame := remote, slot := some 7, at_ := 0 }
     a.busRuns = true ∧ a.bus.st = BusSt.errorActive ∧ a.bus.slotAt ≠ some a.clk ∧ 0 < a.bus.slotLen ∧ n = ((a.full
       - start) / ↑a.bus.slotLen).toNat ∧ a.reached (start + ↑(n * a.bus.slotLen)) = true ∧ (fld a.bus.m3 31
       0).testBit n = true ∧ (List.find? (fun (t : TxFrame) => t.slot == some n) a.bus.tx = some x) ∧ a.bus.isMaster
       = false ∧ a.bus.stored = none) ∧
    (let s : State := { mirjan 0x001908271064 0 with
         bus := { (mirjan 0x001908271064 0).bus with due := true }
         par := { z.par with work := [] }
         stage := {} }
     let dt : Nat := 2000000
     let a : State := s.elapse dt
     let w : Word := a.work 8449
     let cyc : Int := ↑(fld w 29 24 * fld w 23 10 * 100)
     a.busRuns = true ∧ a.bus.due = true ∧ cyc ≠ 0 ∧ a.reached (a.full - a.full % cyc) = true) := by
  refine ⟨?_, ?_, ?_, ?_, ?_, ?_, ?_, ?_, ?_⟩ <;> decide +kernel

theorem test_PlantBusRequests_witness :
    (let s : State := onBus
     let dt : Nat := 3
     let r : Request := rq [paramReset 0x2100]
     let a : State := s.hears dt 96 r
     let fs : List Field := (paramFields 0x2100).getD []
     (s.elapse dt).turn 96 r = true ∧ Takes a r false false false 1 1 ∧ a.working = true ∧ paramFields 8448 = some
       fs ∧ badField fs (arg r 0) = none ∧ busBad 8448 (arg r 0) (a.work 8449) (a.work 8450) (a.work 8451) = none) ∧
    (let s : State := { onBus with par := { z.par with work := [] }, stage := {} }
     let dt : Nat := 3
     let r : Request := rq [paramReset 0x2100]
     let a : State := s.hears dt 96 r
     let fs : List Field := (paramFields 0x2100).getD []
     (s.elapse dt).turn 96 r = true ∧ Takes a r false false false 1 1 ∧ a.working = true ∧ paramFields 8448 = some
       fs ∧ badField fs (arg r 0) = none ∧ busBad 8448 (arg r 0) (a.work 8449) (a.work 8450) (a.work 8451) = none) ∧
    (let s : State := { onBus with bus := { onBus.bus with m3 := 0x80, st := .errorActive, word := 1, tx := List.replicate 255 tx } }
     let dt : Nat := 3
     let r : Request := rq [0x227000000000, 0, 0]
     let n : Nat := fld (arg r 0) 40 36
     let a : State := s.hears dt 97 r
     (s.elapse dt).turn 97 r = true ∧ Takes a r false false false 3 3 ∧ a.working = true ∧ (a.bus.st =
       BusSt.errorActive ∨ a.bus.st = BusSt.errorPassive ∨ a.bus.st = BusSt.integrating ∧ fld a.bus.word 1 0 ≠ 2) ∧
       a.bus.mirjanId (sendFrame r) = false ∧ a.bus.tx.length < 256 ∧ fld (arg r 0) 45 42 ≤ 8 ∧ 1 ≤ n ∧ n < fld
       a.bus.m1 29 24 ∧ (fld a.bus.m3 31 0).testBit n = true) ∧
    (let s : State := { onBus with bus := { onBus.bus with m3 := 0x80, st := .integrating, word := 1, tx := List.replicate 255 tx } }
     let dt : Nat := 3
     let r : Request := rq [0x207000000000, 0, 0]
     let n : Nat := fld (arg r 0) 40 36
     let a : State := s.hears dt 97 r
     (s.elapse dt).turn 97 r = true ∧ Takes a r false false false 3 3 ∧ a.working = true ∧ (a.bus.st =
       BusSt.errorActive ∨ a.bus.st = BusSt.errorPassive ∨ a.bus.st = BusSt.integrating ∧ fld a.bus.word 1 0 ≠ 2) ∧
       a.bus.mirjanId (sendFrame r) = false ∧ a.bus.tx.length < 256 ∧ fld (arg r 0) 45 42 ≤ 8 ∧ 1 ≤ n ∧ n < fld
       a.bus.m1 29 24 ∧ (fld a.bus.m3 31 0).testBit n = true) ∧
    (let s : State := { onBus with bus := { onBus.bus with m3 := 0x80, st := .errorPassive, word := 1, tx := List.replicate 255 tx } }
     let dt : Nat := 3
     let r : Request := rq [0x007000000000, 0, 0]
     let n : Nat := fld (arg r 0) 40 36
     let a : State := s.hears dt 97 r
     (s.elapse dt).turn 97 r = true ∧ Takes a r false false false 3 3 ∧ a.working = true ∧ (a.bus.st =
       BusSt.errorActive ∨ a.bus.st = BusSt.errorPassive ∨ a.bus.st = BusSt.integrating ∧ fld a.bus.word 1 0 ≠ 2) ∧
       a.bus.mirjanId (sendFrame r) = false ∧ a.bus.tx.length < 256 ∧ fld (arg r 0) 45 42 ≤ 8 ∧ 1 ≤ n ∧ n < fld
       a.bus.m1 29 24 ∧ (fld a.bus.m3 31 0).testBit n = true) ∧
    (let s : State := { onBus with bus := { onBus.bus with m3 := 0x80 } }
     let dt : Nat := 3
     let r : Request := rq [0x200000000000, 0, 0]
     let n : Nat := fld (arg r 0) 40 36
     let a : State := s.hears dt 97 r
     (s.elapse dt).turn 97 r = true ∧ Takes a r false false false 3 3 ∧ a.working = true ∧ (a.bus.st =
       BusSt.errorActive ∨ a.bus.st = BusSt.errorPassive ∨ a.bus.st = BusSt.integrating ∧ fld a.bus.word 1 0 ≠ 2) ∧
       a.bus.mirjanId (sendFrame r) = false ∧ (n = 0 ∨ fld a.bus.m1 29 24 ≤ n ∨ (fld a.bus.m3 31 0).testBit n =
       false)) ∧
    (let s : State := { onBus with bus := { onBus.bus with m3 := 0x80 } }
     let dt : Nat := 3
     let r : Request := rq [0x206000000000, 0, 0]
     let n : Nat := fld (arg r 0) 40 36
     let a : State := s.hears dt 97 r
     (s.elapse dt).turn 97 r = true ∧ Takes a r false false false 3 3 ∧ a.working = true ∧ (a.bus.st =
       BusSt.errorActive ∨ a.bus.st = BusSt.errorPassive ∨ a.bus.st = BusSt.integrating ∧ fld a.bus.word 1 0 ≠ 2) ∧
       a.bus.mirjanId (sendFrame r) = false ∧ (n = 0 ∨ fld a.bus.m1 29 24 ≤ n ∨ (fld a.bus.m3 31 0).testBit n =
       false)) ∧
    (let s : State := { onBus with bus := { onBus.bus with m3 := 0x80 } }
     let dt : Nat := 3
     let r : Request := rq [0x208000000000, 0, 0]
     let n : Nat := fld (arg r 0) 40 36
     let a : State := s.hears dt 97 r
     (s.elapse dt).turn 97 r = true ∧ Takes a r false false false 3 3 ∧ a.working = true ∧ (a.bus.st =
       BusSt.errorActive ∨ a.bus.st = BusSt.errorPassive ∨ a.bus.st = BusSt.integrating ∧ fld a.bus.word 1 0 ≠ 2) ∧
       a.bus.mirjanId (sendFrame r) = false ∧ (n = 0 ∨ fld a.bus.m1 29 24 ≤ n ∨ (fld a.bus.m3 31 0).testBit n =
       false)) ∧
    (let s : State := { onBus with bus := { onBus.bus with st := .busOff } }
     let dt : Nat := 3
     let r : Request := rq [0x007000000000, 0, 0]
     let a : State := s.hears dt 97 r
     (s.elapse dt).turn 97 r = true ∧ Takes a r false false false 3 3 ∧ a.working = true ∧ a.bus.st = BusSt.busOff) ∧
    (let s : State := { onBus with bus := { onBus.bus with reading := [rx, rx] } }
     let dt : Nat := 3
     let r : Request := rq [2]
     let a : State := s.hears dt 98 r
     (s.elapse dt).turn 98 r = true ∧ Takes a r false false true 1 1) ∧
    (let s : State := { onBus with bus := { onBus.bus with reading := [rx], shadow := [rx] } }
     let dt : Nat := 3
     let r : Request := rq [1]
     let a : State := s.hears dt 98 r
     (s.elapse dt).turn 98 r = true ∧ Takes a r false false true 1 1) ∧
    (let s : State := onBus
     let dt : Nat := 3
     let r : Request := rq [63, 0x800000000005, 0x1FFFFFFF]
     let a : State := s.hears dt 99 r
     let f0 : List Field := (paramFields 0x21BE).getD []
     let f1 : List Field := (paramFields 0x21BF).getD []
     let w0 : Word := 63
     let x : Word := 0x800000000005
     let y : Word := 0x1FFFFFFF
     (s.elapse dt).turn 99 r = true ∧ Takes a r false false false 3 129 ∧ a.working = true ∧ r.words = [w0, x, y] ∧
       paramFields (8512 + 2 * fld w0 5 0) = some f0 ∧ paramFields (8513 + 2 * fld w0 5 0) = some f1) ∧
    (let s : State := { onBus with bus := { onBus.bus with m3 := 0 } }
     let dt : Nat := 3
     let r : Request := rq []
     let a : State := s.hears dt 100 r
     (s.elapse dt).turn 100 r = true ∧ Takes a r false false false 0 0 ∧ a.working = true ∧ a.nextSlot = none) ∧
    (let s : State := { mirjan 0x001908271064 0 with bus := { (mirjan 0x001908271064 0).bus with m3 := 0x80, stored := none } }
     let dt : Nat := 3
     let r : Request := rq []
     let a : State := s.hears dt 100 r
     let p : Option Pair := a.bus.stored
     let x : Int := (a.nextSlot.getD 0)
     let th : Word × State := a.wordOf ((Option.map (fun (x : Pair) => x.theta) p).getD 0)
     (s.elapse dt).turn 100 r = true ∧ Takes a r false false false 0 0 ∧ a.working = true ∧ a.nextSlot = some x ∧
       th.snd.project x = none) ∧
    (let s : State := { mirjan 0x801908271064 0 with bus := { (mirjan 0x801908271064 0).bus with m3 := 0x80, stored := none } }
     let dt : Nat := 3
     let r : Request := rq []
     let a : State := s.hears dt 100 r
     let p : Option Pair := a.bus.stored
     let x : Int := (a.nextSlot.getD 0)
     let th : Word × State := a.wordOf ((Option.map (fun (x : Pair) => x.theta) p).getD 0)
     let q : Rat := 0
     (s.elapse dt).turn 100 r = true ∧ Takes a r false false false 0 0 ∧ a.working = true ∧ a.nextSlot = some x ∧
       th.snd.project x = some q) := by
  refine ⟨?_, ?_, ?_, ?_, ?_, ?_, ?_, ?_, ?_, ?_, ?_, ?_, ?_, ?_, ?_⟩ <;> decide +kernel

theorem test_GnssRequests_witness :
    (let s : State := base
     let dt : Nat := 3
     let r : Request := rq [3]
     let a : State := s.hears dt 112 r
     (s.elapse dt).turn 112 r = true ∧ Takes a r false false false 1 1 ∧ a.working = true ∧ bit (arg r 0) 0 = true ∧
       a.gnss.on = true) ∧
    (let s : State := { base with gnss := { base.gnss with on := false } }
     let dt : Nat := 3
     let r : Request := rq [3]
     let a : State := s.hears dt 112 r
     (s.elapse dt).turn 112 r = true ∧ Takes a r false false false 1 1 ∧ a.working = true ∧ bit (arg r 0) 0 = true ∧
       a.gnss.on = false) ∧
    (let s : State := { base with hnd := { z.hnd with rs := { z.hnd.rs with live := [] } } }
     let dt : Nat := 3
     let r : Request := rq [2]
     let a : State := s.hears dt 112 r
     (s.elapse dt).turn 112 r = true ∧ Takes a r false false false 1 1 ∧ a.working = true ∧ bit (arg r 0) 0 = false
       ∧ (∀ (l : Live), l ∈ a.hnd.rs.live → l.opc ≠ 113)) ∧
    (let s : State := { base with hnd := { z.hnd with rs := { z.hnd.rs with fresh := 0x3FFF } } }
     let dt : Nat := 3
     let r : Request := rq [0x80000000, 0x4148A19]
     let a : State := s.hears dt 113 r
     (s.elapse dt).turn 113 r = true ∧ Takes a r false false false 2 2 ∧ a.working = true ∧ a.gnss.on = true ∧
       a.clocks.rfLoss = false ∧ a.gnss.ready = true ∧ fld (arg r 0) 31 0 ≠ 0 ∧ 1 ≤ fld (arg r 1) 6 0 ∧ fld (arg r
       1) 6 0 ≤ 64 ∧ 1 ≤ fld (arg r 1) 11 8 ∧ fld (arg r 1) 11 8 ≤ 10 ∧ fld (arg r 1) 11 8 * fld (arg r 1) 6 0 ≤ 256
       ∧ fld (arg r 1) 15 14 ≠ 3 ∧ 2 ≤ fld (arg r 1) 20 16 ∧ fld (arg r 1) 20 16 ≤ 20 ∧ fld (arg r 1) 26 24 ≤ 4 ∧
       a.gnss.running = none ∧ a.gnss.queued = [] ∧ a.gnss.reacqOn = none ∧ a.gnss.reacqs = [] ∧ a.frozen 1 = false
       ∧ a.hnd.rs.fresh < 16384) ∧
    (let s : State := { base with
         gnss := { base.gnss with ready := false, onAt := z.clk, settle := 50, onCap := 3 }
         clocks := { base.clocks with captures := 5 } }
     let dt : Nat := 5000000
     let a : State := s.elapse dt
     a.frozen 1 = false ∧ a.gnss.on = true ∧ a.clocks.rfLoss = false ∧ a.gnss.onAt + a.gnss.settle * 100000 ≤ a.clk
       ∧ a.gnss.onCap + 2 ≤ a.clocks.captures) ∧
    (let s : State := { base with
         clocks := { base.clocks with captures := 1, epoch := 100000, capAt := z.clk, start := none }
         gnss := { base.gnss with running := some (acq, .waits 99998) } }
     let dt : Nat := 2
     let a : State := s.elapse dt
     let q : Acquire := acq
     let since : Int := 99998
     a.frozen 1 = false ∧ a.gnss.running = some (q, AcqPhase.waits since) ∧ a.clocks.rfLoss = false ∧ a.gnss.on =
       true ∧ a.clocks.captures ≠ 0 ∧ a.clocks.start = none ∧ nextEpoch since ≤ a.resolve a.clocks.epoch ∧ a.clk ≤
       a.clocks.capAt + 7) ∧
    (let s : State := { base with
         clocks := { base.clocks with sample := 16368 }
         gnss := { base.gnss with running := some (acq, .captures), blocks := { next := 16367 } } }
     let dt : Nat := 3
     let a : State := s.elapse dt
     let q : Acquire := acq
     let l : List BlockStep := [.sample ⟨true, false⟩]
     a.frozen 1 = false ∧ a.gnss.running = some (q, AcqPhase.captures) ∧ a.clocks.rfLoss = false ∧ a.samplePast
       (q.first + q.nc * q.nnc * 16368) = true ∧ (List.foldl blockStep (a.gnss.blocks, a.gnss.buffer) l).fst.next =
       q.nc * q.nnc * 16368) ∧
    (let s : State := { base with gnss := { base.gnss with running := some (acq, .searches) } }
     let dt : Nat := 3
     let a : State := s.elapse dt
     let q : Acquire := acq
     let x : Int := 5
     a.frozen 1 = false ∧ a.gnss.running = some (q, AcqPhase.searches) ∧ q.tCap = some x ∧ a.gnss.queued = [] ∧
       a.gnss.reacqs = []) ∧
    (let s : State := base
     let dt : Nat := 3
     let a : State := s.elapse dt
     let q : Acquire := acq
     a.frozen 1 = false ∧ q.auto = false) ∧
    (let s : State := { base with
         time := { z.time with n := 99998, e := 0, phi := 0, rho := 0, rhoNext := [] }
         gnss := { base.gnss with running := some (acq, .waits 99998) } }
     let dt : Nat := 2
     let a : State := s.elapse dt
     a.frozen 1 = false ∧ a.gnss.on = true ∧ a.clocks.rfLoss = false) ∧
    (let s : State := { base with gnss := { base.gnss with running := some (acq, .captures) } }
     let dt : Nat := 3
     let a : State := s.elapse dt
     a.frozen 1 = false ∧ a.gnss.on = true ∧ a.clocks.rfLoss = false) ∧
    (let s : State := base
     let dt : Nat := 3
     let a : State := s.elapse dt
     a.frozen 1 = false ∧ a.gnss.on = true ∧ a.clocks.rfLoss = false) ∧
    (let s : State := { base with clocks := { base.clocks with rfLoss := true } }
     let dt : Nat := 3
     let a : State := s.elapse dt
     a.frozen 1 = false ∧ a.clocks.rfLoss = true) ∧
    (let s : State := { base with time := { z.time with n := 77, e := 3, phi := 0, rho := 0, rhoNext := [] } }
     let dt : Nat := 3
     let r : Request := rq [1, 80, 0x83D8F09C4000]
     let a : State := s.hears dt 118 r
     let w0 : Word := 1
     let x : Word := 80
     let w : Word := 0x83D8F09C4000
     (s.elapse dt).turn 118 r = true ∧ Takes a r false false false 1 65 ∧ a.working = true ∧ r.words = [w0, x, w] ∧
       a.full ≤ a.resolve x ∧ 1 ≤ fld w 47 42 ∧ fld w 47 42 ≤ 32 ∧ fld w 23 10 ≤ 10000 ∧ (sfld w 41 24).natAbs ≤
       10000) ∧
    (let s : State := { base with time := { z.time with n := 77, e := 3, phi := 0, rho := 0, rhoNext := [] } }
     let dt : Nat := 3
     let r : Request := rq [1, 80, 0x042710000000]
     let a : State := s.hears dt 118 r
     let w0 : Word := 1
     let x : Word := 80
     let w : Word := 0x042710000000
     (s.elapse dt).turn 118 r = true ∧ Takes a r false false false 1 65 ∧ a.working = true ∧ r.words = [w0, x, w] ∧
       a.full ≤ a.resolve x ∧ 1 ≤ fld w 47 42 ∧ fld w 47 42 ≤ 32 ∧ fld w 23 10 ≤ 10000 ∧ (sfld w 41 24).natAbs ≤
       10000) ∧
    (let s : State := { base with
         gnss := { base.gnss with
             nav := [{
                 prn := 0
                 id := 1
                 rec_ := [1, 2, 3, 4, 5, 6, 7] }, { prn := 1, id := 1, rec_ := [1, 2, 3, 4, 5, 6, 7] }] } }
     let dt : Nat := 3
     let r : Request := rq [2]
     let a : State := s.hears dt 116 r
     (s.elapse dt).turn 116 r = true ∧ Takes a r false false true 1 1 ∧ fld (arg r 0) 47 46 = 0 ∧ 1 ≤ fld (arg r 0)
       5 0 ∧ fld (arg r 0) 5 0 ≤ 36 ∧ fld (arg r 0) 5 0 ≤ a.gnss.nav.length) ∧
    (let s : State := { base with gnss := { base.gnss with meas := [[1], [2, 3]] } }
     let dt : Nat := 3
     let r : Request := rq [256]
     let a : State := s.hears dt 117 r
     let e : List Word := [2, 3]
     (s.elapse dt).turn 117 r = true ∧ Takes a r false false true 1 1 ∧ bit (arg r 0) 8 = true ∧
       a.gnss.meas.getLast? = some e) ∧
    (let s : State := { base with gnss := { base.gnss with meas := [[1], [2, 3]] } }
     let dt : Nat := 3
     let r : Request := rq [2]
     let a : State := s.hears dt 117 r
     (s.elapse dt).turn 117 r = true ∧ Takes a r false false true 1 1 ∧ bit (arg r 0) 8 = false ∧ 1 ≤ fld (arg r 0)
       1 0 ∧ fld (arg r 0) 1 0 ≤ a.gnss.meas.length) := by
  refine ⟨?_, ?_, ?_, ?_, ?_, ?_, ?_, ?_, ?_, ?_, ?_, ?_, ?_, ?_, ?_, ?_, ?_, ?_⟩ <;> decide +kernel

theorem test_PointerChannels_witness :
    (let s : State := { ptr 15 {} with
         time := { z.time with n := 100000000, e := 0, phi := 0, rho := 0, rhoNext := [] }
         gnss := { (ptr 15 {}).gnss with chans := Vector.replicate 16 {}, running := none } }
     let dt : Nat := 0
     let r : Request := rq [0, 0xF41290000000, 261887]
     let c : PChan := Fin.ofNat 16 (fld (arg r 1) 47 44)
     let a : State := s.hears dt 114 r
     (s.elapse dt).turn 114 r = true ∧ Takes a r false false false 3 3 ∧ a.working = true ∧ a.gnss.on = true ∧
       a.clocks.rfLoss = false ∧ a.gnss.ready = true ∧ bit (arg r 1) 43 = false ∧ a.gnss.chans[c].st = ChSt.free ∧
       a.resolve (arg r 0) ≤ a.full ∧ a.full - a.resolve (arg r 0) ≤ 100000000 ∧ 2 ≤ fld (arg r 1) 33 29 ∧ fld (arg
       r 1) 33 29 ≤ 20 ∧ fld (arg r 1) 36 34 ≤ 4 ∧ 1 ≤ fld (arg r 1) 42 37 ∧ fld (arg r 1) 42 37 ≤ 32 ∧ fld (arg r
       2) 17 0 ≤ 261887 ∧ (sfld (arg r 2) 47 24).natAbs ≤ 320000 ∧ a.prnHeld (fld (arg r 1) 42 37 - 1) (some c) =
       false) ∧
    (let s : State := base
     let dt : Nat := 3
     let r : Request := rq [0x8001]
     let a : State := s.hears dt 115 r
     (s.elapse dt).turn 115 r = true ∧ Takes a r false false false 1 1 ∧ a.working = true) ∧
    (let s : State := ptr 3 { st := .pullIn, epoch := 7, codeInc := 0x10000000, code := 16367 / 16, at_ := 0, taken := 0 }
     let dt : Nat := 3
     let c : PChan := 3
     let a : State := s.elapse dt
     let p : Pointer := a.gnss.chans[c]
     let n : Nat := (((p.at_ : Int) + p.left) % 2 ^ 48).toNat
     let rf : List RfPair := [⟨true, false⟩]
     let ecc : Ecc := .clean
     a.frozen 1 = false ∧ a.gnss.on = true ∧ a.clocks.rfLoss = false ∧ p.st.runs = true ∧ (rf.length : Int) =
       (p.taken : Int) + p.left ∧ a.samplePast n = true ∧ a.gnss.fifo = [] ∧ (ecc = Ecc.clean ∨ ecc =
       Ecc.uncorrectable)) ∧
    (let s : State := ptr 3 { st := .pullIn, epoch := 7, codeInc := 0x10000000, code := 16367 / 16, at_ := 0, taken := 0 }
     let dt : Nat := 3
     let c : PChan := 3
     let a : State := s.elapse dt
     let p : Pointer := a.gnss.chans[c]
     let n : Nat := (((p.at_ : Int) + p.left) % 2 ^ 48).toNat
     let rf : List RfPair := [⟨true, false⟩]
     let ecc : Ecc := .uncorrectable
     a.frozen 1 = false ∧ a.gnss.on = true ∧ a.clocks.rfLoss = false ∧ p.st.runs = true ∧ (rf.length : Int) =
       (p.taken : Int) + p.left ∧ a.samplePast n = true ∧ a.gnss.fifo = [] ∧ (ecc = Ecc.clean ∨ ecc =
       Ecc.uncorrectable)) ∧
    (let s : State := ptr 3 { st := .pullIn, epoch := 7 }
     let dt : Nat := 3
     let c : PChan := 3
     let a : State := s.elapse dt
     let p : Pointer := a.gnss.chans[c]
     a.frozen 1 = false ∧ p.st.runs = true ∧ p.st ≠ ChSt.reacquire ∧ a.gnss.fifo = [] ∧ p.next + p.period ≤ p.epoch) ∧
    (let s : State := ptr 3 { st := .track, epoch := 30, next := 10, update := 4 }
     let dt : Nat := 3
     let c : PChan := 3
     let a : State := s.elapse dt
     let p : Pointer := a.gnss.chans[c]
     a.frozen 1 = false ∧ p.st.runs = true ∧ p.st ≠ ChSt.reacquire ∧ a.gnss.fifo = [] ∧ p.next + p.period ≤ p.epoch) ∧
    (let s : State := ptr 3 { st := .track, bitSync := false, clearAt := z.clk }
     let dt : Nat := 1000000000
     let c : PChan := 3
     let a : State := s.elapse dt
     let p : Pointer := a.gnss.chans[c]
     a.frozen 1 = false ∧ p.st = ChSt.track ∧ p.bitSync = false ∧ p.clearAt + 1000000000 ≤ a.clk) ∧
    (let s : State := ptr 3 { st := .track, cn0At := z.clk, pSum := 5, nSum := 5, powers := 3 }
     let dt : Nat := 100000000
     let c : PChan := 3
     let a : State := s.elapse dt
     let p : Pointer := a.gnss.chans[c]
     a.frozen 1 = false ∧ p.st.runs = true ∧ p.cn0At + 100000000 ≤ a.clk) ∧
    (let s : State := ptr 3 { st := .reacquire, failedAt := none }
     let dt : Nat := 3
     let c : PChan := 3
     let a : State := s.elapse dt
     let p : Pointer := a.gnss.chans[c]
     a.frozen 1 = false ∧ p.st = ChSt.reacquire ∧ p.failedAt = none ∧ a.gnss.on = true ∧ a.gnss.reacqs = [] ∧
       a.gnss.reacqOn = none ∧ a.gnss.running = none) ∧
    (let s : State := { ptr 3 { st := .reacquire, tries := 9 } with
         gnss := { (ptr 3 { st := .reacquire, tries := 9 }).gnss with reacqOn := some 3, reacqFrom := 0xFFFFFFFC0100 } }
     let dt : Nat := 3
     let c : PChan := 3
     let a : State := s.elapse dt
     let first : BitVec 48 := 0xFFFFFFFC0100
     let l : List BlockStep := (List.replicate (16 * 16368) ⟨true, false⟩).map .sample
     a.frozen 1 = false ∧ a.gnss.reacqOn = some c ∧ a.clocks.rfLoss = false ∧ a.gnss.reacqs = [] ∧ a.gnss.queued =
       [] ∧ 0 ≤ sampleDiff ↑first.toNat ↑a.gnss.reacqFrom ∧ a.samplePast (first.toNat + 16 * 16368) = true ∧
       (List.foldl blockStep ({ : BlockFifo }, []) l).fst.next = 16 * 16368) ∧
    (let s : State := { ptr 3 { st := .track } with
         clocks := { base.clocks with epoch := 100000000, captures := z.gnss.measCap + 1, capAt := z.clk }
         gnss := { (ptr 3 { st := .track }).gnss with meas := List.replicate 15 [] } }
     let dt : Nat := 0
     let a : State := s.elapse dt
     let on : PChan → Bool := fun (c : PChan) => a.gnss.chans[c].st.runs || a.gnss.chans[c].st == ChSt.stopped
     a.frozen 1 = false ∧ a.pf 8708 9 0 ≠ 0 ∧ a.clocks.captures ≠ a.gnss.measCap ∧ a.clocks.epoch.toNat % (a.pf 8708
       9 0 * 100000) = 0 ∧ a.clocks.capAt = a.clk ∧ a.clocks.start = none ∧ a.gnss.meas.length < 16 ∧ (∃ (c :
       PChan), on c = true)) := by
  refine ⟨?_, ?_, ?_, ?_, ?_, ?_, ?_, ?_, ?_, ⟨?_, ?_, ?_, ?_, ?_, ?_, ?_, (foldl_samples _ _).trans (by rw
    [List.length_replicate])⟩, ?_⟩ <;> decide +kernel

theorem test_TimeRequests_witness :
    (let s : State := timed 3000000000
     let dt : Nat := 3
     let r : Request := rq []
     let a : State := s.hears dt 131 r
     a.time.pending = []) ∧
    (let a : State := { timed 5000 with time := { (timed 5000).time with pending := [{ boundary := 5000, amount := -4294967296, sets := true }] } }
     let p : PendingStep := { boundary := 5000, amount := -4294967296, sets := true }
     let l : List PendingStep := []
     a.time.pending = p :: l ∧ a.clockRuns = true) ∧
    (let a : State := { timed 5000 with time := { (timed 5000).time with pending := [{ boundary := 5001, amount := -4294967296, sets := true }] } }
     let p : PendingStep := { boundary := 5001, amount := -4294967296, sets := true }
     let l : List PendingStep := []
     a.time.pending = p :: l ∧ a.clockRuns = true) ∧
    (let s : State := live .fault
     let dt : Nat := 3
     let r : Request := rq []
     let a : State := s.hears dt 128 r
     (s.elapse dt).turn 128 r = true ∧ Takes a r true false true 0 1 ∧ fld (arg r 0) 1 0 = 0) ∧
    (let s : State := live .idle
     let dt : Nat := 3
     let r : Request := rq [0x104]
     let a : State := s.hears dt 128 r
     (s.elapse dt).turn 128 r = true ∧ Takes a r true false true 0 1 ∧ fld (arg r 0) 1 0 = 0) ∧
    (let s : State := live .idle
     let dt : Nat := 3
     let r : Request := rq [0]
     let a : State := s.hears dt 128 r
     (s.elapse dt).turn 128 r = true ∧ Takes a r true false true 0 1 ∧ fld (arg r 0) 1 0 = 0) ∧
    (let s : State := { live .fault with pps := { z.pps with reports := [pps, pps], captures := [pps, pps, pps] } }
     let dt : Nat := 3
     let r : Request := rq [0x201]
     let a : State := s.hears dt 128 r
     let l : List PpsRec := [pps, pps]
     (s.elapse dt).turn 128 r = true ∧ Takes a r true false true 0 1 ∧ (fld (arg r 0) 1 0 = 1 ∧ l = a.pps.reports ∨
       fld (arg r 0) 1 0 = 2 ∧ l = a.pps.captures) ∧ 1 ≤ fld (arg r 0) 12 8 ∧ fld (arg r 0) 12 8 ≤ 16 ∧ fld (arg r
       0) 12 8 ≤ l.length) ∧
    (let s : State := { live .fault with pps := { z.pps with reports := [pps, pps], captures := [pps, pps, pps] } }
     let dt : Nat := 3
     let r : Request := rq [0x302]
     let a : State := s.hears dt 128 r
     let l : List PpsRec := [pps, pps, pps]
     (s.elapse dt).turn 128 r = true ∧ Takes a r true false true 0 1 ∧ (fld (arg r 0) 1 0 = 1 ∧ l = a.pps.reports ∨
       fld (arg r 0) 1 0 = 2 ∧ l = a.pps.captures) ∧ 1 ≤ fld (arg r 0) 12 8 ∧ fld (arg r 0) 12 8 ≤ 16 ∧ fld (arg r
       0) 12 8 ≤ l.length) ∧
    (let s : State := live .idle
     let dt : Nat := 3
     let r : Request := rq [0x104]
     let a : State := s.hears dt 129 r
     (s.elapse dt).turn 129 r = true ∧ Takes a r false false false 1 1 ∧ fld (arg r 0) 2 0 < 5 ∧ (fld (arg r 0) 2 0
       = 1 → a.dev.master = false) ∧ (fld (arg r 0) 2 0 = 2 → a.pf 8449 47 46 = 1)) ∧
    (let s : State := { live .idle with dev := { (live .idle).dev with master := false } }
     let dt : Nat := 3
     let r : Request := rq [1]
     let a : State := s.hears dt 129 r
     (s.elapse dt).turn 129 r = true ∧ Takes a r false false false 1 1 ∧ fld (arg r 0) 2 0 < 5 ∧ (fld (arg r 0) 2 0
       = 1 → a.dev.master = false) ∧ (fld (arg r 0) 2 0 = 2 → a.pf 8449 47 46 = 1)) ∧
    (let s : State := { live .idle with par := { z.par with work := [(0x2101, 0x401908271064)] }, stage := {} }
     let dt : Nat := 3
     let r : Request := rq [2]
     let a : State := s.hears dt 129 r
     (s.elapse dt).turn 129 r = true ∧ Takes a r false false false 1 1 ∧ fld (arg r 0) 2 0 < 5 ∧ (fld (arg r 0) 2 0
       = 1 → a.dev.master = false) ∧ (fld (arg r 0) 2 0 = 2 → a.pf 8449 47 46 = 1)) ∧
    (let s : State := { timed 1000 with time := { (timed 1000).time with source := 0 } }
     let dt : Nat := 0
     let r : Request := rq [0x7E9108000000, 900]
     let a : State := s.hears dt 130 r
     let d : Int := ((timed 1000).calToFull 0x7E9108000000).getD 0
     (s.elapse dt).turn 130 r = true ∧ Takes a r false false false 2 2 ∧ a.time.source ≠ 1 ∧ a.time.source ≠ 2 ∧
       a.time.pending = [] ∧ a.calToFull (arg r 0) = some d ∧ 0 ≤ d + (a.full - a.resolve (arg r 1))) ∧
    (let s : State := timed 3000000000
     let dt : Nat := 3
     let r : Request := rq []
     let a : State := s.hears dt 131 r
     let v : State := a.shown
     (s.elapse dt).turn 131 r = true ∧ Takes a r false false true 0 0 ∧ 0 ≤ v.full / 100000000 - v.leapCount) ∧
    (let s : State := { timed 1000 with time := { (timed 1000).time with source := 3, forceStep := false } }
     let dt : Nat := 5
     let r : Request := rq [1005, 0xFFFFFFFFFFFF, 0, 0]
     let a : State := s.hears dt 132 r
     (s.elapse dt).turn 132 r = true ∧ Takes a r false false false 4 4 ∧ a.time.source = 3 ∧ a.time.forceStep =
       false ∧ arg r 0 = a.time.n ∧ fld (arg r 2) 31 0 = 0 ∧ a.time.history = [] ∧ arg r 3 = 0 ∧ (sfld (arg r 1) 47
       0).natAbs < a.pf 257 19 0 * 100000) ∧
    (let s : State := { timed 1000 with time := { (timed 1000).time with source := 3, forceStep := false } }
     let dt : Nat := 5
     let r : Request := rq [1005, 0xFFFFFFFFFFFF, 0, 2]
     let a : State := s.hears dt 132 r
     (s.elapse dt).turn 132 r = true ∧ Takes a r false false false 4 4 ∧ a.time.source = 3 ∧ a.time.forceStep =
       false ∧ arg r 0 = a.time.n ∧ fld (arg r 2) 31 0 = 0 ∧ a.time.history = [] ∧ arg r 3 = 2 ∧ a.time.pending = []) ∧
    (let s : State := live .idle
     let dt : Nat := 3
     let r : Request := rq [31, 500000]
     let a : State := s.hears dt 133 r
     (s.elapse dt).turn 133 r = true ∧ Takes a r false false false 2 2 ∧ 1 ≤ fld (arg r 1) 18 0 ∧ fld (arg r 1) 18 0
       ≤ 500000) := by
  refine ⟨?_, ?_, ?_, ?_, ?_, ?_, ?_, ?_, ?_, ?_, ?_, ?_, ?_, ?_, ?_, ?_⟩ <;> decide +kernel

theorem test_TimeBaseEvents_witness :
    (let s : State := { timed 5000 with
         time := { (timed 5000).time with pending := [{ boundary := 5003, amount := -4294967296, sets := true }] }
         stage := { st := .prepared }
         nib := { z.nib with events := [{ ev 17 100500 with st := .armed }] } }
     let dt : Nat := 3
     let a : State := s.elapse dt
     let p : PendingStep := { boundary := 5003, amount := -4294967296, sets := true }
     a.time.pending = [p] ∧ a.clockRuns = true ∧ p.boundary ≤ a.full ∧ a.frozen 0 = false ∧ a.tablesWf = true) ∧
    (let s : State := { timed 5000 with
         time := { (timed 5000).time with pending := [{ boundary := 5004, amount := -4294967296, sets := true }] } }
     let dt : Nat := 3
     let a : State := s.elapse dt
     let p : PendingStep := { boundary := 5004, amount := -4294967296, sets := true }
     a.time.pending = [p] ∧ a.clockRuns = true ∧ a.full < p.boundary) ∧
    (let s : State := { timed 5000 with
         time := { (timed 5000).time with pending := [{ boundary := 5203, amount := -4294967296, sets := true }] } }
     let dt : Nat := 3
     let a : State := s.elapse dt
     let p : PendingStep := { boundary := 5203, amount := -4294967296, sets := true }
     let c : Nat := (((timed 5000).elapse 3).reach 5203).1
     let x : Int := (((timed 5000).elapse 3).reach 5203).2
     a.time.pending = [p] ∧ a.clockRuns = true ∧ a.dev.linksUp = true ∧ a.time.announced = false ∧ a.reach
       p.boundary = (c, x) ∧ a.clk + 200 ≤ c ∧ c ≤ a.clk + 1000) ∧
    (let s : State := { timed 5000 with time := { (timed 5000).time with phi := 0xFFC00000, rho := 14000 } }
     let dt : Nat := 3
     let a : State := s.elapse dt
     let c : Nat := ((a.nextChange).getD (0, false, 0)).1
     let del : Bool := ((a.nextChange).getD (0, false, 0)).2.1
     let x : Int := ((a.nextChange).getD (0, false, 0)).2.2
     a.time.pending = [] ∧ a.clockRuns = true ∧ a.dev.linksUp = true ∧ a.nextChange = some (c, del, x)) ∧
    (let s : State := { timed 5000 with time := { (timed 5000).time with phi := 0x00400000, rho := -14000 } }
     let dt : Nat := 3
     let a : State := s.elapse dt
     let c : Nat := ((a.nextChange).getD (0, false, 0)).1
     let del : Bool := ((a.nextChange).getD (0, false, 0)).2.1
     let x : Int := ((a.nextChange).getD (0, false, 0)).2.2
     a.time.pending = [] ∧ a.clockRuns = true ∧ a.dev.linksUp = true ∧ a.nextChange = some (c, del, x)) ∧
    (let s : State := { timed 5000 with
         time := { (timed 5000).time with heardAt := z.clk, source := 4, holdover := false } }
     let dt : Nat := 2000000000
     let a : State := s.elapse dt
     a.clockRuns = true ∧ a.time.heardAt + a.lossTicks ≤ a.clk ∧ a.time.source ≠ 0 ∧ a.time.holdover = false) ∧
    (let s : State := { timed 0 with
         par := { z.par with work := [(0x106, 0x7E017D0C)] }
         time := { (timed 0).time with n := 66027956182784, e := 11 } }
     let dt : Nat := 0
     let a : State := s.elapse dt
     a.calLimit = false ∧ a.pf 262 17 16 = 1 ∧ a.leapEnd.snd + 1 ≤ a.full / 100000000 - a.leapCount ∧ a.leapCount <
       127 ∧ a.tablesWf = true) ∧
    (let s : State := { timed 99999999 with
         log := { z.log with started := true, xspiOk := true, lost := 0, staging := List.replicate 4095 (0, 0) } }
     let dt : Nat := 1
     let a : State := s.elapse dt
     a.reached (a.full / 100000000 * 100000000) = true ∧ a.time.secondAt ≠ some a.clk ∧ a.log.started = true ∧
       a.log.xspiOk = true ∧ a.log.lost = 0 ∧ a.log.staging.length < 4096) ∧
    (let s : State := { timed 5000 with time := { (timed 5000).time with secondAt := some z.clk } }
     let dt : Nat := 0
     let a : State := s.elapse dt
     a.time.secondAt = some a.clk) ∧
    (let s : State := { z with pps := { z.pps with trailAt := some (z.clk + 3) } }
     let dt : Nat := 3
     let a : State := s.elapse dt
     let x : Nat := z.clk + 3
     a.pps.trailAt = some x ∧ x ≤ 2 * a.clk + 1) ∧
    (let s : State := { timed 99999997 with
         pps := { z.pps with outEn := true, trailAt := none, outGate := false } }
     let dt : Nat := 3
     let a : State := s.elapse dt
     let cable : Int := a.ps 259 31 0
     let second : Int := (a.now10 + cable + 50000000000) / 100000000000
     let half : Bool := false
     let q : Int := 0
     a.clockRuns = true ∧ a.dev.code ≠ Code.off ∧ a.pps.outEn = true ∧ a.pps.trailAt = none ∧ (a.pps.outGate = false
       ∨ a.time.source ≠ 0 ∧ a.time.holdover = false) ∧ a.nearEdge (second * 100000000000 - cable) = some (half, q)) ∧
    (let s : State := timed 99999997
     let dt : Nat := 3
     let a : State := s.elapse dt
     let cable : Int := a.ps 259 31 0
     cable = 0 ∧ a.time.phi = 0 ∧ a.full % 100000000 = 0 ∧ -2 ^ 32 < a.time.rho ∧ -2 ^ 32 < a.lastRate) ∧
    (let s : State := { timed 99999997 with
         pps := { z.pps with inEn := true, lastIn := none }
         time := { (timed 99999997).time with source := 0 } }
     let dt : Nat := 3
     let a : State := s.elapse dt
     a.clockRuns = true ∧ a.dev.code ≠ Code.off ∧ a.pps.inEn = true ∧ a.pps.lastIn = none ∧ a.time.source ≠ 4) := by
  refine ⟨?_, ?_, ?_, ?_, ?_, ?_, ?_, ?_, ?_, ?_, ?_, ?_, ?_⟩ <;> decide +kernel

theorem test_ChainTimeTravels_witness :
    (let s : State := { linked with
         dev := { linked.dev with master := true }
         time := { z.time with n := 99999998, e := 0, phi := 0, rho := 0, rhoNext := [], sentMark := 0 } }
     let dt : Nat := 2
     let a : State := s.elapse dt
     let sub : Nat := 5
     a.dev.master = true ∧ a.linkRuns = true ∧ a.down.state = PortState.up ∧ epochOf a.time.sentMark ≠ epochOf
       (a.at10 sub / 1000)) ∧
    (let s : State := { linked with
         dev := { linked.dev with master := true }
         time := { z.time with markDue := true } }
     let dt : Nat := 2
     let a : State := s.elapse dt
     a.dev.master = true ∧ a.time.markDue = true ∧ a.answers = true ∧ a.down.state = PortState.up) ∧
    (let s : State := { linked with time := { z.time with source := 0 } }
     let dt : Nat := 2
     let a : State := s.elapse dt
     a.linkRuns = true ∧ a.up.state = PortState.up ∧ a.down.state = PortState.up ∧ a.time.source ≠ 1) := by
  refine ⟨?_, ?_, ?_⟩ <;> decide +kernel

theorem test_TraceLogMoves_witness :
    (let s : State := { live .idle with
         stage := {}
         par := { z.par with work := [] }
         log := { z.log with
             started := true
             xspiOk := true
             burst := 0
             staging := List.replicate 33 (5, 6)
             clk := 0 } }
     let dt : Nat := 3
     let a : State := s.elapse dt
     a.logRuns = true ∧ a.log.xspiOk = true ∧ a.log.burst = 0 ∧ a.log.staging ≠ [] ∧ a.pf 8961 0 0 = 0 ∧
       a.log.ring.length + a.log.staging.length ≤ a.ringCap) ∧
    (let s : State := { live .idle with
         log := { z.log with started := true, lost := 0, burst := 2, staging := [(5, 6), (7, 8)] } }
     let dt : Nat := 3
     let a : State := s.elapse dt
     a.logRuns = true ∧ a.log.lost = 0 ∧ 0 < a.log.burst ∧ a.log.burst ≤ a.log.staging.length) ∧
    (let s : State := { live .idle with
         log := { z.log with
             started := true
             xspiOk := true
             passed := 0
             read := some (0x3F05, 7, 1, false)
             ring := [(5, 6), (7, 8)] }
         hnd := { z.hnd with
             rs := { z.hnd.rs with live := [{ id := 0x3F05, st := .accepted, opc := 0xA0, dst := 0 }] } } }
     let dt : Nat := 3
     let a : State := s.elapse dt
     let h : HandleId := 0x3F05
     let start : Word := 7
     let n : Nat := 1
     let x : Word × Rec := (7, 8)
     let l : List (Word × Rec) := []
     a.logRuns = true ∧ a.log.read = some (h, start, n, false) ∧ a.log.passed = 0 ∧ a.log.xspiOk = true ∧
       (List.filter (fun (x : Word × Rec) => !lsnLt x.fst start) a.log.ring = x :: l) ∧ 0 < n ∧ n ≤ l.length + 1) ∧
    (let s : State := { live .idle with
         log := { z.log with started := true, xspiOk := true, lost := 0, staging := List.replicate 4095 (5, 6) } }
     let dt : Nat := 3
     let r : Request := rq [99, 0x200000007]
     let a : State := s.hears dt 161 r
     (s.elapse dt).turn 161 r = true ∧ Takes a r false true false 2 3 ∧ a.working = true ∧ fld (arg r 1) 35 32 ≤ 2 ∧
       a.log.started = true ∧ a.log.xspiOk = true ∧ a.log.lost = 0 ∧ a.log.staging.length < 4096) ∧
    (let s : State := { live .idle with
         log := { z.log with lostFill := 0, head := 9, ring := [(5, 6), (8, 8)] }
         stage := {}
         par := { z.par with work := [] } }
     let dt : Nat := 3
     let r : Request := rq [0x101]
     let a : State := s.hears dt 162 r
     (s.elapse dt).turn 162 r = true ∧ Takes a r false false false 1 2 ∧ a.dev.code = Code.idle ∧ bit (arg r 0) 8 =
       true ∧ bit (arg r 0) 9 = false ∧ a.log.lostFill = 0 ∧ a.tablesWf = true ∧ (∀ (x : Word × Rec), x ∈ a.log.ring
       → lsnLt x.fst a.log.head = true)) ∧
    (let s : State := { live .fault with
         log := { z.log with tail := 5, read := none }
         hnd := { z.hnd with rs := { z.hnd.rs with live := [] } } }
     let dt : Nat := 3
     let r : Request := rq [5, 83]
     let a : State := s.hears dt 160 r
     (s.elapse dt).turn 160 r = true ∧ Takes a r false false true 2 2 ∧ a.dev.code ≠ Code.starting ∧ (∀ (l : Live),
       l ∈ a.hnd.rs.live → l.opc ≠ 160) ∧ 1 ≤ fld (arg r 1) 6 0 ∧ fld (arg r 1) 6 0 ≤ 83 ∧ a.hnd.rs.fresh < 16384 ∧
       lsnLt (arg r 0) a.log.tail = false) := by
  refine ⟨by decide +kernel, by decide +kernel, by decide +kernel, by decide +kernel, ?_, by decide +kernel⟩
  refine ⟨?_, ?_, ?_, ?_, ?_, ?_, ?_, ?_⟩
  · decide +kernel
  · decide +kernel
  · decide +kernel
  · decide +kernel
  · decide +kernel
  · decide +kernel
  · decide +kernel
  · refine forall_mem_of_all ?_
    decide +kernel

theorem test_FirmwareIsLoaded_witness :
    (let s : State := { live .idle with hnd := { z.hnd with rs := { z.hnd.rs with live := [] } } }
     let dt : Nat := 3
     let r : Request := rq [4096, 7]
     let a : State := s.hears dt 240 r
     (s.elapse dt).turn 240 r = true ∧ Takes a r false false false 2 2 ∧ a.working = true ∧ (∀ (l : Live), l ∈
       a.hnd.rs.live → l.opc ≠ 240) ∧ 4096 ≤ fld (arg r 0) 20 0 ∧ fld (arg r 0) 20 0 ≤ 1048576 ∧ a.hnd.rs.fresh <
       16384) ∧
    (let s : State := { live .idle with
         hnd := { z.hnd with rs := { z.hnd.rs with fresh := 0x3FFF, live := [] } } }
     let dt : Nat := 3
     let r : Request := rq [1048576, 7]
     let a : State := s.hears dt 240 r
     (s.elapse dt).turn 240 r = true ∧ Takes a r false false false 2 2 ∧ a.working = true ∧ (∀ (l : Live), l ∈
       a.hnd.rs.live → l.opc ≠ 240) ∧ 4096 ≤ fld (arg r 0) 20 0 ∧ fld (arg r 0) 20 0 ≤ 1048576 ∧ a.hnd.rs.fresh <
       16384) ∧
    (let s : State := { live .idle with
         fw := { z.fw with load := some { handle := 0x3F00, len := 4096, crc := 0 } } }
     let dt : Nat := 3
     let a : State := s.elapse dt
     let l : Load := { handle := 0x3F00, len := 4096, crc := 0 }
     a.fw.load = some l) ∧
    (let s : State := { live .idle with
         fw := { z.fw with
             load := some { handle := 0x3F00, len := 4096, crc := 0, erased := true, bytes := 6, words := [3] } } }
     let dt : Nat := 3
     let r : Request := rq [0x63F00, 9]
     let a : State := s.hears dt 241 r
     let l : Load := { handle := 0x3F00, len := 4096, crc := 0, erased := true, bytes := 6, words := [3] }
     (s.elapse dt).turn 241 r = true ∧ Takes a r false false false 2 255 ∧ a.fw.load = some l ∧ BitVec.toNat
       l.handle = fld (arg r 0) 15 0 ∧ l.erased = true ∧ fld (arg r 0) 35 16 = l.bytes) ∧
    (let s : State := { live .idle with
         fw := { z.fw with
             load := some {
                 handle := 0x3F00
                 len := 4096
                 crc := 0
                 erased := true
                 bytes := 6
                 words := [3]
                 lastOff := some 0
                 last := [3] } } }
     let dt : Nat := 3
     let r : Request := rq [0x3F00, 3]
     let a : State := s.hears dt 241 r
     let l : Load := {
         handle := 0x3F00
         len := 4096
         crc := 0
         erased := true
         bytes := 6
         words := [3]
         lastOff := some 0
         last := [3] }
     (s.elapse dt).turn 241 r = true ∧ Takes a r false false false 2 255 ∧ a.fw.load = some l ∧ BitVec.toNat
       l.handle = fld (arg r 0) 15 0 ∧ l.erased = true ∧ fld (arg r 0) 35 16 ≠ l.bytes ∧ l.lastOff = some (fld (arg
       r 0) 35 16) ∧ l.last = List.drop 1 r.words) ∧
    (let s : State := { live .idle with
         fw := { z.fw with load := some { handle := 0x3F00, len := 4096, crc := 0, erased := true, bytes := 4095 } } }
     let dt : Nat := 3
     let r : Request := rq [0x3F00]
     let a : State := s.hears dt 242 r
     let l : Load := { handle := 0x3F00, len := 4096, crc := 0, erased := true, bytes := 4095 }
     (s.elapse dt).turn 242 r = true ∧ Takes a r false false false 1 1 ∧ a.fw.load = some l ∧ BitVec.toNat l.handle
       = fld (arg r 0) 15 0) ∧
    (let s : State := { live .idle with
         fw := { z.fw with load := some { handle := 0x3F00, len := 4096, crc := 0, erased := true, bytes := 4095 } } }
     let dt : Nat := 3
     let r : Request := rq [0x3F00]
     let a : State := s.hears dt 242 r
     let l : Load := { handle := 0x3F00, len := 4096, crc := 0, erased := true, bytes := 4095 }
     (s.elapse dt).turn 242 r = true ∧ Takes a r false false false 1 1 ∧ a.fw.load = some l ∧ BitVec.toNat l.handle
       = fld (arg r 0) 15 0 ∧ l.bytes < l.len) ∧
    (let s : State := { live .idle with
         fw := { z.fw with load := some { handle := 0x3F00, len := 6, crc := 1 + Load.crcOf { handle := 0x3F00, len := 6, crc := 0, words := [7] }, erased := true, bytes := 6, words := [7] } } }
     let dt : Nat := 3
     let r : Request := rq [0x3F00]
     let a : State := s.hears dt 242 r
     let l : Load := { handle := 0x3F00, len := 6, crc := 1 + Load.crcOf { handle := 0x3F00, len := 6, crc := 0, words := [7] }, erased := true, bytes := 6, words := [7] }
     (s.elapse dt).turn 242 r = true ∧ Takes a r false false false 1 1 ∧ a.fw.load = some l ∧ BitVec.toNat l.handle
       = fld (arg r 0) 15 0 ∧ l.len ≤ l.bytes ∧ l.crcOf ≠ l.crc) ∧
    (let s : State := { live .idle with
         fw := { z.fw with load := some { handle := 0x3F00, len := 6, crc := Load.crcOf { handle := 0x3F00, len := 6, crc := 0, words := [7] }, erased := true, bytes := 6, words := [7] } } }
     let dt : Nat := 3
     let r : Request := rq [0x3F00]
     let a : State := s.hears dt 242 r
     let l : Load := { handle := 0x3F00, len := 6, crc := Load.crcOf { handle := 0x3F00, len := 6, crc := 0, words := [7] }, erased := true, bytes := 6, words := [7] }
     (s.elapse dt).turn 242 r = true ∧ Takes a r false false false 1 1 ∧ a.fw.load = some l ∧ BitVec.toNat l.handle
       = fld (arg r 0) 15 0 ∧ l.len ≤ l.bytes ∧ l.crcOf = l.crc) ∧
    (let s : State := { live .idle with fw := { z.fw with active := false, valid1 := true } }
     let dt : Nat := 3
     let r : Request := rq [1]
     let a : State := s.hears dt 243 r
     (s.elapse dt).turn 243 r = true ∧ Takes a r false false true 1 1 ∧ a.dev.code = Code.idle ∧ bit (arg r 0) 0 =
       true ∧ ((if a.fw.active = true then a.fw.valid0 else a.fw.valid1) = true)) := by
  refine ⟨?_, ?_, ?_, ?_, ?_, ?_, ?_, ?_, ?_, ?_⟩ <;> decide +kernel

theorem test_StagesAreCommitted_witness :
    (let s : State := staging { st := .prepared, id := 3 } 5000
     let dt : Nat := 3
     let r : Request := rq [0xFFFF]
     let a : State := s.hears dt 8 r
     (s.elapse dt).turn 8 r = true ∧ Takes a r false true false 1 1 ∧ a.working = true ∧ (a.stage.st = StageSt.open_
       ∨ a.stage.st = StageSt.prepared) ∧ fld (arg r 0) 15 0 ≠ 0 ∧ mapCheck a.stage.words = none ∧ (∀ (k : Nat), k <
       8 → rowBad (tval a.stage.words (4096 + k)) = none) ∧ a.hnd.rs.fresh < 16384) ∧
    (let s : State := staging { st := .preparing, id := 3, handle := some (0x3F00, 0) } 5000
     let dt : Nat := 3
     let a : State := s.elapse dt
     let h : HandleId := 0x3F00
     let d : Addr := 0
     a.stage.st = StageSt.preparing ∧ a.answers = true ∧ a.stage.handle = some (h, d)) ∧
    (let s : State := staging { st := .armed, id := 7, at_ := 200000, commit := some (run 200000) } 50000
     let dt : Nat := 100000
     let a : State := s.elapse dt
     let c : CommitRun := run 200000
     a.stage.commit = some c ∧ a.answers = true ∧ c.decided = false ∧ c.polledAt + 100000 ≤ a.clk ∧ a.full <
       a.decideAt c.at_) ∧
    (let s : State := staging { st := .armed, id := 7, at_ := 100300, commit := some (run 100300) } 99999
     let dt : Nat := 1
     let a : State := s.elapse dt
     let c : CommitRun := run 100300
     a.stage.commit = some c ∧ a.answers = true ∧ c.decided = false ∧ a.decideAt c.at_ ≤ a.full ∧ a.stage.st =
       StageSt.armed ∧ a.stage.id = c.id ∧ (c.armed ||| 1) &&& a.chainMask = a.chainMask) ∧
    (let s : State := staging { st := .open_, id := 7, at_ := 100300, commit := some (run 100300) } 99999
     let dt : Nat := 1
     let a : State := s.elapse dt
     let c : CommitRun := run 100300
     a.stage.commit = some c ∧ a.answers = true ∧ c.decided = false ∧ a.decideAt c.at_ ≤ a.full ∧ a.stage.st =
       StageSt.open_ ∧ c.armed = 0 ∧ a.chainLength = 1) ∧
    (let s : State := staging {
         st := .settling
         outcome := 1
         lastId := 7
         lastAt := 100000
         commit := some (run 100000) } 99999
     let dt : Nat := 1
     let a : State := s.elapse dt
     let c : CommitRun := run 100000
     a.stage.commit = some c ∧ a.answers = true ∧ c.lastSent = false ∧ c.at_ ≤ a.full ∧ a.stage.st =
       StageSt.settling ∧ a.chainLength = 1 ∧ c.answered = 0 ∧ c.committed = 0 ∧ a.stage.outcome = 1 ∧
       a.stage.lastId = c.id ∧ a.stage.lastAt = c.at_) ∧
    (let s : State := staging {
         st := .settling
         outcome := 1
         lastId := 7
         lastAt := 100000
         commit := some (run 100000) } 1099999
     let dt : Nat := 1
     let a : State := s.elapse dt
     let c : CommitRun := run 100000
     a.stage.commit = some c ∧ a.answers = true ∧ c.at_ + 1000000 ≤ a.full) ∧
    (let s : State := staging {
         st := .armed
         id := 7
         at_ := 100000
         persist := true
         set1 := [(0x240, 1)] } 99999
     let dt : Nat := 1
     let a : State := s.elapse dt
     a.stage.st = StageSt.armed ∧ a.clockRuns = true ∧ a.stage.at_ ≤ a.full) ∧
    (let s : State := staging {
         st := .settling
         id := 7
         persistDue := true
         set1 := [(0x240, 1)]
         force := true } 99999
     let dt : Nat := 1
     let a : State := s.elapse dt
     a.stage.persistDue = true) ∧
    (let s : State := staging {
         st := .settling
         id := 7
         persistDue := true
         set1 := [(0x240, 1)]
         force := true } 99999
     let dt : Nat := 1
     let a : State := s.elapse dt
     a.stage.persistDue = true ∧ a.tablesWf = true) ∧
    (let s : State := staging {
         st := .settling
         id := 7
         lastAt := 0
         set1 := [(0x240, 1)]
         force := true } 39999999
     let dt : Nat := 1
     let a : State := s.elapse dt
     a.stage.st = StageSt.settling ∧ a.clockRuns = true ∧ a.stage.lastAt + 40000000 ≤ a.full) ∧
    (let s : State := staging { st := .prepared, id := 7 } 0
     let dt : Nat := 0
     let r : Request := rq [400, 7]
     let a : State := s.hears dt 9 r
     (s.elapse dt).turn 9 r = true ∧ Takes a r false false false 2 2 ∧ r.src = 0 ∧ a.dev.master = true ∧ a.working =
       true ∧ a.dev.chainOk = true ∧ a.resolve (arg r 0) - a.full ≤ 6000000000 ∧ 2 * ↑a.tReach ≤ a.resolve (arg r 0)
       - a.full ∧ a.stage.st = StageSt.prepared ∧ a.stage.id.toNat = fld (arg r 1) 15 0 ∧ (∀ (l : Live), l ∈
       a.hnd.rs.live → l.opc ≠ 9) ∧ a.hnd.rs.fresh < 16384 ∧ a.tablesWf = true) ∧
    (let s : State := { staging { st := .prepared, id := 7 } 0 with dev := { (live .idle).dev with addr := 2 } }
     let dt : Nat := 0
     let r : Request := { rq [0x2501, 301, 0x2502, 7] with src := 1 }
     let a : State := s.hears dt 7 r
     let x : Word := 301
     let w : Word := 7
     (s.elapse dt).turn 7 r = true ∧ Takes a r false true false 2 32 ∧ r.words = [9473, x, 9474, w] ∧ r.src = 1 ∧
       fld w 47 16 = 0 ∧ a.stage.st = StageSt.prepared ∧ a.stage.id.toNat = BitVec.toNat w ∧ a.full < a.decideAt
       (a.resolve x)) ∧
    (let s : State := staging { st := .prepared, id := 7, set1 := [(0x240, 1)] } 0
     let dt : Nat := 0
     let r : Request := rq [0x10000]
     let a : State := s.hears dt 10 r
     (s.elapse dt).turn 10 r = true ∧ Takes a r true true true 1 1 ∧ (r.urgent = true → ∀ (w : Waiting), w ∈
       s.urgentQ → w.is 10 r = false) ∧ a.stage.st = StageSt.prepared ∧ (bit (arg r 0) 16 = true ∨ a.stage.id.toNat
       = fld (arg r 0) 15 0)) ∧
    (let s : State := staging { st := .prepared, id := 7, set1 := [(0x240, 1)] } 0
     let dt : Nat := 0
     let r : Request := { rq [7] with urgent := true }
     let a : State := s.hears dt 10 r
     (s.elapse dt).turn 10 r = true ∧ Takes a r true true true 1 1 ∧ (r.urgent = true → ∀ (w : Waiting), w ∈
       s.urgentQ → w.is 10 r = false) ∧ a.stage.st = StageSt.prepared ∧ (bit (arg r 0) 16 = true ∨ a.stage.id.toNat
       = fld (arg r 0) 15 0)) ∧
    (let s : State := { staging { st := .open_ } 0 with urgentQ := [{ opc := 10, req := { rq [7] with urgent := true }, recs := 0, acted := some true }] }
     let dt : Nat := 0
     let r : Request := { rq [7] with urgent := true }
     let a : State := s.hears dt 10 r
     let w : Waiting := { opc := 10, req := { rq [7] with urgent := true }, recs := 0, acted := some true }
     let hit : Bool := true
     (s.elapse dt).turn 10 r = true ∧ Takes a r true true true 1 1 ∧ r.urgent = true ∧ (List.find? (fun (x :
       Waiting) => x.is 10 r) s.urgentQ = some w) ∧ w.acted = some hit) ∧
    (let s : State := { staging { st := .open_ } 0 with urgentQ := [{ opc := 10, req := { rq [7] with urgent := true }, recs := 0, acted := some false }] }
     let dt : Nat := 0
     let r : Request := { rq [7] with urgent := true }
     let a : State := s.hears dt 10 r
     let w : Waiting := { opc := 10, req := { rq [7] with urgent := true }, recs := 0, acted := some false }
     let hit : Bool := false
     (s.elapse dt).turn 10 r = true ∧ Takes a r true true true 1 1 ∧ r.urgent = true ∧ (List.find? (fun (x :
       Waiting) => x.is 10 r) s.urgentQ = some w) ∧ w.acted = some hit) := by
  refine ⟨?_, ?_, ?_, ?_, ?_, ?_, ?_, ?_, ?_, ?_, ?_, ?_, ?_, ?_, ?_, ?_, ?_⟩ <;> decide +kernel

theorem test_HangsAreRecalled_witness :
    (let s : State := { live .sorting with
         nib := { z.nib with qA := [{ w0 := 0, w1 := 0, w2 := 0, src := 0, port := .up }] }
         dog := { z.dog with recalls := [], engines := z.dog.engines.set 0 { markAt := z.time.core, leash := 500 } } }
     let dt : Nat := 500
     let a : State := s.elapse dt
     let e : Fin 9 := 0
     let x : Fin 10 := 0
     let l : Nat := 500
     let j : Fin 5 := 0
     x = (Fin.castLE (by decide) e : Fin 10) ∧ jobOf x = some j ∧ a.watching = true ∧ a.frozen j = false ∧ (l = if
       a.dog.engines[x].leash = 0 then a.leashOf x else a.dog.engines[x].leash) ∧ a.busy x l = true ∧
       a.dog.engines[x].markAt + l ≤ a.time.core) ∧
    (let s : State := { live .idle with
         log := { z.log with staging := [(5, 6)] }
         dog := { z.dog with recalls := [], engines := z.dog.engines.set 6 { markAt := z.time.core, leash := 500 } } }
     let dt : Nat := 500
     let a : State := s.elapse dt
     let e : Fin 9 := 6
     let x : Fin 10 := 6
     let l : Nat := 500
     let j : Fin 5 := 2
     x = (Fin.castLE (by decide) e : Fin 10) ∧ jobOf x = some j ∧ a.watching = true ∧ a.frozen j = false ∧ (l = if
       a.dog.engines[x].leash = 0 then a.leashOf x else a.dog.engines[x].leash) ∧ a.busy x l = true ∧
       a.dog.engines[x].markAt + l ≤ a.time.core) ∧
    (let s : State := { live .idle with dog := { z.dog with engines := z.dog.engines.set 9 { markAt := z.time.core, leash := 500 } } }
     let dt : Nat := 500
     let a : State := s.elapse dt
     let x : Engine := a.dog.engines[9]
     a.watching = true ∧ a.dev.dead = none ∧ ((x.markAt + if x.leash = 0 then a.leashOf 9 else x.leash) ≤
       a.time.core)) ∧
    (let s : State := live .idle
     let dt : Nat := 3
     let a : State := s.elapse dt
     let waiter : Fin 9 := 8
     let w : Fin 10 := 8
     let j : Fin 5 := 4
     let waited : Nat := 131071 * 100
     w = (Fin.castLE (by decide) waiter : Fin 10) ∧ jobOf w = some j ∧ a.watching = true ∧ a.frozen j = false ∧
       a.syncTo w (a.time.core - waited) ≤ waited) ∧
    (let s : State := live .sorting
     let dt : Nat := 3
     let a : State := s.elapse dt
     let waiter : Fin 9 := 0
     let w : Fin 10 := 0
     let j : Fin 5 := 0
     let waited : Nat := 131071 * 100
     w = (Fin.castLE (by decide) waiter : Fin 10) ∧ jobOf w = some j ∧ a.watching = true ∧ a.frozen j = false ∧
       a.syncTo w (a.time.core - waited) ≤ waited) ∧
    (let s : State := recalled [rec 2]
     let dt : Nat := 3
     let a : State := s.elapse dt
     let r : Recall := rec 2
     let k : Fin 8 := 7
     a.clockRuns = true ∧ (List.find? (fun (r : Recall) => !r.collected && r.slot.isSome) a.dog.recalls = some r) ∧
       r.slot = some ↑k) ∧
    (let s : State := recalled [{ rec 0 with collected := true }]
     let dt : Nat := 3
     let a : State := s.elapse dt
     let j : Fin 5 := 0
     let r : Recall := { rec 0 with collected := true }
     a.clockRuns = true ∧ (List.find? (fun (r : Recall) => r.job == j && r.collected) a.dog.recalls = some r)) ∧
    (let s : State := recalled [{ rec 1 with collected := true }]
     let dt : Nat := 3
     let a : State := s.elapse dt
     let j : Fin 5 := 1
     let r : Recall := { rec 1 with collected := true }
     a.clockRuns = true ∧ (List.find? (fun (r : Recall) => r.job == j && r.collected) a.dog.recalls = some r)) ∧
    (let s : State := recalled [{ rec 2 with collected := true }]
     let dt : Nat := 3
     let a : State := s.elapse dt
     let j : Fin 5 := 2
     let r : Recall := { rec 2 with collected := true }
     a.clockRuns = true ∧ (List.find? (fun (r : Recall) => r.job == j && r.collected) a.dog.recalls = some r)) ∧
    (let s : State := recalled [{ rec 3 with collected := true }]
     let dt : Nat := 3
     let a : State := s.elapse dt
     let j : Fin 5 := 3
     let r : Recall := { rec 3 with collected := true }
     a.clockRuns = true ∧ (List.find? (fun (r : Recall) => r.job == j && r.collected) a.dog.recalls = some r)) ∧
    (let s : State := recalled [{ rec 4 with collected := true }]
     let dt : Nat := 3
     let a : State := s.elapse dt
     let j : Fin 5 := 4
     let r : Recall := { rec 4 with collected := true }
     a.clockRuns = true ∧ (List.find? (fun (r : Recall) => r.job == j && r.collected) a.dog.recalls = some r)) ∧
    (let s : State := { live .idle with power := { z.power with faultNRecall := some z.clk } }
     let dt : Nat := 100000
     let a : State := s.elapse dt
     let x : Nat := z.clk
     a.power.faultNRecall = some x ∧ a.dog.recalls = [] ∧ x + 100000 ≤ a.clk) := by
  refine ⟨?_, ?_, ?_, ?_, ?_, ?_, ?_, ?_, ?_, ?_, ?_, ?_⟩ <;> decide +kernel

theorem test_SheepdogObeysRequests_witness :
    (let s : State := { live .sorting with
         dev := { (live .sorting).dev with job := 65535 }
         nib := { z.nib with events := [] }
         dog := { z.dog with recalls := [], aborted := false, aborts := [] }
         hnd := { z.hnd with
             rs := { z.hnd.rs with fresh := 0x3FFF }
             ej := { z.hnd.ej with live := [{ id := 7, st := .accepted, opc := 0x20, dst := 0 }] } }
         stage := {}
         par := { z.par with work := [] } }
     let dt : Nat := 3
     let r : Request := { rq [0x8FFFF] with urgent := true }
     let a : State := s.hears dt 147 r
     (s.elapse dt).turn 147 r = true ∧ Takes a r true false false 1 1 ∧ a.dev.code = Code.sorting ∧ fld (arg r 0) 15
       0 = a.dev.job ∧ fld (arg r 0) 17 16 = 0 ∧ fld (arg r 0) 19 18 ≤ 2 ∧ bit (arg r 0) 20 = false ∧ fld (arg r 0)
       23 21 ≤ 2 ∧ a.hnd.rs.fresh < 16384 ∧ a.dog.aborted = false ∧ a.nib.events = [] ∧ a.dog.aborts = [] ∧ a.mode ≠
       2 ∧ a.hnd.ej.live ≠ []) ∧
    (let s : State := { live .sorting with
         dev := { (live .sorting).dev with job := 9 }
         nib := { z.nib with events := [] }
         dog := { z.dog with recalls := [], aborted := false, aborts := [] }
         hnd := { z.hnd with ej := { z.hnd.ej with live := [] } }
         stage := {}
         par := { z.par with work := [] } }
     let dt : Nat := 3
     let r : Request := rq [0x40009]
     let a : State := s.hears dt 147 r
     (s.elapse dt).turn 147 r = true ∧ Takes a r true false false 1 1 ∧ a.dev.code = Code.sorting ∧ fld (arg r 0) 15
       0 = a.dev.job ∧ fld (arg r 0) 17 16 = 0 ∧ fld (arg r 0) 19 18 ≤ 2 ∧ bit (arg r 0) 20 = false ∧ fld (arg r 0)
       23 21 ≤ 2 ∧ a.hnd.rs.fresh < 16384 ∧ a.dog.aborted = false ∧ a.nib.events = [] ∧ a.dog.aborts = [] ∧ a.mode ≠
       2 ∧ a.hnd.ej.live = []) ∧
    (let s : State := { live .sorting with
         dev := { (live .sorting).dev with job := 9 }
         nib := { z.nib with events := [] }
         dog := { z.dog with recalls := [], aborted := false }
         hnd := { z.hnd with ej := { z.hnd.ej with live := [{ id := 7, st := .accepted, opc := 0x20, dst := 0 }] } } }
     let dt : Nat := 3
     let p : Packet := { header := mkHeader 2 1 0x93 0 1 false true true, words := [0x100009] }
     let a : State := s.elapse dt
     a.linkRuns = true ∧ isRelay p = true ∧ a.dev.code = Code.sorting ∧ a.dev.job ≠ 0 ∧ fld (p.words.headD 0) 15 0 =
       a.dev.job ∧ a.dog.aborted = false ∧ a.nib.events = [] ∧ a.hnd.ej.live ≠ []) ∧
    (let s : State := live .idle
     let dt : Nat := 3
     let p : Packet := { header := mkHeader 2 1 0x93 0 1 false true true, words := [0x100009] }
     let a : State := s.elapse dt
     a.linkRuns = true ∧ isRelay p = true ∧ (a.sortJob ≠ fld (p.words.headD 0) 15 0 ∨ a.sortJob = 0)) ∧
    (let s : State := { live .idle with
         dev := { (live .idle).dev with cutOff := true }
         dog := { z.dog with restartAt := some z.clk } }
     let dt : Nat := 3
     let a : State := s.elapse dt
     let x : Nat := z.clk
     a.dog.restartAt = some x ∧ a.dev.code = Code.idle ∧ a.dev.dead = none ∧ a.dev.cutOff = true) ∧
    (let s : State := { live .idle with
         dog := { z.dog with recalls := [], restartAt := some z.clk }
         stage := {}
         par := { z.par with work := [] } }
     let dt : Nat := 50000000
     let a : State := s.elapse dt
     let x : Nat := z.clk
     a.dog.restartAt = some x ∧ a.dev.code = Code.idle ∧ a.dev.dead = none ∧ a.dev.cutOff = false ∧ a.frozen 0 =
       false ∧ x + a.pf 9232 47 38 * 100000 ≤ a.clk) ∧
    (let s : State := live .idle
     let dt : Nat := 3
     let r : Request := rq [0xFA2000000000 + 0x31F]
     let a : State := s.hears dt 144 r
     (s.elapse dt).turn 144 r = true ∧ Takes a r false true false 1 1 ∧ a.working = true ∧ fld (arg r 0) 37 32 ≤ 32
       ∧ fld (arg r 0) 47 38 ≤ 1000 ∧ a.tablesWf = true) ∧
    (let s : State := { live .fault with
         dog := { z.dog with slots := z.dog.slots.set 7 { st := .full, words := List.replicate 6 5 } } }
     let dt : Nat := 3
     let r : Request := rq [0x010004000207]
     let a : State := s.hears dt 145 r
     let k : Fin 8 := 7
     (s.elapse dt).turn 145 r = true ∧ Takes a r false false true 1 1 ∧ k = Fin.ofNat 8 (fld (arg r 0) 2 0) ∧ fld
       (arg r 0) 18 8 ≤ 1364 ∧ 1 ≤ fld (arg r 0) 31 24 ∧ fld (arg r 0) 31 24 ≤ 253 ∧ a.dog.slots[k].st =
       SlotState.full ∧ fld (arg r 0) 18 8 + fld (arg r 0) 31 24 ≤ a.dog.slots[k].words.length) ∧
    (let s : State := { live .fault with
         dog := { z.dog with slots := z.dog.slots.set 7 { st := .free, words := [] } } }
     let dt : Nat := 3
     let r : Request := rq [0xFD000007 - 0x0]
     let a : State := s.hears dt 145 r
     let k : Fin 8 := 7
     (s.elapse dt).turn 145 r = true ∧ Takes a r false false true 1 1 ∧ k = Fin.ofNat 8 (fld (arg r 0) 2 0) ∧ fld
       (arg r 0) 18 8 ≤ 1364 ∧ 1 ≤ fld (arg r 0) 31 24 ∧ fld (arg r 0) 31 24 ≤ 253 ∧ a.dog.slots[k].st =
       SlotState.free) ∧
    (let s : State := { live .fault with hnd := { z.hnd with rs := { z.hnd.rs with fresh := 0x3FFF } } }
     let dt : Nat := 3
     let r : Request := rq [4]
     let a : State := s.hears dt 146 r
     let j : Fin 5 := 4
     (s.elapse dt).turn 146 r = true ∧ Takes a r true false true 1 1 ∧ fld (arg r 0) 2 0 = ↑j ∧ fld (arg r 0) 9 8 ≠
       3 ∧ a.frozen j = false ∧ a.hnd.rs.fresh < 16384) ∧
    (let s : State := live .sorting
     let dt : Nat := 3
     let r : Request := rq [0]
     let a : State := s.hears dt 146 r
     let j : Fin 5 := 0
     (s.elapse dt).turn 146 r = true ∧ Takes a r true false true 1 1 ∧ fld (arg r 0) 2 0 = ↑j ∧ fld (arg r 0) 9 8 ≠
       3 ∧ a.frozen j = false ∧ a.hnd.rs.fresh < 16384) := by
  refine ⟨?_, ?_, ?_, ?_, ?_, ?_, ?_, ?_, ?_, ?_, ?_⟩ <;> decide +kernel

/-- The reset state meets the invariants. -/
theorem test_NumbersStayLegal_witness : z.LegalNumbers ∧ z.HandlesAddUp ∧ z.CreditsBounded := by
  unfold State.LegalNumbers State.HandlesAddUp Pool.AddsUp State.CreditsBounded; decide +kernel

theorem test_TablesKeepOneForm_witness : z.OneForm := by
  unfold State.OneForm; decide +kernel

end Sys2Proof.Tests
end

/-! PROOFS. Rules of the ports: what a change of a port, of a class, an emission and a count leave and read back. -/
section
namespace Sys2Proof.LingarisLink

open Sys2Proof.Machine Sys2Proof.Laws

/-- The other side is another side. -/
@[simp] theorem otherSide_ne (p : Side) : otherSide p ≠ p := by cases p <;> decide

@[simp] theorem ne_otherSide (p : Side) : p ≠ otherSide p := (otherSide_ne p).symm

/-- An emission leaves the ports as they are. -/
@[simp] theorem emit_port (s : State) (o : Out) (p : Side) : (s.emit o).port p = s.port p := by cases p <;> rfl

/-- A count leaves the ports as they are. -/
@[simp] theorem count_port (s : State) (id : Nat) (upper : Bool) (n : Nat) (p : Side) :
    (s.count id upper n).port p = s.port p := by cases p <;> rfl

/-- What is emitted comes last. -/
@[simp] theorem emit_out (s : State) (o : Out) : (s.emit o).out = s.out ++ [o] := rfl

/-- A class of a port after a change of one. -/
@[simp] theorem lane_modLane (q : Port) (u v : Bool) (f : Lane → Lane) :
    (q.modLane u f).lane v = if u = v then f (q.lane v) else q.lane v := by
  cases u <;> cases v <;> rfl

/-- Two changes of one class of a port are one. -/
@[simp] theorem modLane_modLane (q : Port) (u : Bool) (f g : Lane → Lane) :
    (q.modLane u f).modLane u g = q.modLane u fun l => g (f l) := by
  cases u <;> rfl

/-- Two changes of one port are one. -/
@[simp] theorem modPort_modPort (s : State) (p : Side) (f g : Port → Port) :
    (s.modPort p f).modPort p g = s.modPort p fun q => g (f q) := by
  cases p <;> rfl

/-- What a count makes of the parameters depends on the parameters and the tick alone. -/
theorem count_par_congr {s t : State} (id : Nat) (upper : Bool) (n : Nat) (par : s.par = t.par) (clk : s.clk = t.clk) :
    (s.count id upper n).par = (t.count id upper n).par := by
  simp [State.count, State.seenNow, par, clk]

/-- The parameter that holds CRC_FAIL and REPLAY of a port (R105). -/
def portCounter (side : Side) : Nat := if side == .up then 0x35 else 0x36

end Sys2Proof.LingarisLink
end

/-! PROOFS. The legal numbers (R90, R170, R212): a legal state with a next state that is not. -/
section
namespace Sys2Proof.LingarisLink

open Sys2Proof.Machine Sys2Proof.Laws

/-- A part in IDLE with its clock running, whose link has written WATCH in this tick (R154) and whose copy of WATCH from
before that write holds the period 0. The service port's write that clears EXPIRED waits in the queue. -/
def staleWatchCopy : State :=
  { State.reset with
    dev := { State.reset.dev with code := .idle, startStep := 0 }
    clocks := { State.reset.clocks with locked := true }
    regs := { State.reset.regs with linkAt := 0, linkWrote := [(9, 0x20000000)], watchWas := { period := 0 } }
    pending := [.watchClear 0 .svc] }

/-- Its numbers are legal: LegalNumbers speaks of WATCH, and not of the copy of WATCH. -/
theorem staleWatchCopy_legal : staleWatchCopy.LegalNumbers := by
  unfold State.LegalNumbers; decide

/-- The service port's write of the tick meets the copy (R154, R175), and its period is the next state's. -/
theorem staleWatchCopy_next : ∃ t, Next staleWatchCopy t ∧ t.watch.period = 0 := ⟨_, rfl, by decide⟩

/-- Refutes O59: the numbers of a state can be legal while the copy of WATCH that the service port's write takes back
(R154, R175) holds an illegal period, and the next state has that period. The state is not claimed to be reachable: the statement
asks for each state in which the named numbers are legal, and its list leaves the copy out. -/
theorem not_numbersStayLegal : ¬ Obligations.NumbersStayLegal := by
  unfold Obligations.NumbersStayLegal
  rintro ⟨legal, -, -⟩
  obtain ⟨t, step, period⟩ := staleWatchCopy_next
  obtain ⟨-, -, -, -, low, -⟩ := legal _ t staleWatchCopy_legal step
  omega

end Sys2Proof.LingarisLink
end

/-! PROOFS. The requests that read: IDENTIFY, ECHO, READ_REG and PARAM_GET (R95, R134, R136, R152, R164). -/
section
namespace Sys2Proof.LingarisLink

open Sys2Proof.Machine Sys2Proof.Laws

/-- A list of checks none of which rejects rejects nothing. -/
theorem firstRej_eq_none {l : List Reject} (h : ∀ x ∈ l, x = none) : firstRej l = none := by
  induction l with
  | nil => rfl
  | cons x l ih =>
    obtain rfl : x = none := h x (by simp)
    exact ih fun y hy => h y (by simp [hy])

/-- The checks of a request's words, one by one, reject nothing when each word passes. -/
theorem firstRej_zipIdx {l : List Word} {f : Word × Nat → Reject} (h : ∀ w ∈ l, ∀ k, f (w, k) = none) :
    firstRej (l.zipIdx.map f) = none := by
  refine firstRej_eq_none fun x hx => ?_
  obtain ⟨⟨w, k⟩, hw, rfl⟩ := List.mem_map.mp hx
  exact h w (List.fst_mem_of_mem_zipIdx hw) k

/-- A request that is heard, taken up and not turned away has its own effect on the state it is heard in (R109). -/
theorem serve_of_heard {s : State} {dt : Nat} {i : OpInfo} {r : Request} {a : State} {c4 c5 c6 c7 : Reject}
    {act : State → State} (heard : Heard s dt i.opc r a) (takes : Takes a r i.urgent i.bcast i.fault i.minLen i.maxLen)
    (len : i.lenOk r.words.length = true) (h4 : c4 = none) (h5 : c5 = none) (h6 : c6 = none) (h7 : c7 = none) :
    (s.elapse dt).serve i r c4 c5 c6 c7 act = act a := by
  obtain ⟨rfl, turn⟩ := heard
  exact serve_of_takes takes turn len h4 h5 h6 h7

/-- A part whose link has latched an era (R164). -/
def latchEra (a : State) (e : BitVec 16) : State := { a with regs := { a.regs with eraLink := e } }

/-- What a read sees of the time does not depend on the era latch of the link. -/
theorem shown_latchEra (a : State) (e : BitVec 16) : (latchEra a e).shown = latchEra a.shown e := by
  have due : (latchEra a e).stepDue = a.stepDue := rfl
  unfold State.shown
  rw [due]
  cases a.stepDue with
  | none => rfl
  | some p =>
    have runs : (latchEra a e).clockRuns = a.clockRuns := rfl
    rw [runs]
    cases a.clockRuns <;> rfl

/-- No register shows the era latch: ERA returns the era that the read names (R164). -/
theorem reg_latchEra (a : State) (e era : BitVec 16) (n : Nat) : (latchEra a e).reg era n = a.reg era n := by
  unfold State.reg
  split <;> rfl

/-- IDENTIFY answers ID, the versions and the serial number (R134). -/
theorem identify_of_heard {s a : State} {dt : Nat} {r : Request} (heard : Heard s dt 0x02 r a)
    (takes : Takes a r false false true 0 0) :
    exec (.identify dt r) s = .next (a.reply 0x02 r .ok 0 0
      [a.reg 0 0,
        fields [(47, 32, (if a.fw.active then a.fw.version1 else a.fw.version0).toNat),
          (31, 16, (if a.fw.active then (if a.fw.valid0 then a.fw.version0 else 0) else
            (if a.fw.valid1 then a.fw.version1 else 0)).toNat), (0, 0, b2n a.fw.active)],
        Config.serial]) :=
  congrArg Host.Outcome.next (serve_of_heard heard takes rfl rfl rfl rfl rfl)

/-- ECHO answers the two stamps and repeats the payload (R95). -/
theorem echo_of_heard {s a : State} {dt : Nat} {r : Request} (ago sub : Nat) (heard : Heard s dt 0x03 r a)
    (takes : Takes a r true false true 0 16) :
    exec (.echo dt r ago sub) s = .next
      (a.reply 0x03 r .ok 0 0 (stampWords (a.past10 ago) ++ stampWords (a.at10 sub) ++ r.words)) :=
  congrArg Host.Outcome.next (serve_of_heard heard takes rfl rfl rfl rfl rfl)

/-- READ_REG answers the registers as a read of the tick sees them; a read of INSTANT latches the era (R152, R164,
R185). -/
theorem readReg_of_heard {s a : State} {dt : Nat} {r : Request} (heard : Heard s dt 0x04 r a)
    (takes : Takes a r true false true 1 12) (legal : (r.words.all fun w => decide (fld w 3 0 ≤ 11)) = true) :
    let era := if (r.words.any fun w => decide (fld w 3 0 = 5)) = true then a.shown.time.e else a.regs.eraLink
    exec (.readReg dt r) s = .next ((latchEra a era).reply 0x04 r .ok 0 0
      (r.words.map fun w => a.shown.reg era (fld w 3 0))) := by
  intro era
  have bad : firstRej (r.words.zipIdx.map fun (w, k) => rejIf (decide (11 < fld w 3 0)) (badParam k 0)) = none := by
    refine firstRej_zipIdx fun w hw k => ?_
    have : fld w 3 0 ≤ 11 := of_decide_eq_true (List.all_eq_true.mp legal w hw)
    simp [rejIf, Nat.not_lt.mpr this]
  have latch : (if (r.words.map fun w => fld w 3 0).contains 5 then latchEra a a.shown.time.e else a) = latchEra a era := by
    have same : (r.words.map fun w => fld w 3 0).contains 5 = r.words.any fun w => decide (fld w 3 0 = 5) := by
      rw [List.contains_eq_any_beq, List.any_map]
      exact congrArg _ (funext fun w => BEq.comm)
    unfold era
    rw [same]
    split <;> rfl
  refine congrArg Host.Outcome.next ((serve_of_heard heard takes rfl rfl rfl bad rfl).trans ?_)
  have reads : ∀ b : State, b = latchEra a era →
      b.reply 0x04 r .ok 0 0 ((r.words.map fun w => fld w 3 0).map (b.shown.reg b.regs.eraLink)) =
        (latchEra a era).reply 0x04 r .ok 0 0 (r.words.map fun w => a.shown.reg era (fld w 3 0)) := by
    rintro b rfl
    rw [List.map_map, shown_latchEra]
    exact congrArg _ (List.map_congr_left fun w _ => reg_latchEra a.shown era era (fld w 3 0))
  exact reads _ latch

/-- PARAM_GET answers the values of the named parameters in one tick (R136). -/
theorem paramGet_of_heard {s a : State} {dt : Nat} {r : Request} (heard : Heard s dt 0x06 r a)
    (takes : Takes a r false false true 1 32)
    (known : (r.words.all fun w => (paramFields (fld w 15 0)).isSome && (!bit w 16 || staged (fld w 15 0))) = true) :
    exec (.paramGet dt r) s = .next
      (a.reply 0x06 r .ok 0 0 (r.words.map fun w => a.paramRead (bit w 16) (fld w 15 0))) := by
  refine congrArg Host.Outcome.next (serve_of_heard heard takes rfl rfl rfl (firstRej_zipIdx fun w hw k => ?_) rfl)
  have pass := List.all_eq_true.mp known w hw
  obtain ⟨some', stage⟩ := Bool.and_eq_true_iff.mp pass
  have named : (paramFields (fld w 15 0)).isNone = false := by simpa using some'
  have noStage : (bit w 16 && !staged (fld w 15 0)) = false := by
    cases hb : bit w 16 <;> simp_all
  simp [named, noStage, rejIf]

/-- Settles O25: each of the four requests, once heard and taken up, passes its own checks and has its effect. -/
theorem readingRequestsAnswer : Obligations.ReadingRequestsAnswer := by
  unfold Obligations.ReadingRequestsAnswer
  intro s dt r
  exact ⟨fun a heard takes => identify_of_heard heard takes,
    fun a ago sub heard takes => echo_of_heard ago sub heard takes,
    fun a heard takes legal => readReg_of_heard heard takes legal,
    fun a heard takes known => paramGet_of_heard heard takes known⟩

end Sys2Proof.LingarisLink
end

/-! PROOFS. Training of a port (R74, R79, R86-R88, R103, R104). -/
section
namespace Sys2Proof.LingarisLink

open Sys2Proof.Machine Sys2Proof.Laws

/-- A port put to a training step, with TRAIN of that step sent (R87). -/
def trainAt (a : State) (side : Side) (k : Nat) : State :=
  (a.modPort side fun q => { q with state := .training k }).emit (.train side k)

/-- TRAIN in a training moves the port by trainNext (R87). -/
theorem train_of_training {s : State} {dt : Nat} {side : Side} {n : Nat} (m : Fin 3)
    (runs : (s.elapse dt).linkRuns = true) (st : ((s.elapse dt).port side).state = .training n) :
    exec (.train dt side m) s = .next (trainAt (s.elapse dt) side (trainNext n (m.val + 1))) := by
  simp [exec, execTrain, trainAt, runs, st]

/-- A port that trains at a step is the port of before in that step. -/
@[simp] theorem trainAt_port (a : State) (side : Side) (k : Nat) :
    (trainAt a side k).port side = { a.port side with state := .training k } := by simp [trainAt]

@[simp] theorem trainAt_other (a : State) (side : Side) (k : Nat) :
    (trainAt a side k).port (otherSide side) = a.port (otherSide side) := by simp [trainAt]

@[simp] theorem trainAt_out (a : State) (side : Side) (k : Nat) :
    (trainAt a side k).out = a.out ++ [.train side k] := by simp [trainAt]

/-- A port that ends its training: up, with fresh credits and numbers, and its hop time (R79, R87). -/
def trainedPort (q : Port) (tHop : Nat) : Port :=
  { q with state := .up, tHop, symErrs := [], bulk := q.bulk.fresh 2048, urgent := q.urgent.fresh 256 }

/-- The port of a side has ended its training; the link engine is busy from then on (R416). -/
def portTrained (a : State) (side : Side) (tHop : Nat) : State :=
  (a.wake 8 (a.portUp .up || a.portUp .down)).modPort side fun q => trainedPort q tHop

/-- The end of a training moves its own port, and leaves the other port, the device, its handles and its health. -/
theorem portTrained_frame (a : State) (side : Side) (tHop : Nat) :
    let t := portTrained a side tHop
    t.port side = trainedPort (a.port side) tHop ∧ t.port (otherSide side) = a.port (otherSide side) ∧
    t.dev = a.dev ∧ t.hnd = a.hnd ∧ t.health = a.health := by
  have wake (p : Side) : (a.wake 8 (a.portUp .up || a.portUp .down)).port p = a.port p := by
    cases p <;> simp [State.port]
  simp [portTrained, wake]

/-- TRAINING_DONE of the up port ends the cut-off (R103). -/
theorem trainingDone_up {s : State} {dt : Nat} (hop : Nat) (runs : (s.elapse dt).linkRuns = true)
    (st : ((s.elapse dt).port .up).state = .training 3) :
    let t := portTrained (s.elapse dt) .up ((s.elapse dt).hop .up hop)
    exec (.trainingDone dt .up hop) s = .next { t with dev := { t.dev with cutOff := false } } := by
  simp only [exec, execTrainingDone, runs, st]; rfl

/-- SORTING and DRAINING, as a list of states and as two tests. -/
theorem inState_sorts (a : State) :
    a.inState [.sorting, .draining] = (a.dev.code == .sorting || a.dev.code == .draining) := by
  simp [State.inState, Bool.beq_comm]

/-- TRAINING_DONE of the down port sets LINK_NEW while the chain sorts (R104). -/
theorem trainingDone_down {s : State} {dt : Nat} (hop : Nat) (runs : (s.elapse dt).linkRuns = true)
    (st : ((s.elapse dt).port .down).state = .training 3) :
    let t := portTrained (s.elapse dt) .down ((s.elapse dt).hop .down hop)
    exec (.trainingDone dt .down hop) s = .next { t with health := { t.health with
      linkNew := t.health.linkNew || t.dev.code == .sorting || t.dev.code == .draining } } := by
  intro t
  have done : exec (.trainingDone dt .down hop) s = .next
      (if t.inState [.sorting, .draining] then { t with health := { t.health with linkNew := true } } else t) := by
    simp only [exec, execTrainingDone, runs, st]; rfl
  rw [done, Bool.or_assoc, ← inState_sorts]
  cases t.inState [.sorting, .draining] <;> simp

/-- The first hop time lies within 0.316 us and 0.324 us (R74). -/
theorem hop_of_first {a : State} {side : Side} (t : Nat) (h : (a.port (otherSide side)).tHop = 0) :
    31600 ≤ a.hop side t ∧ a.hop side t ≤ 32400 ∧ (31600 ≤ t → t ≤ 32400 → a.hop side t = t) := by
  simp only [State.hop, h, if_true]; omega

/-- The second hop time lies within 0.2 ns of the first (R74). -/
theorem hop_of_second {a : State} {side : Side} (t : Nat) (h : (a.port (otherSide side)).tHop ≠ 0) :
    a.hop side t ≤ (a.port (otherSide side)).tHop + 20 ∧ (a.port (otherSide side)).tHop ≤ a.hop side t + 20 := by
  simp only [State.hop, h, if_false]; omega

/-- PORT_HOLD_EXPIRY starts the training again (R88). -/
theorem portHoldExpiry_of_held {s : State} {dt : Nat} {side : Side} (runs : (s.elapse dt).linkRuns = true)
    (st : ((s.elapse dt).port side).state = .held)
    (due : ((s.elapse dt).port side).holdAt + 100000000 ≤ (s.elapse dt).clk) :
    exec (.portHoldExpiry dt side) s = .next (((s.elapse dt).modPort side fun q =>
      { q with state := .training 1, trainAt := (s.elapse dt).clk }).emit (.train side 1)) := by
  simp [exec, execPortHoldExpiry, runs, st, due]

/-- Settles O22: what TRAIN, TRAINING_DONE and PORT_HOLD_EXPIRY lead to, in the states that the statement names. -/
theorem portsTrain : Obligations.PortsTrain := by
  unfold Obligations.PortsTrain
  intro s dt side a runs
  refine ⟨fun m st => ?_, fun st => ?_, fun st => ?_, fun hop st => ?_, fun hop st => ?_, fun st due => ?_⟩
  · exact ⟨_, train_of_training m runs st, by simp [trainNext, a]⟩
  · refine ⟨_, train_of_training 0 runs st, ?_, by simp [trainNext, a]⟩
    simp [trainNext, a, ← st]
  · exact ⟨_, train_of_training 1 runs st, by simp [trainNext, a]⟩
  · obtain ⟨up, down, dev, hnd, -⟩ := portTrained_frame a .up (a.hop .up hop)
    have tHop : (portTrained a .up (a.hop .up hop)).up.tHop = a.hop .up hop := congrArg Port.tHop up
    refine ⟨_, trainingDone_up hop runs st, ?_, fun first => ?_, fun second => ?_, by rw [dev], down, hnd⟩ <;> dsimp only
    · rw [tHop]; exact up
    · rw [tHop]; exact hop_of_first (side := .up) hop first
    · rw [tHop]; exact hop_of_second (side := .up) hop second
  · obtain ⟨down, up, dev, hnd, health⟩ := portTrained_frame a .down (a.hop .down hop)
    have tHop : (portTrained a .down (a.hop .down hop)).down.tHop = a.hop .down hop := congrArg Port.tHop down
    refine ⟨_, trainingDone_down hop runs st, ?_, fun first => ?_, fun second => ?_, ?_, dev, up, hnd⟩ <;> dsimp only
    · rw [tHop]; exact down
    · obtain ⟨low, high, -⟩ := hop_of_first (side := .down) hop first
      rw [tHop]; exact ⟨low, high⟩
    · rw [tHop]; exact hop_of_second (side := .down) hop second
    · rw [dev, health]
  · exact ⟨_, portHoldExpiry_of_held runs st due, by simp [a]⟩

end Sys2Proof.LingarisLink
end

/-! PROOFS. Packets that arrive for this device: accepted or refused (R69-R85, R111). -/
section
namespace Sys2Proof.LingarisLink

open Sys2Proof.Machine Sys2Proof.Laws

/-- A device between 1 and 32 consumes what is sent to its address, and forwards nothing of it (R72). -/
theorem wayOf_own {s : State} (side : Side) (n0 : s.dev.addr ≠ 0) (le : s.dev.addr.toNat ≤ 32) :
    s.wayOf side s.dev.addr.toNat = { consume := true } := by
  have n0' : s.dev.addr.toNat ≠ 0 := fun h => n0 (BitVec.eq_of_toNat_eq h)
  have n62' : s.dev.addr.toNat ≠ 62 := by omega
  have n63' : s.dev.addr.toNat ≠ 63 := by omega
  simp [State.wayOf, n0', n62', n63', Nat.not_lt.mpr le]

/-- A bulk request with an opcode of R113, neither a DETECT nor a relay, waits for core 0 while its queue has room
(R111). -/
theorem consume_bulk {s : State} (side : Side) {p : Packet} (bulk : hUrgent p.header = false)
    (request : hReply p.header = false) (src : hSrc p.header ≤ 32) (noDetect : hOpc p.header ≠ 0x20) (noAbort : hOpc p.header ≠ 0x93)
    (known : (opLengths (hOpc p.header)).isSome = true) (room : s.bulkQ.length < 16) :
    s.consume side p none = { s with bulkQ := s.bulkQ ++
      [{ opc := BitVec.ofNat 8 (hOpc p.header), req := asRequest side p, recs := s.nib.recs }] } := by
  have noRelay : isRelay p = false := by simp [isRelay, noAbort]
  have known' : (opLengths (hOpc p.header)).isNone = false := by simpa using known
  simp [State.consume, request, noRelay, Nat.not_lt.mpr src, noDetect, bulk, Nat.not_le.mpr room, known']

/-- A bulk packet that this device alone consumes is not abandoned, forwarded or answered by the link engine, and its
words of the buffer are free again (R72, R81). -/
theorem routePacket_own {s : State} {side : Side} {p : Packet} (bulk : hUrgent p.header = false)
    (way : s.wayOf side (hDst p.header) = { consume := true }) :
    s.routePacket side p = (s.consume side p none).freeRx side false (p.words.length + 2) := by
  simp [State.routePacket, bulk, way, State.linkAbandon]

/-- A class that has taken a packet of `n` words: the next number is expected, an ACK is owed, and the words stand in the
buffer (R81, R83). -/
def tookPacket (l : Lane) (n : Nat) : Lane :=
  { l with rxNext := l.rxNext + 1, nakked := false, ackDue := l.ackDue + 1, buffered := l.buffered + n }

/-- A packet with the right slots, CRC and number is taken and routed (R69, R70, R83). -/
theorem packetReceived_good {s : State} {dt : Nat} {side : Side} {urgent : Bool} {p : Packet} {w : Word}
    (runs : (s.elapse dt).linkRuns = true) (trained : (s.elapse dt).portUp side = true)
    (len : hLen p.header = p.words.length)
    (crc : (packetCrc p.header p.words (fld w 47 32)).toNat = fld w 31 0)
    (seq : fld w 43 32 = (((s.elapse dt).port side).lane urgent).rxNext.toNat) (joined : (s.elapse dt).dev.cutOff = false) :
    exec (.packetReceived dt side urgent (p.words.length + 4) false p w .clean) s = .next
      (((s.elapse dt).slot.modPort side fun q => q.modLane urgent fun l =>
        tookPacket l (p.words.length + 2)).routePacket side p) := by
  simp only [exec, execPacketReceived]
  generalize s.elapse dt = a at *
  simp [runs, trained, len, crc, seq, joined, State.linkRead, State.engineRead, tookPacket]

/-- A bulk packet of `n` words taken on a side, waiting as `e` for core 0, with its words of the buffer free again. -/
def acceptedBulk (a : State) (side : Side) (n : Nat) (e : Waiting) : State :=
  let s := a.slot.modPort side fun q => q.modLane false fun l => tookPacket l n
  ({ s with bulkQ := s.bulkQ ++ [e] } : State).freeRx side false n

/-- An accepted packet moves its class of its port, core 0's queue and the mark of the link engine; nothing else. -/
theorem acceptedBulk_frame (a : State) (side : Side) (n : Nat) (e : Waiting) :
    let l := (a.port side).lane false
    let t := acceptedBulk a side n e
    t.bulkQ = a.bulkQ ++ [e] ∧
    (t.port side).bulk = { l with rxNext := l.rxNext + 1, nakked := false, ackDue := l.ackDue + 1,
                                  freed := l.freed + BitVec.ofNat 12 n } ∧
    (t.port side).urgent = (a.port side).urgent ∧ t.port (otherSide side) = a.port (otherSide side) ∧
    t = { a.mark 8 with up := t.up, down := t.down, bulkQ := t.bulkQ } := by
  refine ⟨by simp [acceptedBulk], ?_, by cases side <;> rfl, by cases side <;> rfl, by cases side <;> rfl⟩
  have words (b : Nat) : b + n - n = b := Nat.add_sub_cancel b n
  cases side <;>
    simp [acceptedBulk, tookPacket, words, State.freeRx, State.port, State.modPort, Port.lane, Port.modLane]

/-- Settles O18: the packet passes the checks of the link engine, is routed to this device, and waits for core 0. -/
theorem packetIsAccepted : Obligations.PacketIsAccepted := by
  unfold Obligations.PacketIsAccepted
  rintro s dt _ side p w a l n runs trained rfl len bulk crc seq dst - - n0 le joined request src noDetect noAbort known room
  let taken := a.slot.modPort side fun q => q.modLane false fun l => tookPacket l (n + 2)
  let e : Waiting := { opc := BitVec.ofNat 8 (hOpc p.header), req := asRequest side p, recs := a.nib.recs }
  have dev : taken.dev = a.dev := by simp [taken]
  have queue : taken.bulkQ = a.bulkQ := by simp [taken]
  have recs : taken.nib.recs = a.nib.recs := by simp [taken]
  have way : taken.wayOf side (hDst p.header) = { consume := true } := by
    rw [dst, ← dev]
    exact wayOf_own side (dev ▸ n0) (dev ▸ le)
  have waits : taken.consume side p none = { taken with bulkQ := taken.bulkQ ++ [e] } := by
    rw [consume_bulk side bulk request src noDetect noAbort known (queue ▸ room), recs]
  have route : taken.routePacket side p = acceptedBulk a side (n + 2) e := by
    rw [routePacket_own bulk way, waits]; rfl
  have done : exec (.packetReceived dt side false (n + 4) false p w .clean) s = .next (taken.routePacket side p) :=
    packetReceived_good runs trained len crc seq joined
  exact ⟨_, done.trans (congrArg Host.Outcome.next route), acceptedBulk_frame a side (n + 2) e⟩

/-- The way of a packet depends on the device alone (R72). -/
theorem wayOf_congr {s t : State} (side : Side) (dst : Nat) (h : s.dev = t.dev) : s.wayOf side dst = t.wayOf side dst := by
  unfold State.wayOf; rw [h]

/-- A packet that is not forwarded ends no packet that was being cut through (R85). -/
theorem cutThroughBad_of_kept {s : State} {side : Side} {p : Packet} (h : (s.wayOf side (hDst p.header)).out = none) :
    s.cutThroughBad side p = s := by
  simp [State.cutThroughBad, h]

/-- A packet of `n` words refused on a side: its words are free, CRC_FAIL counts, and NAK names the last good number
(R81, R83, R105). -/
def refusedPacket (a : State) (side : Side) (urgent : Bool) (n : Nat) : State :=
  let s := a.slot.modPort side fun q => q.modLane urgent fun l => { l with freed := l.freed + BitVec.ofNat 12 n }
  ((s.count (portCounter side) true 1).modPort side fun q => q.modLane urgent fun l => { l with nakked := true }).emit
    (.nak side urgent (((a.port side).lane urgent).rxNext - 1))

/-- A packet whose slots or CRC are wrong, and that no port forwards, is refused (R69, R70, R83, R85). -/
theorem packetReceived_bad {s : State} {dt slots : Nat} {side : Side} {urgent : Bool} {p : Packet} {w : Word} (ecc : Ecc)
    (runs : (s.elapse dt).linkRuns = true) (trained : (s.elapse dt).portUp side = true)
    (kept : ((s.elapse dt).wayOf side (hDst p.header)).out = none)
    (wrong : slots ≠ hLen p.header + 4 ∨ (packetCrc p.header p.words (fld w 47 32)).toNat ≠ fld w 31 0) :
    exec (.packetReceived dt side urgent slots false p w ecc) s = .next
      (refusedPacket (s.elapse dt) side urgent (p.words.length + 2)) := by
  have bad : ¬(slots = hLen p.header + 4 ∧ p.words.length = hLen p.header ∧
      (packetCrc p.header p.words (fld w 47 32)).toNat = fld w 31 0) := by
    rintro ⟨good, -, crc⟩
    exact wrong.elim (· good) (· crc)
  simp only [exec, execPacketReceived]
  generalize s.elapse dt = a at *
  rw [if_neg (by simp [runs, trained]), if_neg (by simp), if_pos bad, cutThroughBad_of_kept]
  · simp [refusedPacket, portCounter]
  · rw [← kept]
    exact congrArg Way.out (wayOf_congr side _ (by simp))

/-- A refused packet moves its class of its port, a counter, the mark of the link engine and the emissions. -/
theorem refusedPacket_frame (a : State) (side : Side) (urgent : Bool) (n : Nat) :
    let l := (a.port side).lane urgent
    let t := refusedPacket a side urgent n
    t.bulkQ = a.bulkQ ∧ t.urgentQ = a.urgentQ ∧ t.hnd = a.hnd ∧
    (t.port side).lane urgent = { l with freed := l.freed + BitVec.ofNat 12 n, nakked := true } ∧
    t.par = (a.count (portCounter side) true 1).par ∧ t.out = a.out ++ [.nak side urgent (l.rxNext - 1)] ∧
    t.dev = a.dev ∧ t.stage = a.stage := by
  refine ⟨by simp [refusedPacket], by simp [refusedPacket], by simp [refusedPacket], ?_, ?_, by simp [refusedPacket],
    by simp [refusedPacket], by simp [refusedPacket]⟩
  · simp [refusedPacket]
  · simpa [refusedPacket] using count_par_congr (portCounter side) true 1 (by simp) (by simp)

/-- Settles O19: the packet is refused, whatever its header says but that no port forwards it. -/
theorem badPacketIsRefused : Obligations.BadPacketIsRefused := by
  unfold Obligations.BadPacketIsRefused
  intro s dt slots side urgent p w a l runs trained kept wrong
  refine ⟨_, packetReceived_bad .clean runs trained kept wrong, ?_⟩
  have frame := refusedPacket_frame a side urgent (p.words.length + 2)
  cases side <;> exact frame

end Sys2Proof.LingarisLink
end

/-! PROOFS. What the end of a job, an abandoned stage and the loss of a port leave alone (R88, R89, R100, R246, R460). -/
section
namespace Sys2Proof.LingarisLink

open Sys2Proof.Machine Sys2Proof.Laws

/-- The check for the end of DRAINING leaves the ports, the emissions, the cut-off and the waiting records (R246). -/
theorem drainCheck_frame (s : State) : s.drainCheck.up = s.up ∧ s.drainCheck.down = s.down ∧ s.drainCheck.out = s.out ∧
    s.drainCheck.dev.cutOff = s.dev.cutOff ∧ s.drainCheck.nib = s.nib := by
  unfold State.drainCheck
  split
  · refine List.foldlRecOn (motive := fun t : State => t.up = s.up ∧ t.down = s.down ∧ t.out = s.out ∧
      t.dev.cutOff = s.dev.cutOff ∧ t.nib = s.nib) _ _ ?_ fun t same a _ => by simpa using same
    split <;> simp
  · exact ⟨rfl, rfl, rfl, rfl, rfl⟩

/-- Port by port: the check for the end of DRAINING leaves it. -/
theorem drainCheck_port (s : State) (p : Side) : s.drainCheck.port p = s.port p := by
  obtain ⟨up, down, -⟩ := drainCheck_frame s
  cases p <;> assumption

/-- The up port is lost: it trains or is held, its classes hold nothing, and no record waits with words in its buffer (R88,
R89, R219). -/
def UpLost (s : State) : Prop :=
  s.up.bulk = {} ∧ s.up.urgent = {} ∧ (s.up.state = .training 1 ∨ s.up.state = .held) ∧
    ∀ h ∈ s.nib.held, h.1.port ≠ .up

/-- A change that emits nothing, leaves the cut-off, and brings nothing into an up port that is lost. -/
structure Calm (s t : State) : Prop where
  out : t.out = s.out
  cutOff : t.dev.cutOff = s.dev.cutOff
  lost : UpLost s → UpLost t

/-- No change is calm, and calm changes follow one another calmly. -/
theorem Calm.refl (s : State) : Calm s s := ⟨rfl, rfl, id⟩

theorem Calm.trans {s t u : State} (a : Calm s t) (b : Calm t u) : Calm s u :=
  ⟨b.out.trans a.out, b.cutOff.trans a.cutOff, b.lost ∘ a.lost⟩

/-- A change that leaves the up port and the waiting records too is calm. -/
theorem Calm.of_same {s t : State} (out : t.out = s.out) (cutOff : t.dev.cutOff = s.dev.cutOff) (up : t.up = s.up)
    (held : t.nib.held = s.nib.held) : Calm s t := by
  refine ⟨out, cutOff, fun lost => ?_⟩
  unfold UpLost at *
  rwa [up, held]

/-- A calm change for each element of a list is calm. -/
theorem calm_foldl {α : Type} {f : State → α → State} (l : List α) (s : State) (h : ∀ t x, Calm t (f t x)) :
    Calm s (l.foldl f s) :=
  List.foldlRecOn l f (Calm.refl s) fun _ same x _ => same.trans (h _ x)

/-- The check for the end of DRAINING is calm (R246). -/
theorem calm_drainCheck (s : State) : Calm s s.drainCheck := by
  obtain ⟨up, -, out, cutOff, nib⟩ := drainCheck_frame s
  exact .of_same out cutOff up (congrArg Nib.held nib)

/-- A packet put into a port is calm: a lost port takes none (R89). -/
theorem calm_put (s : State) (p : Side) (urgent : Bool) (x : TxPacket) : Calm s (s.put p urgent x) := by
  refine ⟨by simp, by simp, fun lost => ?_⟩
  obtain ⟨-, -, st, -⟩ := id lost
  have down : s.portUp .up = false := by rcases st with st | st <;> simp [State.portUp, State.port, st]
  cases p with
  | up => simpa [State.put, down] using lost
  | down => unfold State.put; split <;> exact lost

/-- A reply is calm: it waits in a port (R110). -/
theorem calm_reply (s : State) (opc : Nat) (r : Request) (st : Status) (h detail : Nat) (more : List Word) :
    Calm s (s.reply opc r st h detail more) := by
  unfold State.reply
  split
  · exact .refl s
  · exact calm_put ..

/-- A broadcast is calm: it waits in both ports (R72). -/
theorem calm_broadcast (s : State) (opc : Nat) (urgent : Bool) (words : List Word) :
    Calm s (s.broadcast opc urgent words) := by
  have noted : Calm s (s.noteSent opc) := .of_same (by simp) (by simp) (by simp) (by simp)
  exact (noted.trans (calm_put ..)).trans (calm_put ..)

/-- Abandoning a stage is calm, and so is the commit that prevails in its tick (R459, R462). -/
theorem calm_abandonStage (s : State) (why : BitVec 3) : Calm s (s.abandonStage why) := by
  unfold State.abandonStage
  split
  · exact .refl s
  split
  · exact .of_same (by simp [State.commitNow]) (by simp [State.commitNow]) (by simp [State.commitNow])
      (by simp [State.commitNow])
  dsimp only
  split <;> exact .of_same (by simp) (by simp) (by simp) (by simp)

/-- The end of an ARMED stage as the up port is lost is calm (R460). -/
theorem calm_upAbandon (s : State) : Calm s s.upAbandon := by
  unfold State.upAbandon State.selfAbandon
  dsimp only
  split
  · split
    · exact (calm_abandonStage s 2).trans (calm_broadcast ..)
    · exact calm_abandonStage s 2
  · exact .refl s

/-- Holdover is calm: a mark of the time base, a count and a rate (R200). -/
theorem calm_enterHoldover (s : State) : Calm s s.enterHoldover := by
  unfold State.enterHoldover
  split
  · exact .refl s
  · exact .of_same (by simp) (by simp) (by simp) (by simp)

/-- The words of a record that came on the down port leave the up port alone while that port is lost. -/
theorem recordWords_upLost {s : State} (r : NibRec) (down : r.port ≠ .up) (lost : UpLost s) :
    UpLost (s.recordWords r false) := by
  have side : r.port = .down := by cases h : r.port <;> simp_all
  obtain ⟨bulk, -⟩ := id lost
  simpa [State.recordWords, side, otherSide, State.port, bulk, UpLost, State.freeRx, State.modPort] using lost

/-- The words of a record are the ports' alone: emissions, device and queues stay (R80, R81). -/
theorem recordWords_frame (s : State) (r : NibRec) (take : Bool) :
    (s.recordWords r take).out = s.out ∧ (s.recordWords r take).dev = s.dev ∧ (s.recordWords r take).nib = s.nib := by
  unfold State.recordWords
  dsimp only
  split
  · simp
  · split <;> simp

/-- A DETECT outside SORTING is counted, and answered or not (R217). -/
theorem detectDropped_cases (s : State) (r : Request) (n : Nat) :
    let t := s.count 0x204 false n
    s.detectDropped r n = t ∨
      ∃ h, s.detectDropped r n = ({ t with hnd := h } : State).reply 0x20 r .badState 0 t.dev.code.num [] := by
  unfold State.detectDropped
  dsimp only
  split
  · split
    · exact .inl rfl
    · exact .inr ⟨_, rfl⟩
  · exact .inr ⟨_, rfl⟩

/-- The end of a DETECT outside SORTING is calm (R217). -/
theorem calm_detectDropped (s : State) (r : Request) (n : Nat) : Calm s (s.detectDropped r n) := by
  have counted : Calm s (s.count 0x204 false n) := .of_same (by simp) (by simp) (by simp) (by simp)
  obtain same | ⟨h, same⟩ := detectDropped_cases s r n <;> rw [same]
  · exact counted
  · have noted : Calm (s.count 0x204 false n) { s.count 0x204 false n with hnd := h } := .of_same rfl rfl rfl rfl
    exact (counted.trans noted).trans (calm_reply ..)

/-- Records that leave the queues free the words of their ports, and nothing of a lost up port. -/
theorem recordWords_foldl {β : Type} (l : List (NibRec × β)) (s : State) :
    let t := l.foldl (fun s h => s.recordWords h.1 false) s
    t.out = s.out ∧ t.dev = s.dev ∧ (UpLost s → (∀ h ∈ l, h.1.port ≠ .up) → UpLost t) := by
  intro t
  obtain ⟨out, dev⟩ : t.out = s.out ∧ t.dev = s.dev :=
    List.foldlRecOn (motive := fun t : State => t.out = s.out ∧ t.dev = s.dev) l _ ⟨rfl, rfl⟩ fun t same h _ => by
      obtain ⟨out, dev, -⟩ := recordWords_frame t h.1 false
      exact ⟨out.trans same.1, dev.trans same.2⟩
  exact ⟨out, dev, fun lost down =>
    List.foldlRecOn (motive := UpLost) l _ lost fun t lost' h hh => recordWords_upLost h.1 (down h hh) lost'⟩

/-- A DETECT of this tick that is not taken after all is calm (R246). -/
theorem calm_untakeOne (s : State) (a : Arrived) : Calm s (s.untakeOne a) := by
  unfold State.untakeOne
  extract_lets mine held cut _ out t stale
  have gone : Calm s t := by
    obtain ⟨hout, hdev, lost⟩ := recordWords_foldl held out
    refine ⟨hout, congrArg Dev.cutOff hdev, fun ⟨bulk, urgent, st, waits⟩ => lost ⟨bulk, urgent, st, ?_⟩ ?_⟩
    · exact fun h hh => waits h (List.mem_filter.mp hh).1
    · exact fun h hh => waits h (List.mem_filter.mp hh).1
  have counted : Calm t stale := by
    unfold stale
    split
    · exact .refl t
    · exact .of_same (by simp) (by simp) (by simp) (by simp)
  exact (gone.trans counted).trans (calm_detectDropped ..)

/-- The end of SORTING is calm (R246). -/
theorem calm_drain (s : State) (cause : Nat) : Calm s (s.drain cause) := by
  have entered : Calm s (s.enter .draining cause) := .of_same (by simp) (by simp) (by simp) (by simp)
  refine entered.trans ?_
  unfold State.drain State.untake
  generalize s.enter .draining cause = t
  exact Calm.trans (t := { t with nib := { t.nib with taken := [] } }) (.of_same rfl rfl rfl rfl)
    (calm_foldl _ _ calm_untakeOne)

/-! ### The loss of the up port, and BREAK -/

/-- Beyond its own mark, cutting the device off is calm: the stage, holdover and the drain are (R100). -/
theorem cutOffNow_calm (s : State) : Calm { s with dev := { s.dev with cutOff := true } } s.cutOffNow := by
  unfold State.cutOffNow
  have stopped : Calm { s with dev := { s.dev with cutOff := true } } { s with
      dev := { s.dev with cutOff := true }, dog := { s.dog with restartAt := none, auto := some false } } :=
    .of_same rfl rfl rfl rfl
  have abandoned := stopped.trans (calm_upAbandon _)
  revert abandoned
  generalize State.upAbandon _ = t
  intro abandoned
  dsimp only
  have held : Calm t (if t.time.source = 1 then t.enterHoldover else t) := by
    split
    · exact calm_enterHoldover t
    · exact .refl t
  refine abandoned.trans (held.trans ?_)
  generalize (if t.time.source = 1 then t.enterHoldover else t) = u
  split
  · exact (calm_drain u 3).trans (calm_drainCheck _)
  · exact .refl u

/-- What a lost port leaves on the up side: nothing in its buffers, no record with words in them (R89, R219). -/
theorem clearPort_up (s : State) : (s.clearPort .up false).up.bulk = {} ∧ (s.clearPort .up false).up.urgent = {} ∧
    ∀ h ∈ (s.clearPort .up false).nib.held, h.1.port ≠ .up := by
  refine ⟨rfl, rfl, fun h hh => ?_⟩
  simp only [State.clearPort, modPort_keeps, freeRx_keeps] at hh
  simpa using (List.mem_filter.mp hh).2

/-- The loss of the up port leaves it empty and in training or held, and the device cut off (R88, R89, R100). -/
theorem portLoss_up (s : State) : UpLost (s.portLoss .up false) ∧ (s.portLoss .up false).dev.cutOff = true := by
  obtain ⟨bulk, urgent, held⟩ := clearPort_up s
  unfold State.portLoss
  extract_lets c n losses hold m e b
  have down : UpLost m := by
    refine ⟨bulk, urgent, ?_, ?_⟩
    · cases h : hold <;> simp [m, State.modPort, h]
    · simpa [m, n] using held
  have trains : UpLost e := by unfold e; split <;> exact down
  have sent : UpLost b := by unfold b; split <;> exact trains
  clear_value b
  have calm := (cutOffNow_calm b).trans (calm_drainCheck _)
  exact ⟨calm.lost sent, calm.cutOff⟩

/-- The symbol errors of a port in the last 10 us, with the one of this tick (R88). -/
def errorsNow (a : State) : List Nat := (a.up.symErrs.filter fun x => decide (a.clk < x + 1000)) ++ [a.clk]

/-- A symbol error noted on the trained up port: a slot, and the error. -/
def errorNoted (a : State) : State := { a.mark 8 with up := { a.up with symErrs := errorsNow a } }

/-- ORDERED_SET_DISCARD on the trained up port: the 17th error in 10 us loses the port (R67, R88). -/
theorem orderedSetDiscard_up {s a : State} {dt : Nat} (passed : s.elapse dt = a) (runs : a.linkRuns = true)
    (trained : a.up.state = .up) :
    exec (.orderedSetDiscard dt .up) s = .next (if 16 < (errorsNow a).length then
      (errorNoted a).portLoss .up false else errorNoted a) := by
  simp [exec, execOrderedSetDiscard, passed, runs, State.slot, State.portUp, State.port, State.modPort, trained, errorsNow,
    errorNoted]

/-- PORT_DOWN loses a trained port (R88). -/
theorem portDown_up {s a : State} {dt : Nat} (passed : s.elapse dt = a) (runs : a.linkRuns = true)
    (trained : a.up.state = .up) : exec (.portDown dt .up) s = .next (a.portLoss .up false) := by
  simp [exec, execPortDown, passed, runs, State.port, trained]

/-- PORT_TRAIN_TIMEOUT loses a port that has retrained for 1 ms (R86). -/
theorem portTrainTimeout_up {s a : State} {dt n : Nat} (passed : s.elapse dt = a) (runs : a.linkRuns = true)
    (retrains : a.up.state = .retraining n) (due : a.up.trainAt + 100000 ≤ a.clk) :
    exec (.portTrainTimeout dt .up) s = .next (a.portLoss .up false) := by
  simp [exec, execPortTrainTimeout, passed, runs, State.port, retrains, due]

/-- BREAK on the trained up port goes on down; with side up lost it cuts the device off (R99, R100). -/
theorem breakSet_up {s a : State} {dt : Nat} (addr : Addr) (downLost : Bool) (passed : s.elapse dt = a)
    (runs : a.linkRuns = true) (up : a.up.state = .up) (down : a.down.state = .up) :
    let t := a.slot.emit (.brk .down addr downLost)
    exec (.breakSet dt .up addr downLost) s = .next (if downLost then t.breakPolicy addr.toNat else t.cutOffNow) := by
  simp [exec, execBreakSet, passed, runs, State.portUp, State.port, up, down, otherSide]

/-- BREAK_POLICY is the master's (R101). -/
theorem breakPolicy_of_follower {s : State} (addr : Nat) (h : s.dev.master = false) : s.breakPolicy addr = s := by
  simp [State.breakPolicy, h]

/-- Settles O23: each way to lose the up port runs its loss, which leaves it empty, in training and the device cut off. -/
theorem portsAreLost : Obligations.PortsAreLost := by
  unfold Obligations.PortsAreLost
  intro s dt a runs lost
  have passed : s.elapse dt = a := rfl
  clear_value a
  have loses (b : State) : lost (b.portLoss .up false) := by
    obtain ⟨⟨bulk, urgent, st, -⟩, cut⟩ := portLoss_up b
    exact ⟨bulk, urgent, st, cut⟩
  have length : (errorsNow a).length = (a.up.symErrs.filter fun x => decide (a.clk < x + 1000)).length + 1 := by
    simp [errorsNow]
  refine ⟨fun up => ⟨_, portDown_up passed runs up, loses a⟩,
    fun n st due => ⟨_, portTrainTimeout_up passed runs st due, loses a⟩,
    fun up many => ?_, fun up few => ?_, fun addr up down => ?_, fun addr follower up down => ?_⟩
  · have err := orderedSetDiscard_up passed runs up
    rw [if_pos (by omega)] at err
    exact ⟨_, err, loses _⟩
  · have err := orderedSetDiscard_up passed runs up
    rwa [if_neg (by omega)] at err
  · have calm := cutOffNow_calm (a.slot.emit (.brk .down addr false))
    have sent : (.brk .down addr false) ∈ (a.slot.emit (.brk .down addr false)).cutOffNow.out := by
      rw [calm.out]; simp
    exact ⟨_, breakSet_up addr false passed runs up down, calm.cutOff, sent⟩
  · have goes := breakSet_up addr true passed runs up down
    dsimp only at goes
    rw [if_pos rfl, breakPolicy_of_follower _ (by simpa using follower)] at goes
    exact goes

end Sys2Proof.LingarisLink
end

/-! PROOFS. Ordered sets and the replay of a class (R79-R87, R105). -/
section
namespace Sys2Proof.LingarisLink

open Sys2Proof.Machine Sys2Proof.Laws

/-! ### Sending again -/

/-- A packet that must go out again (R84). -/
def owe (x : TxPacket) : TxPacket := { x with owed := true }

/-- A packet that has gone out again in a tick (R84). -/
def resend (clk : Nat) (x : TxPacket) : TxPacket := { x with sentAt := clk, resends := x.resends + 1, owed := false }

@[simp] theorem owe_seq (x : TxPacket) : (owe x).seq = x.seq := rfl
@[simp] theorem owe_size (x : TxPacket) : (owe x).size = x.words.length + 2 := rfl
@[simp] theorem resend_seq (clk : Nat) (x : TxPacket) : (resend clk x).seq = x.seq := rfl
/-- A packet that is owed and goes out again is the packet that went out again. -/
@[simp] theorem resend_owe (clk : Nat) (x : TxPacket) : resend clk (owe x) = resend clk x := rfl

/-- A packet on the wire with its own number (R70). -/
def wire (side : Side) (x : TxPacket) : Out := .packet side x.header x.words (crcWord x.header x.words x.seq)

/-- One packet of a class goes out again: it uses credits and counts in REPLAY (R79, R84, R105). -/
def resent (s : State) (side : Side) (urgent : Bool) (x : TxPacket) : State :=
  ((s.modPort side fun q => q.modLane urgent fun l =>
    { l.spend x.size with replay := mapIf (fun y => y.seq == x.seq) (resend s.clk) l.replay }).count
      (portCounter side) false 1).emit (wire side x)

/-- The first packet goes out again when it must and credits reach for it; then the rest follow. -/
theorem sendAgain_cons_of_credit {s : State} {side : Side} {urgent : Bool} {x : TxPacket} (r : List TxPacket)
    (owed : x.owed = true) (credit : x.size ≤ ((s.port side).lane urgent).held) :
    s.sendAgain side urgent (x :: r) = (resent s side urgent x).sendAgain side urgent r := by
  rw [State.sendAgain]
  simp only [owed, Nat.not_lt.mpr credit]
  rfl

/-- Where credits do not reach for a packet, it and those behind it wait (log entry 28). -/
theorem sendAgain_cons_of_short {s : State} {side : Side} {urgent : Bool} {x : TxPacket} (r : List TxPacket)
    (owed : x.owed = true) (short : ((s.port side).lane urgent).held < x.size) :
    s.sendAgain side urgent (x :: r) = s := by
  rw [State.sendAgain]
  simp [owed, short]

/-- With nothing left to send again nothing changes. -/
theorem sendAgain_of_none {s : State} {side : Side} {urgent : Bool} {l : List TxPacket}
    (h : ∀ y ∈ l, y.owed = false) : s.sendAgain side urgent l = s := by
  induction l with
  | nil => rfl
  | cons y r ih =>
    rw [State.sendAgain]
    simpa [h y (by simp)] using ih fun z hz => h z (by simp [hz])

/-- The class after one packet has gone out again. -/
@[simp] theorem resent_lane (s : State) (side : Side) (urgent : Bool) (x : TxPacket) :
    ((resent s side urgent x).port side).lane urgent =
      { ((s.port side).lane urgent).spend x.size with
        replay := mapIf (fun y => y.seq == x.seq) (resend s.clk) ((s.port side).lane urgent).replay } := by
  simp [resent]

/-- Sending again changes the ports, the emissions and a counter. -/
theorem resent_frame (s : State) (side : Side) (urgent : Bool) (x : TxPacket) :
    let t := resent s side urgent x
    t.out = s.out ++ [wire side x] ∧ t.clk = s.clk ∧ t.par = (s.count (portCounter side) false 1).par ∧
    t = { s with up := t.up, down := t.down, out := t.out, par := t.par } := by
  refine ⟨by simp [resent], by simp [resent], ?_, by cases side <;> rfl⟩
  simpa [resent] using count_par_congr (portCounter side) false 1 (by simp) (by simp)

/-! ### The replay of a class -/

/-- A class holds these packets in its replay buffer, after a slot (R82, R416). -/
def holding (a : State) (side : Side) (urgent : Bool) (l : List TxPacket) : State :=
  a.slot.modPort side fun q => q.modLane urgent fun x => { x with replay := l }

@[simp] theorem holding_lane (a : State) (side : Side) (urgent : Bool) (l : List TxPacket) :
    ((holding a side urgent l).port side).lane urgent = { (a.port side).lane urgent with replay := l } := by
  simp [holding]

/-- Filling the replay buffer changes a port and the mark of the link engine. -/
theorem holding_frame (a : State) (side : Side) (urgent : Bool) (l : List TxPacket) :
    let t := holding a side urgent l
    t.out = a.out ∧ t.clk = a.clk ∧ t.par = a.par ∧ t = { a.mark 8 with up := t.up, down := t.down } := by
  refine ⟨by simp [holding], by simp [holding], by simp [holding], by cases side <;> rfl⟩

/-- The packets that a class has not got acknowledged all go out again, as far as credits reach (R84). -/
def replayed (a : State) (side : Side) (urgent : Bool) (l : List TxPacket) : State :=
  (holding a side urgent (l.map owe)).sendAgain side urgent (l.map owe)

/-- A class whose oldest packet may go out again is replayed (R84). -/
theorem replayOrRetrain_of_few {a : State} {side : Side} {urgent : Bool} {x : TxPacket} {r : List TxPacket}
    (few : x.resends < 4) :
    (holding a side urgent (x :: r)).replayOrRetrain side urgent = replayed a side urgent (x :: r) := by
  have owed : (holding a side urgent (x :: r)).modPort side (fun q => q.modLane urgent fun l =>
      { l with replay := l.replay.map owe }) = holding a side urgent ((x :: r).map owe) := by
    simp [holding]
  have start : (holding a side urgent (x :: r)).replayOrRetrain side urgent =
      (holding a side urgent (x :: r)).replayClass side urgent := by
    simp [State.replayOrRetrain, Nat.not_le.mpr few]
  rw [start]
  unfold State.replayClass replayed
  change (State.modPort _ _ fun q => q.modLane urgent fun l => { l with replay := l.replay.map owe }).sendAgain _ _
    (((State.modPort _ _ fun q => q.modLane urgent fun l =>
      { l with replay := l.replay.map owe }).port side).lane urgent).replay = _
  rw [owed, holding_lane]

/-- With credits for its first packet a replay sends it and goes on with the rest. -/
theorem replayed_cons {a : State} {side : Side} {urgent : Bool} {x : TxPacket} (r : List TxPacket)
    (credit : x.words.length + 2 ≤ ((a.port side).lane urgent).held) :
    replayed a side urgent (x :: r) =
      (resent (holding a side urgent (owe x :: r.map owe)) side urgent (owe x)).sendAgain side urgent (r.map owe) :=
  sendAgain_cons_of_credit _ rfl (by simpa using credit)

/-- A replay of one packet for which credits reach. -/
theorem replayed_one {a : State} {side : Side} {urgent : Bool} {x : TxPacket}
    (credit : x.words.length + 2 ≤ ((a.port side).lane urgent).held) :
    let t := replayed a side urgent [x]
    ((t.port side).lane urgent).replay = [resend a.clk x] ∧
    ((t.port side).lane urgent).held = ((a.port side).lane urgent).held - (x.words.length + 2) ∧
    t.out = a.out ++ [wire side x] ∧ t.par = (a.count (portCounter side) false 1).par ∧
    t = { a.mark 8 with up := t.up, down := t.down, out := t.out, par := t.par } := by
  intro t
  obtain ⟨hout, hclk, hpar, hrest⟩ := holding_frame a side urgent [owe x]
  obtain ⟨out, -, par, rest⟩ := resent_frame (holding a side urgent [owe x]) side urgent (owe x)
  have ht : t = resent (holding a side urgent [owe x]) side urgent (owe x) := replayed_cons [] credit
  rw [ht]
  refine ⟨?_, ?_, by rw [out, hout]; rfl, par.trans (count_par_congr _ _ _ hpar hclk), ?_⟩
  · simp [mapIf, hclk]
  · simp [Lane.spend]
  · rw [rest, hrest]

/-- A replay of one packet for which credits do not reach: it waits in its place (log entry 28). -/
theorem replayed_one_short {a : State} {side : Side} {urgent : Bool} {x : TxPacket}
    (short : ((a.port side).lane urgent).held < x.words.length + 2) :
    replayed a side urgent [x] = holding a side urgent [owe x] :=
  sendAgain_cons_of_short _ rfl (by simpa using short)

/-- The class and the emissions after the first of two packets has gone out again. -/
theorem resent_first {a : State} {side : Side} {urgent : Bool} {x y : TxPacket} (ne : x.seq ≠ y.seq) :
    let t := resent (holding a side urgent [owe x, owe y]) side urgent (owe x)
    ((t.port side).lane urgent).replay = [resend a.clk x, owe y] ∧
    ((t.port side).lane urgent).held = ((a.port side).lane urgent).held - (x.words.length + 2) ∧
    t.out = a.out ++ [wire side x] ∧ t.clk = a.clk := by
  obtain ⟨hout, hclk, -, -⟩ := holding_frame a side urgent [owe x, owe y]
  obtain ⟨out, clk, -, -⟩ := resent_frame (holding a side urgent [owe x, owe y]) side urgent (owe x)
  refine ⟨?_, ?_, by rw [out, hout]; rfl, clk.trans hclk⟩
  · simp [mapIf, hclk, ne.symm]
  · simp [Lane.spend]

/-- A replay of two packets for which credits reach: they go out in order. -/
theorem replayed_two {a : State} {side : Side} {urgent : Bool} {x y : TxPacket} (ne : x.seq ≠ y.seq)
    (credit : x.words.length + 2 + (y.words.length + 2) ≤ ((a.port side).lane urgent).held) :
    let t := replayed a side urgent [x, y]
    ((t.port side).lane urgent).replay = [resend a.clk x, resend a.clk y] ∧ t.out = a.out ++ [wire side x, wire side y] := by
  intro t
  obtain ⟨replay, held, out, clk⟩ := resent_first (a := a) (side := side) (urgent := urgent) ne
  have ht : t = resent (resent (holding a side urgent [owe x, owe y]) side urgent (owe x)) side urgent (owe y) :=
    (replayed_cons [y] (by omega)).trans (sendAgain_cons_of_credit _ rfl (by
      rw [List.map_cons, List.map_nil, held, owe_size]; omega))
  obtain ⟨out', -, -, -⟩ := resent_frame (resent (holding a side urgent [owe x, owe y]) side urgent (owe x)) side urgent (owe y)
  rw [ht]
  refine ⟨?_, ?_⟩
  · rw [resent_lane]
    simp only [replay, clk]
    simp [mapIf, ne]
  · rw [out', out]; simp [wire, owe]

/-- A replay of two packets of which credits reach for the first: the second waits (R84, log entry 28). -/
theorem replayed_two_short {a : State} {side : Side} {urgent : Bool} {x y : TxPacket} (ne : x.seq ≠ y.seq)
    (credit : x.words.length + 2 ≤ ((a.port side).lane urgent).held)
    (short : ((a.port side).lane urgent).held < x.words.length + 2 + (y.words.length + 2)) :
    let t := replayed a side urgent [x, y]
    ((t.port side).lane urgent).replay = [resend a.clk x, owe y] ∧ t.out = a.out ++ [wire side x] := by
  intro t
  obtain ⟨replay, held, out, -⟩ := resent_first (a := a) (side := side) (urgent := urgent) ne
  have ht : t = resent (holding a side urgent [owe x, owe y]) side urgent (owe x) :=
    (replayed_cons [y] credit).trans (sendAgain_cons_of_short _ rfl (by
      rw [List.map_cons, List.map_nil, held, owe_size]; omega))
  rw [ht]
  exact ⟨replay, out⟩

/-! ### Retraining -/

/-- A port that retrains sends TRAIN of step 1 (R86). -/
theorem retrain_state (s : State) (side : Side) : ((s.retrain side).port side).state = .retraining 1 := by
  simp [State.retrain, drainCheck_port]

/-- A class whose oldest packet went out again four times makes the port retrain (R84, R86). -/
theorem replayOrRetrain_of_many {a : State} {side : Side} {urgent : Bool} {x : TxPacket} {r : List TxPacket}
    (many : 4 ≤ x.resends) :
    (holding a side urgent (x :: r)).replayOrRetrain side urgent = (holding a side urgent (x :: r)).retrain side := by
  simp [State.replayOrRetrain, many]

/-! ### The commands -/

/-- ACK (R82). -/
theorem ack_of_trained {s : State} {dt : Nat} {side : Side} (urgent : Bool) (seq : BitVec 12)
    (runs : (s.elapse dt).linkRuns = true) (trained : (s.elapse dt).portUp side = true) :
    exec (.ack dt side urgent seq) s = .next ((s.elapse dt).slot.modPort side fun p => p.modLane urgent fun l => l.acked seq) := by
  simp [exec, execAck, runs, trained]

/-- A change of a class that leaves `l` in the replay buffer makes the class hold `l`. -/
theorem acked_eq_holding (a : State) (side : Side) (urgent : Bool) (seq : BitVec 12) :
    (a.slot.modPort side fun p => p.modLane urgent fun l => l.acked seq) =
      holding a side urgent (((a.port side).lane urgent).acked seq).replay := by
  cases side <;> cases urgent <;> rfl

/-- NAK with nothing left empties the replay buffer (R84). -/
theorem nak_of_nothing_left {s : State} {dt : Nat} {side : Side} {urgent : Bool} {seq : BitVec 12}
    (runs : (s.elapse dt).linkRuns = true) (trained : (s.elapse dt).portUp side = true)
    (left : ((((s.elapse dt).port side).lane urgent).acked seq).replay = []) :
    exec (.nak dt side urgent seq .clean) s = .next (holding (s.elapse dt) side urgent []) := by
  simp only [exec, execNak]
  generalize s.elapse dt = a at *
  simp [runs, trained, acked_eq_holding, left]

/-- NAK with packets left replays them, or retrains the port (R84, R86). -/
theorem nak_of_left {s : State} {dt : Nat} {side : Side} {urgent : Bool} {seq : BitVec 12} {x : TxPacket}
    {r : List TxPacket} (runs : (s.elapse dt).linkRuns = true) (trained : (s.elapse dt).portUp side = true)
    (left : ((((s.elapse dt).port side).lane urgent).acked seq).replay = x :: r) :
    exec (.nak dt side urgent seq .clean) s = .next
      ((holding (s.elapse dt) side urgent (x :: r)).replayOrRetrain side urgent) := by
  simp only [exec, execNak]
  generalize s.elapse dt = a at *
  simp [runs, trained, acked_eq_holding, left, State.linkRead, State.engineRead]

/-- A port's replay buffer as it is, held again. -/
theorem slot_eq_holding (a : State) (side : Side) (urgent : Bool) :
    a.slot = holding a side urgent ((a.port side).lane urgent).replay := by
  cases side <;> cases urgent <;> rfl

/-- REPLAY_TIMEOUT once the oldest packet is 10 us old (R84). -/
theorem replayTimeout_of_trained {s : State} {dt : Nat} {side : Side} {urgent : Bool} {x : TxPacket} {r : List TxPacket}
    (runs : (s.elapse dt).linkRuns = true) (trained : (s.elapse dt).portUp side = true)
    (replay : (((s.elapse dt).port side).lane urgent).replay = x :: r) (due : x.sentAt + 1000 ≤ (s.elapse dt).clk)
    (few : x.resends < 4) :
    exec (.replayTimeout dt side urgent .clean) s = .next (replayed (s.elapse dt) side urgent (x :: r)) := by
  simp only [exec, execReplayTimeout]
  generalize s.elapse dt = a at *
  rw [← replayOrRetrain_of_few few, ← replay, ← slot_eq_holding]
  simp [runs, trained, replay, due, State.linkRead, State.engineRead]

/-- CREDIT sets the credits from the running total; with no packet owed nothing goes out again (R80, R84). -/
theorem credit_of_trained {s : State} {dt : Nat} {side : Side} {urgent : Bool} (freed : BitVec 12)
    (runs : (s.elapse dt).linkRuns = true) (trained : (s.elapse dt).portUp side = true)
    (none : ∀ y ∈ (((s.elapse dt).port side).lane urgent).replay, y.owed = false) :
    exec (.credit dt side urgent freed) s = .next ((s.elapse dt).slot.modPort side fun p => p.modLane urgent fun l =>
      { l with held := (if urgent then 256 else 2048) - (l.sent - freed).toNat }) := by
  simp only [exec, execCredit]
  generalize s.elapse dt = a at *
  simp only [runs, trained, Bool.and_self, if_true]
  rw [sendAgain_of_none]
  simpa using none

/-- CREDIT_SEND emits the total freed (R80). -/
theorem creditSend_of_trained {s : State} {dt : Nat} {side : Side} {urgent : Bool}
    (runs : (s.elapse dt).linkRuns = true) (trained : (s.elapse dt).portUp side = true)
    (due : (((s.elapse dt).port side).lane urgent).freed ≠ (((s.elapse dt).port side).lane urgent).reported) :
    exec (.creditSend dt side urgent) s = .next (((s.elapse dt).slot.modPort side fun q => q.modLane urgent fun l =>
      { l with reported := l.freed }).emit (.credit side urgent (((s.elapse dt).port side).lane urgent).freed)) := by
  simp [exec, execCreditSend, runs, trained, due]

/-- ACK_SEND emits the last good number (R83). -/
theorem ackSend_of_trained {s : State} {dt : Nat} {side : Side} {urgent : Bool}
    (runs : (s.elapse dt).linkRuns = true) (trained : (s.elapse dt).portUp side = true)
    (due : 0 < (((s.elapse dt).port side).lane urgent).ackDue) :
    exec (.ackSend dt side urgent) s = .next (((s.elapse dt).slot.modPort side fun q => q.modLane urgent fun l =>
      { l with ackDue := 0 }).emit (.ack side urgent ((((s.elapse dt).port side).lane urgent).rxNext - 1))) := by
  simp [exec, execAckSend, runs, trained, due]

/-- Settles O21: each ordered set, by what its class then holds and what credits reach for. -/
theorem orderedSetsMoveTheLane : Obligations.OrderedSetsMoveTheLane := by
  unfold Obligations.OrderedSetsMoveTheLane
  intro s dt side urgent a l again packet counted runs trained
  have cnt : counted 1 = (a.count (portCounter side) false 1).par := by cases side <;> rfl
  refine ⟨fun seq => ack_of_trained urgent seq runs trained, ?_,
    fun freed none => credit_of_trained freed runs trained none, fun due => ?_, fun due => ?_, ?_, ?_⟩
  · intro seq left
    have replays {x : TxPacket} {r : List TxPacket} (h : left = x :: r) (few : x.resends < 4) :
        exec (.nak dt side urgent seq .clean) s = .next (replayed a side urgent (x :: r)) :=
      (nak_of_left runs trained h).trans (congrArg Host.Outcome.next (replayOrRetrain_of_few few))
    refine ⟨nak_of_nothing_left runs trained, fun x h few credit => ?_,
      fun x y h ne few credit => ⟨_, replays h few, replayed_two ne credit⟩,
      fun x y h ne few credit short => ⟨_, replays h few, replayed_two_short ne credit short⟩, fun x r h many => ?_⟩
    · rw [cnt]; exact ⟨_, replays h few, replayed_one credit⟩
    · exact ⟨_, (nak_of_left runs trained h).trans (congrArg Host.Outcome.next (replayOrRetrain_of_many many)),
        retrain_state ..⟩
  · exact ⟨_, creditSend_of_trained runs trained due, by simp [a, l], by simp [a, l], by simp [a]⟩
  · exact ⟨_, ackSend_of_trained runs trained due, by simp [a, l], by simp [a, l], by simp [a]⟩
  · intro x replay due few credit
    obtain ⟨replay', -, out, par, -⟩ := replayed_one (a := a) (side := side) (urgent := urgent) credit
    rw [cnt]
    exact ⟨_, replayTimeout_of_trained runs trained replay due few, replay', out, par⟩
  · intro x replay due few short
    obtain ⟨out, -⟩ := holding_frame a side urgent [owe x]
    have waits := (replayTimeout_of_trained runs trained replay due few).trans
      (congrArg Host.Outcome.next (replayed_one_short short))
    exact ⟨_, waits, congrArg Lane.replay (holding_lane a side urgent [owe x]), out⟩

end Sys2Proof.LingarisLink
end

/-! PROOFS. TIMEMARK and CHAIN_MARK (R97, R207-R210). -/
section
namespace Sys2Proof.LingarisLink

open Sys2Proof.Machine Sys2Proof.Laws

/-- TIMEMARK of the master: a slot, the departure kept, a CHAIN_MARK due with a new second, and the ordered set sent. -/
def timemarkSent (a : State) (sub : Nat) : State :=
  ({ a.slot with time := { a.time with
      sentMark := a.at10 sub / 1000
      markDue := a.time.markDue || decide (secondOf a.time.sentMark ≠ secondOf (a.at10 sub / 1000)) } } : State).emit
    (.timemark .down (BitVec.ofInt 22 (a.at10 sub / 1000)) (BitVec.ofInt 10 (a.at10 sub % 1000)))

/-- TIMEMARK_SEND at the master, past an instant divisible by 100,000 (R97). -/
theorem timemarkSend_of_due {s a : State} {dt sub : Nat} (passed : s.elapse dt = a) (master : a.dev.master = true)
    (runs : a.linkRuns = true) (down : a.down.state = .up)
    (due : epochOf a.time.sentMark ≠ epochOf (a.at10 sub / 1000)) :
    exec (.timemarkSend dt sub) s = .next (timemarkSent a sub) := by
  have up : a.portUp .down = true := by simp [State.portUp, State.port, down]
  simp [exec, execTimemarkSend, passed, master, runs, up, due, timemarkSent]

/-- A packet put into a trained port waits last in its class. -/
theorem put_of_up {s : State} {p : Side} (urgent : Bool) (t : TxPacket) (up : s.portUp p = true) :
    s.put p urgent t = s.modPort p fun q => q.modLane urgent fun l => { l with stored := l.stored ++ [t] } := by
  simp [State.put, up]

/-- What a packet of this device put into the up port leaves of the down port. -/
theorem put_up_down (s : State) (urgent : Bool) (t : TxPacket) : (s.put .up urgent t).down = s.down := by
  unfold State.put; split <;> rfl

/-- A bulk broadcast waits last in the trained down port (R72). -/
theorem broadcast_down {s : State} (opc : Nat) (words : List Word) (down : s.down.state = .up) :
    (s.broadcast opc false words).down.bulk.stored = s.down.bulk.stored ++
      [{ header := mkHeader 62 s.dev.addr opc 0 words.length false false false, words }] := by
  let sent : State := (s.noteSent opc).send .up 62 opc 0 false false words
  have port : sent.down = s.down := by simp [sent, State.send, put_up_down]
  have addr : sent.dev = s.dev := by simp [sent]
  have up : sent.portUp .down = true := by simp [State.portUp, State.port, port, down]
  have put : s.broadcast opc false words = _ := put_of_up false _ up
  rw [put]
  change sent.down.bulk.stored ++
    [{ header := mkHeader 62 sent.dev.addr opc 0 words.length false false false, words }] = _
  rw [port, addr]

/-- CHAIN_MARK_BROADCAST at the master, when one is due (R209). -/
theorem chainMarkBroadcast_of_due {s a : State} {dt : Nat} (passed : s.elapse dt = a) (master : a.dev.master = true)
    (due : a.time.markDue = true) (answers : a.answers = true) :
    exec (.chainMarkBroadcast dt) s = .next (({ a with time := { a.time with markDue := false } } : State).broadcast 0x07
      false [word 0x107, word (unsign 48 a.time.sentMark), word 0x108, word (unsign 16 (a.time.sentMark / 2 ^ 48)),
        word 0x106, a.work 0x106]) := by
  simp [exec, execChainMarkBroadcast, passed, master, due, answers]

/-- Rounding to the nearest integer can use up a free value, and leaves everything else (log entry 12). -/
theorem nearest_frame (s : State) (q : Rat) : ∃ n, (s.nearest q).2 = { s with freeCtr := n } := by
  unfold State.nearest State.quantise
  split
  · split
    · exact ⟨_, rfl⟩
    · exact ⟨_, rfl⟩
  · exact ⟨_, rfl⟩

/-- A TIMEMARK kept by its receiver: its field and fraction, the full time that `k` turns of the field give it, and when it
came (R207). -/
def markOf (a : State) (dep : BitVec 22) (fr : BitVec 10) (sub : Nat) (k : Int) : Mark :=
  { field := dep, fraction := fr, resolved := (dep.toNat : Int) + k * 2 ^ 22, arrival := a.at10 sub, at_ := a.clk }

/-- TIMEMARK at a device with another source than CHAIN: forwarded and kept (R97, R207). -/
theorem timemark_of_otherSource {s a : State} {dt : Nat} (dep : BitVec 22) (fr : BitVec 10) (sub : Nat)
    (passed : s.elapse dt = a) (runs : a.linkRuns = true) (up : a.up.state = .up) (down : a.down.state = .up)
    (source : a.time.source ≠ 1) :
    ∃ (k : Int) (n : Nat), exec (.timemark dt dep fr sub) s = .next { a.slot.emit (.timemark .down dep fr) with
      freeCtr := n, time := { a.time with marks := (markOf a dep fr sub k :: a.time.marks).take 32 } } := by
  have trained : a.portUp .up = true := by simp [State.portUp, State.port, up]
  have trained' : a.slot.portUp .down = true := by simp [State.portUp, State.port, down]
  simp only [exec, execTimemark, passed, runs, trained, trained']
  simp only [Bool.not_true, Bool.or_self, Bool.false_eq_true, if_false, if_true]
  generalize near : (a.slot.emit (.timemark .down dep fr)).nearest _ = kt
  obtain ⟨k, t⟩ := kt
  obtain ⟨n, rest⟩ := nearest_frame (a.slot.emit (.timemark .down dep fr)) _
  rw [near] at rest
  obtain rfl : t = _ := rest
  exact ⟨k, n, by rw [if_pos (by simpa using source)]; rfl⟩

/-- Settles O52: what the three commands of chain time send and keep, in the states that the statement names. -/
theorem chainTimeTravels : Obligations.ChainTimeTravels := by
  unfold Obligations.ChainTimeTravels
  intro s dt a
  have passed : s.elapse dt = a := rfl
  clear_value a
  refine ⟨fun sub master runs down due => ?_, fun master due answers down => ?_, fun dep fr sub runs up down source => ?_⟩
  · exact ⟨_, timemarkSend_of_due passed master runs down due, rfl, rfl, rfl, rfl⟩
  · exact ⟨_, chainMarkBroadcast_of_due passed master due answers, by simp, broadcast_down 0x07 _ down, by simp,
      by simp, by simp⟩
  · obtain ⟨k, n, goes⟩ := timemark_of_otherSource dep fr sub passed runs up down source
    refine ⟨_, goes, by simp, ⟨markOf a dep fr sub k, rfl, rfl, rfl, ?_, rfl, rfl⟩, by simp, by simp⟩
    simp only [markOf]
    have := dep.isLt
    omega

end Sys2Proof.LingarisLink
end
